-- ==== Sys2Proof/Word.lean ====
section
/-! DEFINITION. The words of the JH640: a byte, a 64-byte line, a byte mask, a 32-bit value (00_scope.md, section 0.6.1).
A line is one bit vector of 512 bits: byte `k` of the line is bits `8k` to `8k+7`, so that a little-endian
multi-byte field at offset `o` is one run of bits (12_record_layouts.md: "Multi-byte fields are little-endian"). -/

namespace Sys2Proof

/-- One byte. -/
abbrev Byte := BitVec 8

/-- One 64-byte line, byte `k` at bits `8k` to `8k+7` (section 0.6.1). -/
abbrev Line := BitVec 512

/-- The byte mask of one write line: bit `k` marks byte `k` to be written (section 1.1). -/
abbrev Mask := BitVec 64

/-- A 32-bit value: a key, a chain, a flags field. -/
abbrev Word32 := BitVec 32

end Sys2Proof
end

