-- ==== Sys2Proof/Syntax.lean ====
section
/-! DEFINITION. The commands of the JH640: one constructor of `Instr` per row of spec/opcode_table.json, in the
table's order. The rows are the part's steps, "each whole and indivisible" (95_what_each_step_holds.md).
A step that belongs to one line of a link request names that request by its transaction number: the line's
data (a control record, a journal entry, a price line, an acknowledgement) are the bytes the request carried,
which stand in the outstanding-request table (R2), and the decoder reads them there (R40, R72, R112, R148). -/

namespace Sys2Proof

/-- Direction of an access (section 1.1). -/
inductive AccessKind where
  | read
  | write
deriving DecidableEq, Repr

/-- Mask and data of one write line of a request (section 1.1). -/
structure WriteLine where
  mask : Mask
  data : Line
deriving DecidableEq, Repr

/-- A request on the link (section 1.1): its kind, transaction number, initiator tag, bus address, line count
(the field holds the count less one) and, for a write, one mask and data per line. -/
structure LinkRequest where
  kind : AccessKind
  txn : Fin 64
  tag : Fin 16
  addr : Word32
  count : Fin 4
  lines : List WriteLine
deriving DecidableEq, Repr

/-- What the two-wire serial port finds at the configuration EEPROM (R189 step 1): no device answers, or the
device's bytes from its first byte on. Bytes past the listed ones read as FFh, the erased value
(log entry 10). -/
inductive EepromRead where
  | noAnswer
  | answers (bytes : List Byte)
deriving DecidableEq, Repr

/-- The commands: one constructor per row of spec/opcode_table.json. -/
inductive Instr where
  /-- REQUEST (R1): a request arrives on the link. -/
  | request (r : LinkRequest)
  /-- REQUEST_START (R6): the QUEUED request of this transaction number starts. -/
  | requestStart (txn : Fin 64)
  /-- JOURNAL_ENTRY (R75): the request's line at its turn, a CPU write into a journal window, enters stage 4. -/
  | journalEntry (txn : Fin 64)
  /-- PRICE_WRITE_CAPTURE (R112): the request's line at its turn enters the capture queue. -/
  | priceWriteCapture (txn : Fin 64)
  /-- ACKNOWLEDGEMENT (R148): the request's line at its turn, a label acknowledgement, enters stage 4. -/
  | acknowledgement (txn : Fin 64)
  /-- DRAM_GRANT (R15). -/
  | dramGrant
  /-- PASSED_WRITE_COMPLETE (R12). -/
  | passedWriteComplete
  /-- PASSED_READ_COMPLETE (R13). -/
  | passedReadComplete
  /-- PLACEMENT_ISSUE (R49). -/
  | placementIssue
  /-- PLACEMENT_COMPLETE (R49). -/
  | placementComplete
  /-- CAPTURE_READ_ISSUE (R114). -/
  | captureReadIssue
  /-- CAPTURE_READ_COMPLETE (R115). -/
  | captureReadComplete
  /-- CHECK_READ_ISSUE (R130). -/
  | checkReadIssue
  /-- CHECK_READ_COMPLETE (R130). -/
  | checkReadComplete
  /-- WRITE_BACK_COMPLETE (R130). -/
  | writeBackComplete
  /-- PERIOD_BOUNDARY (R57). -/
  | periodBoundary
  /-- COMPARE_EVENT (R58). -/
  | compareEvent
  /-- ROUND_TRIGGER (R137). -/
  | roundTrigger
  /-- EPOCH_BOUNDARY (R127). -/
  | epochBoundary
  /-- SECOND_EVENT (R61). -/
  | secondEvent
  /-- GRACE_EXPIRY (R173). -/
  | graceExpiry
  /-- DEFERRED_CLOSE_RETRY (R171). -/
  | deferredCloseRetry
  /-- PACING_EXPIRY (R157). -/
  | pacingExpiry
  /-- DAY_OPEN_ORDER (R169). -/
  | dayOpenOrder
  /-- SWITCH_ORDER (R174). -/
  | switchOrder
  /-- PART_WRITE_ISSUE (R88). -/
  | partWriteIssue
  /-- PART_WRITE_COMMIT (R88). -/
  | partWriteCommit
  /-- WORK_RECORD_ISSUE (R142). -/
  | workRecordIssue
  /-- WORK_RECORD_COMPLETE (R143). -/
  | workRecordComplete
  /-- ZONE_TIMEOUT (R145). -/
  | zoneTimeout
  /-- IMAGE_READ_COMPLETE (R192). -/
  | imageReadComplete
  /-- EEPROM_READ_COMPLETE (R193): the EEPROM read of a load ends, having found this. -/
  | eepromReadComplete (eeprom : EepromRead)
  /-- RESULT_LINE_ISSUE (R191). -/
  | resultLineIssue
  /-- RESULT_LINE_WRITTEN (R191). -/
  | resultLineWritten
  /-- LINK_RESET (R16). -/
  | linkReset
  /-- POWER_FAIL_HOLD_BEGIN (R17, R197): PFAIL_N is asserted. -/
  | powerFailHoldBegin
  /-- POWER_FAIL_HOLD_END (R17, R197): PFAIL_N is deasserted. -/
  | powerFailHoldEnd
  /-- START_UP (R189): the whole start-up. `eeprom` is what its EEPROM read finds, `pfail` says whether PFAIL_N is
  asserted when it ends (R197), `arrivals` are the transaction numbers of the requests that arrive while it runs. -/
  | startUp (eeprom : EepromRead) (pfail : Bool) (arrivals : List (Fin 64))
  /-- ACK_REPORTS (R52): the request's line at its turn is this control record and is taken; so for every command below. -/
  | ackReports (txn : Fin 64)
  /-- SET_IRQ_THRESHOLD (R54). -/
  | setIrqThreshold (txn : Fin 64)
  /-- QUERY_STATUS (R45). -/
  | queryStatus (txn : Fin 64)
  /-- UNLOCK (R31). -/
  | unlock (txn : Fin 64)
  /-- SET_WINDOW (R34). -/
  | setWindow (txn : Fin 64)
  /-- SET_CLASS_MAP (R38). -/
  | setClassMap (txn : Fin 64)
  /-- SET_CLASS_DEFAULTS (R39). -/
  | setClassDefaults (txn : Fin 64)
  /-- DUMP_GUARD_LOG (R28). -/
  | dumpGuardLog (txn : Fin 64)
  /-- CLEAR_GUARD_LOG (R29). -/
  | clearGuardLog (txn : Fin 64)
  /-- SET_TIMEBASE (R60). -/
  | setTimebase (txn : Fin 64)
  /-- SET_CLOCK (R62). -/
  | setClock (txn : Fin 64)
  /-- SET_SCHEDULE (R63). -/
  | setSchedule (txn : Fin 64)
  /-- QUERY_TOTALS (R110). -/
  | queryTotals (txn : Fin 64)
  /-- SET_PRICE_VIEW (R126). -/
  | setPriceView (txn : Fin 64)
  /-- FORCE_EFFECTIVE (R128). -/
  | forceEffective (txn : Fin 64)
  /-- WITHDRAW_PRICE (R129). -/
  | withdrawPrice (txn : Fin 64)
  /-- QUERY_WATCH (R131). -/
  | queryWatch (txn : Fin 64)
  /-- SET_ROUNDS (R134). -/
  | setRounds (txn : Fin 64)
  /-- START_ROUND (R136). -/
  | startRound (txn : Fin 64)
  /-- STOP_ROUND (R140). -/
  | stopRound (txn : Fin 64)
  /-- SET_GUEST_BUDGET (R153). -/
  | setGuestBudget (txn : Fin 64)
  /-- CLEAR_GUEST_LATCH (R163). -/
  | clearGuestLatch (txn : Fin 64)
  /-- OPEN_DAY (R168). -/
  | openDay (txn : Fin 64)
  /-- CLOSE_DAY (R170). -/
  | closeDay (txn : Fin 64)
  /-- CLOSE_NOW (R172). -/
  | closeNow (txn : Fin 64)
  /-- EXPORT_BEGIN (R178). -/
  | exportBegin (txn : Fin 64)
  /-- EXPORT_COMPLETE (R182). -/
  | exportComplete (txn : Fin 64)
  /-- EXPORT_ABORT (R183). -/
  | exportAbort (txn : Fin 64)
  /-- RELOAD_CONFIG (R193; from the bootstrap page R192). -/
  | reloadConfig (txn : Fin 64)
  /-- LOAD_CONFIG (R192; from the control window R41). -/
  | loadConfig (txn : Fin 64)
  /-- UNKNOWN_COMMAND (R41): the record's command code is not one that Chapter 12 defines. -/
  | unknownCommand (txn : Fin 64)
  /-- RETAINED_SUPPLY_LOST (R195). -/
  | retainedSupplyLost
deriving DecidableEq, Repr

end Sys2Proof
end

