-- ==== Sys2Proof/Decode.lean ====
section
/-! DEFINITION. The command that a word spells. The rows of spec/opcode_table.json give no bits: a command of this block
is an event on the link, on a pin or inside the part, and none of them is a word. -/

namespace Sys2Proof

/-- The command spelled by a word of the table's bits: no row gives any. -/
def decodeTableWord (_nbits _w : Nat) : Option Instr := none

end Sys2Proof
end

