-- ==== Sys2Proof/Config.lean ====
section
/-! DEFINITION. What is fixed for the part: the sizes and limits the rules name, the factory settings, the fixed
places of the bootstrap page, and the free values (opaque: nothing can be proved of their value). -/

namespace Sys2Proof.Config

/-- Bytes in a line and in a page (section 0.6.1). -/
def lineBytes : Nat := 64
def pageBytes : Nat := 4096
/-- Lines in a page. -/
def pageLines : Nat := 64
/-- The highest bus page number (section 0.6.1). -/
def maxPage : Nat := 1048575

/-- R1: entries of the outstanding-request table, and the lines in the Link Port and the passed-line queue. -/
def maxRequests : Nat := 32
def maxLines : Nat := 128
/-- R15: the wait count at which a waiting inserted access goes first. -/
def maxWait : Nat := 8
/-- R26: entries of the guard log, and the top of a repeat count. -/
def guardLogSize : Nat := 8
def maxRepeat : Nat := 65535
/-- R30: the bad keys that bar the edit lock. -/
def badKeyLimit : Nat := 3
/-- R48: places of the pending queue. -/
def pendingSize : Nat := 16
/-- R46, R146: the most slots a ring has. -/
def maxRing : Nat := 4096
/-- R113: places of the capture queue. R123: entries of the watch table. -/
def captureSize : Nat := 4
def watchSize : Nat := 256
/-- R158: places of the deferral queue. R154, R161: the top of the guest counts. R154: the top of the pacing timer. -/
def deferralSize : Nat := 16
def guestTop : Nat := 65535
def pacingTop : Nat := 255
/-- R74: the lines a bank keeps for the part's own entries. R79: lines of a line list. -/
def reservedLines : Nat := 33
def listSize : Nat := 64
/-- R103: the limit of an accumulator, 2^47 - 1. R104: the top of a count. -/
def accLimit : Int := 140737488355327
def countTop : Nat := 4294967295
/-- R98: the ranges of a unit price and of a quantity. R81: the largest tender. R99: the largest discount. -/
def maxPrice : Nat := 9999999
def maxQuantity : Int := 1000000
def maxTender : Int := 9999999999
def maxDiscount : Nat := 10000
/-- R61: seconds of a day. R63: the longest grace. R171: second events between retries of a deferred close. -/
def daySeconds : Nat := 86400
def maxGrace : Nat := 3600
def retrySeconds : Nat := 60
/-- R142: items of one work record. -/
def recordItems : Nat := 6

/-- R66: the factory period settings. -/
def factoryP : Nat := 1000
def factoryC : Nat := 0
def factoryE : Nat := 10
def factoryN : Nat := 1
/-- R66, section 4.5: the factory default grace (close_at and export_end are DISABLED, the carry mode CARRY). -/
def factoryGrace : Nat := 300
/-- R152: the factory hard and soft guest budgets. -/
def factoryBudget : Nat := 65535
/-- R133: the factory zone timeout and attempt limit (every zone enabled, ONE_ROUND, COMMAND). -/
def factoryTimeout : Nat := 10
def factoryAttempts : Nat := 3

/-- R191: the bus address of line 0 of the bootstrap page (page 15), and the DRAM address of its line 1. -/
def bootstrapLine : Nat := 61440
def resultLine : Nat := 61504
/-- R192: the first address a bootstrap LOAD_CONFIG may not name, 256 MiB. -/
def bootstrapLimit : Nat := 268435456
/-- R187: the lengths of an image, and the size the sections of format 1 occupy (section 12.6). -/
def imageMin : Nat := 64
def imageMax : Nat := 2048
def imageFormat : Nat := 1
def imageSize : Nat := 640

/-- What a DRAM byte that nothing has written reads as. The spec gives DRAM no contents after power-on:
DESIGN CHOICE, log entry 3, unsafe. -/
def unwritten : Byte := 0

/-- FREE VALUE (log entry 5). When close_at and export_end name the same second, both matches arise from one second
event (R64) and the spec sets no order between them (R65). `exportFirst n` says whether the `n`-th such event
gives the Day Controller the export-deadline match before the close-time match. -/
opaque exportFirst : Nat → Bool

end Sys2Proof.Config
end

