-- ==== Sys2Proof/Machine/State.lean ====
section
/-! DEFINITION. Everything the spec gives the JH640, as plain data, one structure per block of section 0.3, and the
machine right after a start-up that found no EEPROM and an invalid retained store (`State.reset`).
The docstring of a field names the rule that gives it. State that only the model has is marked MODEL. -/

namespace Sys2Proof.Machine

open Sys2Proof

/-! ### Enumerations (12_record_layouts.md, section 12.1) -/

/-- R4: the six initiator classes. -/
inductive InitClass where
  | cpu | lan | guest | label | wan | other
deriving DecidableEq, Repr

/-- One value for each initiator class. -/
structure PerClass (α : Type) where
  cpu : α
  lan : α
  guest : α
  label : α
  wan : α
  other : α
deriving DecidableEq, Repr

/-- Section 2.1: what a class may do. -/
inductive Rights where
  | none | read | readWrite
deriving DecidableEq, Repr

/-- Section 2.1.1: the roles of a window. -/
inductive Role where
  | plain | control | report | journalA | journalB | price | labelQueue | labelAck
deriving DecidableEq, Repr

/-- Section 5.1: the two journal banks. -/
inductive Bank where
  | a | b
deriving DecidableEq, Repr

/-- R10, section 2.3: the causes a refused line may carry. -/
inductive Cause where
  | noRight | writeProtect | outOfRange | notJournalWriter | appendOrder | format | bankFull | closing | switching
  | watchFull | guestLatch
deriving DecidableEq, Repr

/-- R41: the codes a CMD_REFUSED may carry. -/
inductive RefusalCode where
  | locked | badKey | barred | badArg | overlap | roleTaken | roleBusy | alias_ | busy | wrongState | notFound
  | otherBankBusy | notVerified | unknownCommand | configBad | configConflict | badRange
deriving DecidableEq, Repr

/-- R11: the installed DRAM sizes. -/
inductive DramSize where
  | m256 | m512 | g1 | g2 | g4
deriving DecidableEq, Repr

/-- R126: the price views. -/
inductive PriceView where
  | substituted | raw
deriving DecidableEq, Repr

/-- R111: what the price check does with a till that charges a raised price early. -/
inductive Policy where
  | hold | flag
deriving DecidableEq, Repr

/-! ### Link Port -/

/-- R3: the outcome of one line. -/
inductive LineOutcome where
  | pending | good | filled | discarded
deriving DecidableEq, Repr

/-- R2: the progress of an outstanding request. ANSWERED is no value here: sending the completion removes the
entry (R2). -/
inductive Progress where
  | queued | judged | active
deriving DecidableEq, Repr

/-- R6, R22: the guard's verdict on one line: a pass with the line's DRAM address, window index, role and line index
within the window, or a refusal with its cause and window index. -/
inductive Verdict where
  | pass (dram : Nat) (window : Option (Fin 16)) (role : Role) (index : Nat)
  | refuse (cause : Cause) (window : Option (Fin 16))
deriving DecidableEq, Repr

/-- R7: where a PENDING line of a started request stands: it has not taken effect yet, waits for stage 5, is held in
the price capture queue, or has been handed to the Memory Port. -/
inductive LineStage where
  | awaitsTurn | awaitsGuest | held | handed
deriving DecidableEq, Repr

/-- R2: one line of an outstanding request. -/
structure ReqLine where
  /-- The line's bus byte address. -/
  bus : Nat
  mask : Mask
  data : Line
  /-- None before the request starts. -/
  verdict : Option Verdict
  stage : LineStage
  outcome : LineOutcome
  /-- Data delivered for a read. -/
  delivered : Line
deriving DecidableEq, Repr

/-- R2: one entry of the outstanding-request table. -/
structure Request where
  txn : Fin 64
  tag : Fin 16
  kind : AccessKind
  /-- R4: looked up when the request starts. -/
  cls : InitClass
  /-- R126: taken with the class when the request starts. -/
  view : PriceView
  progress : Progress
  lines : List ReqLine
  /-- R6: capture places reserved for it and not yet used. -/
  captureReserved : Nat
  /-- R6: whether a deferral place is reserved for it. -/
  deferralReserved : Bool
deriving DecidableEq, Repr

/-- Section 1.1: the answer a completion carries. -/
inductive Answer where
  | retry
  | taken (statuses : List LineOutcome) (data : List Line)
deriving DecidableEq, Repr

/-- Section 1.1: a completion. -/
structure Completion where
  txn : Fin 64
  answer : Answer
deriving DecidableEq, Repr

structure LinkState where
  /-- R2: the outstanding-request table, in the order the requests were taken. Empty after start-up. -/
  requests : List Request
  /-- MODEL: the completions sent on LNK_TX since reset, oldest first (section 0.5). -/
  completions : List Completion
deriving DecidableEq, Repr

/-! ### Window Guard -/

/-- Section 2.1: an entry of the window table. -/
structure Window where
  enabled : Bool
  base : Nat
  limit : Nat
  offset : Int
  role : Role
  rights : PerClass Rights
  writeProtect : Bool
deriving DecidableEq, Repr

/-- R30: the edit lock. -/
inductive LockState where
  | locked | open | barred
deriving DecidableEq, Repr

/-- R26: an entry of the guard log. -/
structure GuardEntry where
  tag : Fin 16
  cls : InitClass
  bus : Nat
  kind : AccessKind
  cause : Cause
  window : Option (Fin 16)
  count : Nat
deriving DecidableEq, Repr

structure GuardState where
  /-- R4, R38: the class of each tag. -/
  classMap : Vector InitClass 16
  /-- R21: the class defaults. -/
  defaults : PerClass Rights
  /-- R18: the window table. -/
  windows : Vector Window 16
  /-- R30: the edit lock, its bad-key count, and the key pair (absent while UNCONFIGURED, R190). -/
  lock : LockState
  badKeys : Nat
  keys : Option (Word32 × Word32)
  /-- R26: the guard log, newest first. Empty after start-up. -/
  log : List GuardEntry
deriving DecidableEq, Repr

/-! ### Memory Port -/

/-- R14: the sources of inserted accesses, in the arbiter's cyclic order. -/
inductive Source where
  | reportWriter | journalEngine | priceWatch | labelSequencer | configLoader
deriving DecidableEq, Repr

/-- One value for each source. -/
structure PerSource (α : Type) where
  reportWriter : α
  journalEngine : α
  priceWatch : α
  labelSequencer : α
  configLoader : α
deriving DecidableEq, Repr

/-- R14: an inserted access to one DRAM line. -/
structure Access where
  kind : AccessKind
  addr : Nat
  mask : Mask
  data : Line
deriving DecidableEq, Repr

/-- R14: a source's slot. -/
inductive Slot where
  | empty
  | waiting (acc : Access) (count : Nat)
  | granted (acc : Access)
deriving DecidableEq, Repr

/-- A line of an outstanding request. -/
structure LineRef where
  txn : Fin 64
  idx : Nat
deriving DecidableEq, Repr

/-- R103: an accumulator, a signed value in cents and an overflow marker. -/
structure Acc where
  value : Int := 0
  marked : Bool := false
deriving DecidableEq, Repr

/-- Section 6.6: a till's day totals. -/
structure TillTotals where
  sales : Acc := {}
  returns : Acc := {}
  voids : Acc := {}
  net : Acc := {}
  txns : Nat := 0
  lines : Nat := 0
  abandoned : Nat := 0
  suspended : Nat := 0
deriving DecidableEq, Repr

/-- Section 6.6: the store's day totals. -/
structure StoreTotals where
  net : Acc := {}
  entries : Nat := 0
  flagged : Nat := 0
  txns : Nat := 0
deriving DecidableEq, Repr

/-- Section 6.6: the day totals of a bank. -/
structure DayTotals where
  tills : Vector TillTotals 32 := Vector.replicate 32 {}
  store : StoreTotals := {}
deriving DecidableEq, Repr

/-- R77: the state of a till. -/
inductive TillState where
  | idle | inTxn
deriving DecidableEq, Repr

/-- R77: one line of a line list; `isReturn` tells a RETURN from a SALE. -/
structure ListedLine where
  seq : Nat
  item : Nat
  isReturn : Bool
  amount : Int
deriving DecidableEq, Repr

/-- R77: a till context. -/
structure TillContext where
  seqValid : Bool := false
  lastSeq : Nat := 0
  state : TillState := .idle
  txnNo : Nat := 0
  list : List ListedLine := []
  total : Acc := {}
  tender : Acc := {}
  sales : Acc := {}
  returns : Acc := {}
  voids : Acc := {}
deriving DecidableEq, Repr

/-- R92: what an accepted initiator entry carries to its commit: the copies of the fields it changed as they stood
just after it was taken, and what its ENTRY_FLAGGED report names (R91). -/
structure EntryCommit where
  bank : Bank
  cursor : Nat
  lastIndex : Option Nat
  running : Word32
  totals : DayTotals
  till : Fin 32
  context : TillContext
  index : Nat
  seq : Nat
  kind : Nat
  flags : Word32
deriving DecidableEq, Repr

/-- R12: a line handed to the Memory Port. `owner` is none once a link reset has dropped its request (R16);
`commit` is what a journal entry carries (R92); `released` marks a held price write that was let go (R120). -/
structure PassedLine where
  owner : Option LineRef
  kind : AccessKind
  addr : Nat
  mask : Mask
  data : Line
  commit : Option EntryCommit
  released : Bool
deriving DecidableEq, Repr

/-- Section 1.3: the DRAM port, IDLE or BUSY with the access last granted. -/
inductive Port where
  | idle
  | passed (line : PassedLine)
  | inserted (src : Source)
deriving DecidableEq, Repr

/-- DRAM contents: cells in strictly rising address order, none equal to what an unlisted address reads as. -/
abbrev Memory := List Host.Cell

structure MemState where
  /-- The controller's DRAM, which the part owns (section 0.1). -/
  dram : Memory
  /-- R11: the installed size. -/
  size : DramSize
  /-- R3: the fill value, FFh after start-up until an image sets another. -/
  fill : Byte
  port : Port
  /-- R12: the passed-line queue, head first. Empty after start-up. -/
  queue : List PassedLine
  /-- R14: one slot per source, EMPTY after start-up. -/
  slots : PerSource Slot
  /-- R17: the access each source issues again at the end of the hold. -/
  abandoned : PerSource (Option Access)
  /-- R15: the source last granted, the Configuration Loader after start-up. -/
  lastGranted : Source
  /-- R17: whether the DRAM is in self-refresh. -/
  selfRefresh : Bool
  /-- R17, R197: whether the power-fail hold is in force. -/
  hold : Bool
deriving DecidableEq, Repr

/-! ### Control Decoder -/

structure DecoderState where
  /-- R44: the taken and refused counts, 0 after start-up. -/
  taken : Nat
  refused : Nat
deriving DecidableEq, Repr

/-! ### Time Base -/

/-- R60: period, compare, epoch postscaler, round postscaler. -/
structure PeriodSettings where
  p : Nat
  c : Nat
  e : Nat
  n : Nat
deriving DecidableEq, Repr

/-- R61: the clock state. -/
inductive ClockState where
  | unset | set
deriving DecidableEq, Repr

/-- R166: the carry mode. -/
inductive CarryMode where
  | carry | drop
deriving DecidableEq, Repr

/-- Section 4.5: the schedule; none is DISABLED. -/
structure Schedule where
  closeAt : Option Nat
  exportEnd : Option Nat
  grace : Nat
  carry : CarryMode
deriving DecidableEq, Repr

structure TimeState where
  /-- Section 4.1: the period counter, 0 after start-up. -/
  counter : Nat
  inForce : PeriodSettings
  staged : Option PeriodSettings
  epochCount : Nat
  roundCount : Nat
  /-- R61: the store clock. -/
  seconds : Nat
  millis : Nat
  clock : ClockState
  schedule : Schedule
  /-- MODEL: microseconds of the reference clock within the present tick (log entry 2). -/
  micros : Nat
  /-- MODEL: compare events, round triggers and epoch boundaries made by a tick and not yet handed to their
  consumer, each handed by its own row of the table (R65, log entry 2). -/
  compareDue : Nat
  triggerDue : Nat
  epochDue : Nat
deriving DecidableEq, Repr

/-! ### Journal Engine -/

/-- R68: the states of a bank. -/
inductive BankState where
  | idle | open | closing | closed | exporting | verified
deriving DecidableEq, Repr

/-- R68: a bank record. -/
structure BankRecord where
  state : BankState := .idle
  dayNumber : Nat := 0
  seed : Word32 := 0
  cursor : Nat := 0
  lastIndex : Option Nat := none
  running : Word32 := 0
  final : Word32 := 0
  fullMarker : Bool := false
  inFlight : Nat := 0
  savedWan : Rights := .none
  exportCursor : Nat := 0
  exportChain : Word32 := 0
  totals : DayTotals := {}
deriving DecidableEq, Repr

/-- R71: the kinds of entry the part writes. -/
inductive PartKind where
  | dayOpen | txnSuspend | dayClose | txnResume
deriving DecidableEq, Repr

/-- R88: an order for a part-written entry. -/
structure PartOrder where
  bank : Bank
  kind : PartKind
  till : Fin 32
deriving DecidableEq, Repr

/-- R88: the part-write state. -/
inductive PartWrite where
  | idle
  | draining (order : PartOrder)
  | writing (order : PartOrder) (entry : Line)
deriving DecidableEq, Repr

structure JournalState where
  bankA : BankRecord
  bankB : BankRecord
  /-- R77: the till contexts. -/
  contexts : Vector TillContext 32
  /-- R69: the carried chain. -/
  carried : Option Word32
  /-- R69: the chain seed of the configuration in force, 0 while UNCONFIGURED (R190). -/
  chainSeed : Word32
  partWrite : PartWrite
deriving DecidableEq, Repr

/-! ### Price Watch -/

/-- R123: the states of a watch entry. -/
inductive WatchState where
  | staged | sending | shown | failed
deriving DecidableEq, Repr

/-- R123: the exit markers. AFTER_WRITE carries the DRAM address of the released write it waits for (R120). -/
inductive ExitMarker where
  | none
  | afterWrite (line : Nat)
  | withdraw
deriving DecidableEq, Repr

/-- R123: an entry of the watch table. -/
structure WatchEntry where
  item : Nat
  line : Nat
  oldPrice : Nat
  newPrice : Nat
  zone : Fin 16
  facings : Fin 16
  policy : Policy
  acked : BitVec 16
  state : WatchState
  attempts : Nat
  epochSeen : Bool
  exit : ExitMarker
deriving DecidableEq, Repr

/-- R113: the state of a line of the capture queue. -/
inductive CaptureStage where
  | waiting | reading | released
deriving DecidableEq, Repr

/-- R112: a line of the capture queue. `owner` is none once a link reset has dropped its request. -/
structure CaptureLine where
  owner : Option LineRef
  addr : Nat
  data : Line
  stage : CaptureStage
deriving DecidableEq, Repr

/-- Section 7.2.2: the Price Watch's access state, with the item of the withdrawal in progress. -/
inductive PriceAccess where
  | idle
  | captureRead
  | checkRead (item : Nat)
  | writeBack (item : Nat)
deriving DecidableEq, Repr

/-- R114: the kind of access issued last. -/
inductive LastIssue where
  | capture | withdrawal
deriving DecidableEq, Repr

structure PriceState where
  /-- R123: the watch table, in table order. -/
  table : List WatchEntry
  /-- R129: withdrawal order, by item code. -/
  withdrawals : List Nat
  /-- R113: the capture queue. Empty after start-up. -/
  queue : List CaptureLine
  access : PriceAccess
  lastIssue : LastIssue
  /-- R126: the price view of each class. -/
  views : PerClass PriceView
  /-- R123: the entry whose check read is in progress lies outside a changed PRICE window. -/
  dropAtCheck : Bool
deriving DecidableEq, Repr

/-! ### Label Sequencer -/

/-- R133: the round mode. -/
inductive RoundMode where
  | oneRound | continuous
deriving DecidableEq, Repr

/-- R133: the round trigger setting. -/
inductive RoundTrigger where
  | command | timebase
deriving DecidableEq, Repr

/-- R133: the round settings; bit `z` of the mask enables zone `z`. -/
structure RoundSettings where
  mask : BitVec 16
  mode : RoundMode
  trigger : RoundTrigger
  timeout : Nat
  limit : Nat
deriving DecidableEq, Repr

/-- R135: the round state. -/
inductive RoundState where
  | idle | running | stopping
deriving DecidableEq, Repr

/-- R135: the state of a zone. -/
inductive ZoneState where
  | standby | queueing | waiting | done
deriving DecidableEq, Repr

/-- R141: an item of the visit list. -/
structure VisitItem where
  item : Nat
  written : Bool
deriving DecidableEq, Repr

/-- R142: the work record in flight: its items with the price written. `live` is cleared by a link reset (R149);
`inRing` is cleared when the LABEL_QUEUE window changes under it (R146). -/
structure WorkWrite where
  items : List (Nat × Nat)
  live : Bool
  inRing : Bool
deriving DecidableEq, Repr

structure LabelState where
  settings : RoundSettings
  round : RoundState
  number : Nat
  zone : Option (Fin 16)
  zones : Vector ZoneState 16
  visit : List VisitItem
  awaited : List Nat
  sent : Nat
  shown : Nat
  timedOut : Nat
  timeout : Nat
  visited : Nat
  recordNo : Nat
  /-- R135: the access state: none is IDLE, a record is WRITING. -/
  writing : Option WorkWrite
  /-- Section 8.4: the label queue. -/
  producer : Nat
  consumer : Nat
  phase : Bool
deriving DecidableEq, Repr

/-! ### Guest Budget -/

/-- R152: the guest mode. -/
inductive GuestMode where
  | off | cycle | latched
deriving DecidableEq, Repr

/-- R152: a set of budget settings. -/
structure GuestSettings where
  mode : GuestMode
  hard : Nat
  soft : Nat
  pace : Nat
  fault : Nat
deriving DecidableEq, Repr

/-- R162: the cause of a set latch. -/
inductive LatchCause where
  | budget | guardFault
deriving DecidableEq, Repr

/-- R158: the condition of a deferred request. -/
inductive DeferCond where
  | follow | pace | period
deriving DecidableEq, Repr

/-- R158: an entry of the deferral queue. -/
structure Deferred where
  txn : Fin 64
  tag : Fin 16
  size : Nat
  cond : DeferCond
deriving DecidableEq, Repr

structure GuestState where
  inForce : GuestSettings
  staged : Option GuestSettings
  usage : Nat
  violations : Nat
  /-- R152: the guest latch; none is CLEAR. -/
  latch : Option LatchCause
  queue : List Deferred
  /-- R154: the pacing timer, in microseconds, 255 after start-up. -/
  timer : Nat
deriving DecidableEq, Repr

/-! ### Day Controller -/

/-- R166: the day state. -/
inductive DayPhase where
  | noDay | dayOpen | closing | switching
deriving DecidableEq, Repr

structure DayState where
  phase : DayPhase
  openBank : Option Bank
  closingBank : Option Bank
  carry : CarryMode
  timed : Bool
  grace : Nat
  progress : Nat
  /-- R171: the deferred close, pending with its retry count. -/
  deferred : Option Nat
  /-- MODEL: the 60th second event of a pending deferred close has come and its retry, a row of the table of its own,
  has not yet been made (R171, log entry 2). -/
  retryDue : Bool
  /-- R166: the order state, true while ORDERED. -/
  ordered : Bool
deriving DecidableEq, Repr

/-! ### Configuration Loader and retained store -/

/-- R189: a configuration result. -/
inductive ConfigResult where
  | valid | absent | bad
deriving DecidableEq, Repr

/-- R191: the status of a bootstrap result. -/
inductive BootStatus where
  | accepted | done | refused
deriving DecidableEq, Repr

/-- Chapter 11: what began a load; `bootstrap` tells the bootstrap page from the control window. -/
structure LoadOrigin where
  bootstrap : Bool
  code : Nat
  cookie : Nat
deriving DecidableEq, Repr

/-- Chapter 11: the load state; a READING_MEMORY load has the address of its next line, the lines read so far, oldest
first, and the line count expected once the header is read. -/
inductive Load where
  | idle
  | readingEeprom (origin : LoadOrigin)
  | readingMemory (origin : LoadOrigin) (next : Nat) (lines : List Line) (expected : Option Nat)
deriving DecidableEq, Repr

/-- R191: a bootstrap result. -/
structure BootResult where
  code : Nat
  cookie : Nat
  count : Nat
  status : BootStatus
  refusal : Option RefusalCode
  outcome : Option (ConfigResult × Nat)
deriving DecidableEq, Repr

/-- What the Configuration Loader's inserted access is. -/
inductive LoaderAccess where
  | idle | imageRead | resultWrite
deriving DecidableEq, Repr

structure LoaderState where
  /-- Chapter 11: the configuration state, true when RUNNING. -/
  running : Bool
  load : Load
  resultCount : Nat
  result : Option BootResult
  access : LoaderAccess
deriving DecidableEq, Repr

/-- R195: where a journal window stands. -/
structure WindowPlace where
  base : Nat
  limit : Nat
  offset : Int
deriving DecidableEq, Repr

/-- R92: the retained copy of those bank record fields that run behind the working state between an entry's acceptance
and its commit. -/
structure RetainedBank where
  cursor : Nat := 0
  lastIndex : Option Nat := none
  running : Word32 := 0
  totals : DayTotals := {}
deriving DecidableEq, Repr

/-- R195: the retained store. What is written into the store the moment it changes (the Day Controller's fields, the
other bank record fields, the carried chain, the watch table and withdrawal order) is held once, in the block that
owns it; what lags behind the working state (R92) is held here as the copy. -/
structure RetainedState where
  bankA : RetainedBank
  bankB : RetainedBank
  contexts : Vector TillContext 32
  /-- R195: the journal window record. -/
  recordA : Option WindowPlace
  recordB : Option WindowPlace
  /-- R195: the lost marker. -/
  lost : Bool
  /-- R196: the check word agrees with the contents (the spec does not give the check function, log entry 6). -/
  checkAgrees : Bool
deriving DecidableEq, Repr

/-! ### Report Writer -/

/-- R45: the values a STATUS report carries, in the table's order. -/
structure StatusInfo where
  lock : LockState
  badKeys : Nat
  logCount : Nat
  size : DramSize
  dayPhase : DayPhase
  stateA : BankState
  dayA : Nat
  stateB : BankState
  dayB : Nat
  clock : ClockState
  seconds : Nat
  period : Nat
  e : Nat
  n : Nat
  watchCount : Nat
  captureCount : Nat
  round : RoundState
  roundNumber : Nat
  guestMode : GuestMode
  latch : Option LatchCause
  usage : Nat
  deferralCount : Nat
  producer : Nat
  consumer : Nat
  phase : Bool
  capacity : Nat
  pendingCount : Nat
  overflow : Bool
  threshold : Nat
  taken : Nat
  refused : Nat
deriving DecidableEq, Repr

/-- R55: the kinds of report with their payload fields, in the catalogue's order. -/
inductive ReportBody where
  | cmdDone (code cookie : Nat)
  | cmdRefused (code cookie : Nat) (refusal : RefusalCode)
  | guard (entry : GuardEntry) (dump : Bool)
  | guestLatched (cause : LatchCause) (usage violations : Nat)
  | guestCleared (usage : Nat)
  | priceStaged (item oldPrice newPrice : Nat) (zone facings : Fin 16) (previous : Option WatchState)
  | priceShown (item newPrice : Nat) (zone : Fin 16) (attempts : Nat)
  | priceEffective (item oldPrice newPrice : Nat) (forced : Bool)
  | priceFailed (item newPrice : Nat) (zone : Fin 16) (attempts acked : Nat)
  | priceWithdrawn (item oldPrice : Nat) (writtenBack : Bool)
  | zoneDone (round : Nat) (zone : Fin 16) (sent shown timedOut : Nat)
  | roundDone (round visited : Nat) (stopped : Bool)
  | entryFlagged (bank : Bank) (index : Nat) (till seq kind : Nat) (flags : Word32)
  | bankFull (bank : Bank) (day cursor : Nat)
  | dayOpened (bank : Bank) (day : Nat)
  | dayClosing (bank : Bank) (day grace : Nat) (mode : CarryMode) (timed : Bool)
  | dayClosed (closed opened : Bank) (day cursor suspended : Nat) (mode : CarryMode)
  | closeDeferred (bank : Bank) (state : BankState)
  | exportVerified (bank : Bank) (day entries : Nat) (chain : Word32)
  | exportMismatch (bank : Bank) (index : Nat) (computed found : Word32)
  | exportLate (bank : Bank) (cursor : Nat)
  | start (result : ConfigResult) (format : Nat)
  | retainLost
  | status (info : StatusInfo)
  | totalsTill (bank : Bank) (till : Fin 32) (totals : TillTotals)
  | totalsStore (bank : Bank) (totals : StoreTotals)
  | watch (item : Nat) (found : Option (WatchEntry × Nat))
deriving DecidableEq, Repr

/-- R48: a report with its stamp. -/
structure Report where
  seconds : Nat
  millis : Nat
  clock : ClockState
  body : ReportBody
deriving DecidableEq, Repr

/-- R49, R51: the state PLACING: `inRing` is cleared when the REPORT window changes while the placement is in flight. -/
structure Placing where
  inRing : Bool
deriving DecidableEq, Repr

structure ReportState where
  /-- R49: none is IDLE. -/
  placing : Option Placing
  producer : Nat
  consumer : Nat
  phase : Bool
  /-- R48: the pending queue, head first. -/
  pending : List Report
  overflow : Bool
  /-- R51: the OVERFLOW_BEFORE marker the head report carried when it was issued. -/
  headMarked : Bool
  threshold : Nat
  /-- R53: whether IRQ_N is asserted. -/
  irq : Bool
deriving DecidableEq, Repr

/-! ### The whole machine -/

/-- All the state of the JH640, block by block (section 0.3), and the queue of the commands that wait. -/
structure State where
  link : LinkState
  guard : GuardState
  mem : MemState
  decoder : DecoderState
  reports : ReportState
  time : TimeState
  journal : JournalState
  price : PriceState
  label : LabelState
  guest : GuestState
  day : DayState
  loader : LoaderState
  retained : RetainedState
  /-- MODEL: the next index into the free values of Config (log entry 5). -/
  free : Nat
  /-- MODEL: the commands that wait, first in, first out. -/
  pending : List Instr
deriving DecidableEq, Repr

/-- Why a step can stop with a fault. The spec gives an effect for every step in every state, so there is no such
reason and no value of this type. -/
inductive Fault where
deriving DecidableEq, Repr

/-- Why a command has no meaning. -/
inductive Refusal where
  /-- Raised by an arm of `exec` that has no meaning yet, by the row's mnemonic: safe (no arm raises it now). -/
  | notModelled (mnemonic : String)
deriving DecidableEq, Repr

/-! ### One update per field of State (Laws/State.lean says what each leaves alone) -/

def State.setLink (s : State) (x : LinkState) : State := { s with link := x }
def State.setGuard (s : State) (x : GuardState) : State := { s with guard := x }
def State.setMem (s : State) (x : MemState) : State := { s with mem := x }
def State.setDecoder (s : State) (x : DecoderState) : State := { s with decoder := x }
def State.setReports (s : State) (x : ReportState) : State := { s with reports := x }
def State.setTime (s : State) (x : TimeState) : State := { s with time := x }
def State.setJournal (s : State) (x : JournalState) : State := { s with journal := x }
def State.setPrice (s : State) (x : PriceState) : State := { s with price := x }
def State.setLabel (s : State) (x : LabelState) : State := { s with label := x }
def State.setGuest (s : State) (x : GuestState) : State := { s with guest := x }
def State.setDay (s : State) (x : DayState) : State := { s with day := x }
def State.setLoader (s : State) (x : LoaderState) : State := { s with loader := x }
def State.setRetained (s : State) (x : RetainedState) : State := { s with retained := x }
def State.setFree (s : State) (x : Nat) : State := { s with free := x }
def State.setPending (s : State) (x : List Instr) : State := { s with pending := x }

/-- R190: the disabled entry every window is while UNCONFIGURED. The spec says that the entry is disabled and gives its
other fields no value: base, limit and offset 0, role PLAIN, no rights and no write-protect are a DESIGN CHOICE (log entry
23). No rule reads them while the entry is disabled. -/
def Window.disabled : Window :=
  { enabled := false, base := 0, limit := 0, offset := 0, role := .plain,
    rights := ⟨.none, .none, .none, .none, .none, .none⟩, writeProtect := false }

/-- The state right after a start-up that found no EEPROM (ABSENT) and an invalid retained store: UNCONFIGURED
(R190), every field at its start-up value, and the two reports that this start-up makes (R189, R196). -/
def State.reset : State where
  link := { requests := [], completions := [] }
  guard :=
    { classMap := (Vector.replicate 16 InitClass.other).set 0 .cpu
      defaults := ⟨.readWrite, .none, .none, .none, .none, .none⟩
      windows := Vector.replicate 16 Window.disabled
      lock := .locked, badKeys := 0, keys := none, log := [] }
  mem :=
    { dram := [], size := .m256, fill := 0xFF, port := .idle, queue := []
      slots := ⟨.empty, .empty, .empty, .empty, .empty⟩
      abandoned := ⟨none, none, none, none, none⟩
      lastGranted := .configLoader, selfRefresh := false, hold := false }
  decoder := { taken := 0, refused := 0 }
  reports :=
    { placing := none, producer := 0, consumer := 0, phase := true
      pending := [⟨0, 0, .unset, .start .absent 0⟩, ⟨0, 0, .unset, .retainLost⟩]
      overflow := false, headMarked := false, threshold := 1, irq := false }
  time :=
    { counter := 0
      inForce := ⟨Config.factoryP, Config.factoryC, Config.factoryE, Config.factoryN⟩
      staged := none, epochCount := 0, roundCount := 0, seconds := 0, millis := 0, clock := .unset
      schedule := ⟨none, none, Config.factoryGrace, .carry⟩
      micros := 0, compareDue := 0, triggerDue := 0, epochDue := 0 }
  journal :=
    { bankA := {}, bankB := {}, contexts := Vector.replicate 32 {}, carried := none, chainSeed := 0
      partWrite := .idle }
  price :=
    { table := [], withdrawals := [], queue := [], access := .idle, lastIssue := .withdrawal
      views := ⟨.substituted, .substituted, .raw, .raw, .raw, .substituted⟩, dropAtCheck := false }
  label :=
    { settings := ⟨0xFFFF, .oneRound, .command, Config.factoryTimeout, Config.factoryAttempts⟩
      round := .idle, number := 0, zone := none, zones := Vector.replicate 16 .standby
      visit := [], awaited := [], sent := 0, shown := 0, timedOut := 0, timeout := 0, visited := 0, recordNo := 0
      writing := none, producer := 0, consumer := 0, phase := true }
  guest :=
    { inForce := ⟨.off, Config.factoryBudget, Config.factoryBudget, 0, 0⟩
      staged := none, usage := 0, violations := 0, latch := none, queue := [], timer := Config.pacingTop }
  day :=
    { phase := .noDay, openBank := none, closingBank := none, carry := .carry, timed := false, grace := 0
      progress := 0, deferred := none, retryDue := false, ordered := false }
  loader := { running := false, load := .idle, resultCount := 0, result := none, access := .idle }
  retained :=
    { bankA := {}, bankB := {}, contexts := Vector.replicate 32 {}, recordA := none, recordB := none
      lost := false, checkAgrees := true }
  free := 0
  pending := []

end Sys2Proof.Machine
end

