-- ==== Sys2Proof/Machine/Fields.lean ====
section
/-! DEFINITION. Fields of 64-byte records and the codes of enumerated values (12_record_layouts.md, section 12.1,
R198), packing of records (R199), and the selection of one value per class, source, bank or till. -/

namespace Sys2Proof.Machine

open Sys2Proof

/-! ### Fields of a line

A record is a bit vector: a 64-byte line, a 32-byte window entry, a 2,048-byte configuration image. -/

/-- The unsigned little-endian field of `w` bytes at offset `o` (R198). -/
def getField {n : Nat} (l : BitVec n) (o w : Nat) : Nat := (l.extractLsb' (8 * o) (8 * w)).toNat

/-- The signed (two's complement) little-endian field of `w` bytes at offset `o` (R198). -/
def getSigned {n : Nat} (l : BitVec n) (o w : Nat) : Int := (l.extractLsb' (8 * o) (8 * w)).toInt

/-- The 32-bit little-endian field at offset `o`, as bits. -/
def getWord {n : Nat} (l : BitVec n) (o : Nat) : Word32 := l.extractLsb' (8 * o) 32

/-- Byte `k` of a record. -/
def getByte {n : Nat} (l : BitVec n) (k : Nat) : Byte := l.extractLsb' (8 * k) 8

/-- The bits of a line that a field of `w` bytes at offset `o` occupies. -/
def fieldBits (o w : Nat) : Line := (BitVec.allOnes (8 * w)).setWidth 512 <<< (8 * o)

/-- The line with the field of `w` bytes at offset `o` replaced by `v` modulo `256^w`. -/
def putField (l : Line) (o w : Nat) (v : Nat) : Line :=
  (l &&& ~~~(fieldBits o w)) ||| ((BitVec.ofNat (8 * w) v).setWidth 512 <<< (8 * o))

/-- A signed value as the unsigned number its two's complement in `w` bytes holds. -/
def twos (w : Nat) (v : Int) : Nat := (BitVec.ofInt (8 * w) v).toNat

/-- The line whose every byte is `b`. -/
def uniformLine (b : Byte) : Line := (b.replicate 64).setWidth 512

/-- The full mask, all 64 bits set (section 1.1). -/
def fullMask : Mask := BitVec.allOnes 64

/-- The mask that selects `w` bytes from offset `o`. -/
def fieldMask (o w : Nat) : Mask := (BitVec.allOnes w).setWidth 64 <<< o

/-- Fields packed from the first one up with no gaps, each a width in bytes and a value (R199). -/
def packFields : List (Nat × Nat) → Nat
  | [] => 0
  | (w, v) :: rest => v % 256 ^ w + 256 ^ w * packFields rest

/-- A line made of packed fields; every byte after them is 0 (R199). -/
def packLine (fields : List (Nat × Nat)) : Line := BitVec.ofNat 512 (packFields fields)

/-- A marker or a flag as a byte: 0 no, 1 yes (section 12.1). -/
def boolCode (b : Bool) : Nat := if b then 1 else 0

/-- A yes/no code; any code but 0 and 1 is undefined (section 12.1). -/
def boolOf : Nat → Option Bool
  | 0 => some false
  | 1 => some true
  | _ => none

/-! ### Codes (section 12.1) -/

def InitClass.ofCode : Nat → Option InitClass
  | 0 => some .cpu | 1 => some .lan | 2 => some .guest | 3 => some .label | 4 => some .wan | 5 => some .other
  | _ => none

def InitClass.code : InitClass → Nat
  | .cpu => 0 | .lan => 1 | .guest => 2 | .label => 3 | .wan => 4 | .other => 5

def Rights.ofCode : Nat → Option Rights
  | 0 => some .none | 1 => some .read | 2 => some .readWrite
  | _ => Option.none

def Role.ofCode : Nat → Option Role
  | 0 => some .plain | 1 => some .control | 2 => some .report | 3 => some .journalA | 4 => some .journalB
  | 5 => some .price | 6 => some .labelQueue | 7 => some .labelAck
  | _ => none

def Bank.ofCode : Nat → Option Bank
  | 0 => some .a | 1 => some .b
  | _ => none

def Bank.code : Bank → Nat
  | .a => 0 | .b => 1

def BankState.code : BankState → Nat
  | .idle => 0 | .open => 1 | .closing => 2 | .closed => 3 | .exporting => 4 | .verified => 5

def DayPhase.code : DayPhase → Nat
  | .noDay => 0 | .dayOpen => 1 | .closing => 2 | .switching => 3

def CarryMode.ofCode : Nat → Option CarryMode
  | 0 => some .carry | 1 => some .drop
  | _ => none

def CarryMode.code : CarryMode → Nat
  | .carry => 0 | .drop => 1

def GuestMode.ofCode : Nat → Option GuestMode
  | 0 => some .off | 1 => some .cycle | 2 => some .latched
  | _ => none

def GuestMode.code : GuestMode → Nat
  | .off => 0 | .cycle => 1 | .latched => 2

def LatchCause.code : LatchCause → Nat
  | .budget => 0 | .guardFault => 1

/-- The guest latch in a STATUS report: CLEAR, SET by BUDGET, SET by GUARD_FAULT. -/
def latchCode : Option LatchCause → Nat
  | none => 0 | some .budget => 1 | some .guardFault => 2

def RoundMode.ofCode : Nat → Option RoundMode
  | 0 => some .oneRound | 1 => some .continuous
  | _ => none

def RoundTrigger.ofCode : Nat → Option RoundTrigger
  | 0 => some .command | 1 => some .timebase
  | _ => none

def RoundState.code : RoundState → Nat
  | .idle => 0 | .running => 1 | .stopping => 2

def PriceView.ofCode : Nat → Option PriceView
  | 0 => some .substituted | 1 => some .raw
  | _ => none

def Policy.code : Policy → Nat
  | .hold => 0 | .flag => 1

def WatchState.code : WatchState → Nat
  | .staged => 0 | .sending => 1 | .shown => 2 | .failed => 3

/-- The previous state in PRICE_STAGED: FFh is none. -/
def prevStateCode : Option WatchState → Nat
  | none => 255 | some w => w.code

def ExitMarker.code : ExitMarker → Nat
  | .none => 0 | .afterWrite _ => 1 | .withdraw => 2

def LockState.code : LockState → Nat
  | .locked => 0 | .open => 1 | .barred => 2

def ClockState.code : ClockState → Nat
  | .unset => 0 | .set => 1

def kindCode : AccessKind → Nat
  | .read => 0 | .write => 1

def ConfigResult.code : ConfigResult → Nat
  | .valid => 0 | .absent => 1 | .bad => 2

def BootStatus.code : BootStatus → Nat
  | .accepted => 0 | .done => 1 | .refused => 2

def DramSize.ofCode : Nat → Option DramSize
  | 0 => some .m256 | 1 => some .m512 | 2 => some .g1 | 3 => some .g2 | 4 => some .g4
  | _ => none

def DramSize.code : DramSize → Nat
  | .m256 => 0 | .m512 => 1 | .g1 => 2 | .g2 => 3 | .g4 => 4

/-- R11: the installed size in bytes. -/
def DramSize.bytes (z : DramSize) : Nat := 268435456 * 2 ^ z.code

/-- The guard log's refusal causes, from 1. -/
def Cause.code : Cause → Nat
  | .noRight => 1 | .writeProtect => 2 | .outOfRange => 3 | .notJournalWriter => 4 | .appendOrder => 5 | .format => 6
  | .bankFull => 7 | .closing => 8 | .switching => 9 | .watchFull => 10 | .guestLatch => 11

/-- The refusal codes of replies, from 1. -/
def RefusalCode.code : RefusalCode → Nat
  | .locked => 1 | .badKey => 2 | .barred => 3 | .badArg => 4 | .overlap => 5 | .roleTaken => 6 | .roleBusy => 7
  | .alias_ => 8 | .busy => 9 | .wrongState => 10 | .notFound => 11 | .otherBankBusy => 12 | .notVerified => 13
  | .unknownCommand => 14 | .configBad => 15 | .configConflict => 16 | .badRange => 17

/-- A window index in a record: FFh is none (R199). -/
def windowCode : Option (Fin 16) → Nat
  | none => 255 | some i => i.val

/-! ### One value per class, source, bank -/

def PerClass.get {α : Type} (p : PerClass α) : InitClass → α
  | .cpu => p.cpu | .lan => p.lan | .guest => p.guest | .label => p.label | .wan => p.wan | .other => p.other

def PerClass.put {α : Type} (p : PerClass α) (c : InitClass) (x : α) : PerClass α :=
  match c with
  | .cpu => { p with cpu := x }
  | .lan => { p with lan := x }
  | .guest => { p with guest := x }
  | .label => { p with label := x }
  | .wan => { p with wan := x }
  | .other => { p with other := x }

def PerSource.get {α : Type} (p : PerSource α) : Source → α
  | .reportWriter => p.reportWriter | .journalEngine => p.journalEngine | .priceWatch => p.priceWatch
  | .labelSequencer => p.labelSequencer | .configLoader => p.configLoader

def PerSource.put {α : Type} (p : PerSource α) (c : Source) (x : α) : PerSource α :=
  match c with
  | .reportWriter => { p with reportWriter := x }
  | .journalEngine => { p with journalEngine := x }
  | .priceWatch => { p with priceWatch := x }
  | .labelSequencer => { p with labelSequencer := x }
  | .configLoader => { p with configLoader := x }

def PerSource.map {α β : Type} (p : PerSource α) (f : α → β) : PerSource β :=
  ⟨f p.reportWriter, f p.journalEngine, f p.priceWatch, f p.labelSequencer, f p.configLoader⟩

def PerSource.toList {α : Type} (p : PerSource α) : List α :=
  [p.reportWriter, p.journalEngine, p.priceWatch, p.labelSequencer, p.configLoader]

/-- One of a fixed number of like things, replaced. -/
def vput {α : Type} {n : Nat} (v : Vector α n) (i : Fin n) (x : α) : Vector α n := v.set i.val x i.isLt

/-- The bank that is not this one (R170). -/
def Bank.other : Bank → Bank
  | .a => .b | .b => .a

/-- The journal role of a bank (R68). -/
def Bank.role : Bank → Role
  | .a => .journalA | .b => .journalB

/-- The bank whose role this is. -/
def Role.bank : Role → Option Bank
  | .journalA => some .a | .journalB => some .b
  | _ => none

/-- Window numbers, zone numbers: 0 to 15 (section 0.6.2). -/
def sixteen : List (Fin 16) := [0, 1, 2, 3, 4, 5, 6, 7, 8, 9, 10, 11, 12, 13, 14, 15]

/-- Till numbers, 0 to 31, ascending (section 0.6.2). -/
def tills : List (Fin 32) :=
  [0, 1, 2, 3, 4, 5, 6, 7, 8, 9, 10, 11, 12, 13, 14, 15, 16, 17, 18, 19, 20, 21, 22, 23, 24, 25, 26, 27, 28, 29, 30, 31]

end Sys2Proof.Machine
end

