-- ==== Sys2Proof/Machine/Flags.lean ====
section
/-! DEFINITION. The flags of a journal entry (R85, section 12.2), the word sum and chain of an entry (R86), and the
saturating additions that set OVERFLOW (R103, R104). -/

namespace Sys2Proof.Machine

open Sys2Proof

/-! ### Entry flags, from bit 0 (section 12.2) -/

def flagSeqGap : Word32 := 0x00001
def flagDuplicate : Word32 := 0x00002
def flagLate : Word32 := 0x00004
def flagAbandoned : Word32 := 0x00008
def flagNoTxn : Word32 := 0x00010
def flagVoidUnmatched : Word32 := 0x00020
def flagShortTender : Word32 := 0x00040
def flagRange : Word32 := 0x00080
def flagDiscClamped : Word32 := 0x00100
def flagPriceHeld : Word32 := 0x00200
def flagPriceAhead : Word32 := 0x00400
def flagPriceOther : Word32 := 0x00800
def flagOverflow : Word32 := 0x01000
def flagListFull : Word32 := 0x02000
def flagUnknownKind : Word32 := 0x04000
def flagNegQty : Word32 := 0x08000
def flagPartWritten : Word32 := 0x10000

/-- R85: all flags but NEG_QTY and PART_WRITTEN are warning flags. -/
def warningFlags : Word32 := 0x07FFF

/-- R85: whether the flags hold a warning flag. -/
def hasWarning (f : Word32) : Bool := f &&& warningFlags != 0

/-- A flag when a condition holds. -/
def flagIf (b : Bool) (f : Word32) : Word32 := if b then f else 0

/-! ### The chain (R86) -/

/-- The sum modulo 2^32 of the first `k` little-endian 32-bit words of a line. -/
def sumWords (l : Line) : Nat → Word32
  | 0 => 0
  | k + 1 => sumWords l k + getWord l (4 * k)

/-- R86: the word sum W, over the fourteen words in bytes 0 to 55. -/
def wordSum (l : Line) : Word32 := sumWords l 14

/-- R86: the chain of an entry from the previous chain: rotated left by 5 bits, exclusive-ORed with the word sum. -/
def chainOf (prev : Word32) (l : Line) : Word32 := prev.rotateLeft 5 ^^^ wordSum l

/-! ### Saturating additions -/

/-- R103: a saturating addition into an accumulator of a value taken from an accumulator whose marker is `from_`; the
second part says whether the entry whose handling made the addition carries OVERFLOW. -/
def Acc.add (acc : Acc) (v : Int) (from_ : Bool) : Acc × Bool :=
  let sum := acc.value + v
  let saturates := decide (Config.accLimit < sum) || decide (sum < -Config.accLimit)
  let value := if Config.accLimit < sum then Config.accLimit else if sum < -Config.accLimit then -Config.accLimit else sum
  ({ value := value, marked := acc.marked || saturates || from_ }, saturates || from_)

/-- R104: adding `k` to a count. -/
def countAdd (n k : Nat) : Nat := min (n + k) Config.countTop

end Sys2Proof.Machine
end

