-- ==== Sys2Proof/Machine/Operands.lean ====
section
/-! DEFINITION. What the part reads from the records that reach it: control records, journal entries, price lines,
acknowledgements and window entries (12_record_layouts.md, sections 12.2 to 12.4 and 12.6, R198). -/

namespace Sys2Proof.Machine

open Sys2Proof

/-! ### Control records (section 12.4) -/

def recordCode (l : Line) : Nat := getField l 0 2
def recordCookie (l : Line) : Nat := getField l 2 2

/-- The command codes that section 12.4 defines. -/
def definedCodes : List Nat :=
  [0x0001, 0x0002, 0x0003, 0x0010, 0x0011, 0x0012, 0x0013, 0x0014, 0x0015, 0x0020, 0x0021, 0x0022, 0x0030, 0x0040,
   0x0041, 0x0042, 0x0043, 0x0050, 0x0051, 0x0052, 0x0060, 0x0061, 0x0070, 0x0071, 0x0072, 0x0073, 0x0074, 0x0075,
   0x0080, 0x0081]

def codeDefined (c : Nat) : Bool := definedCodes.contains c

/-- Section 2.4: the protected commands, SET_WINDOW, SET_CLASS_MAP, SET_CLASS_DEFAULTS, SET_PRICE_VIEW and
RELOAD_CONFIG. -/
def codeProtected (c : Nat) : Bool := [0x0011, 0x0012, 0x0013, 0x0040, 0x0080].contains c

/-! ### Window entries (section 12.6) -/

/-- The six rights of a window entry or of SET_CLASS_DEFAULTS from offset `o`, or none where a code is undefined. -/
def readRights {n : Nat} (b : BitVec n) (o : Nat) : Option (PerClass Rights) := do
  let cpu ← Rights.ofCode (getField b o 1)
  let lan ← Rights.ofCode (getField b (o + 1) 1)
  let guest ← Rights.ofCode (getField b (o + 2) 1)
  let label ← Rights.ofCode (getField b (o + 3) 1)
  let wan ← Rights.ofCode (getField b (o + 4) 1)
  let other ← Rights.ofCode (getField b (o + 5) 1)
  return ⟨cpu, lan, guest, label, wan, other⟩

/-- A window entry of 32 bytes from offset `o`, or none where a structural field holds an undefined code. -/
def readWindow {n : Nat} (b : BitVec n) (o : Nat) : Option Window := do
  let enabled ← boolOf (getField b o 1)
  let role ← Role.ofCode (getField b (o + 1) 1)
  let wp ← boolOf (getField b (o + 2) 1)
  let rights ← readRights b (o + 16)
  return { enabled := enabled, base := getField b (o + 4) 4, limit := getField b (o + 8) 4
           offset := getSigned b (o + 12) 4, role := role, rights := rights, writeProtect := wp }

/-- A number below 16 as an index, none otherwise. -/
def index16 (n : Nat) : Option (Fin 16) := if h : n < 16 then some ⟨n, h⟩ else none

/-- A number below 32 as a till, none otherwise. -/
def index32 (n : Nat) : Option (Fin 32) := if h : n < 32 then some ⟨n, h⟩ else none

/-- The classes of `k` tags from offset `o` (section 12.4), FFh giving OTHER where `unmapped` allows it (section 12.1). -/
def readClasses {n : Nat} (b : BitVec n) (o : Nat) (unmapped : Bool) : Nat → Option (List InitClass)
  | 0 => some []
  | k + 1 => do
    let code := getField b o 1
    let c ← if unmapped && code == 255 then some InitClass.other else InitClass.ofCode code
    let rest ← readClasses b (o + 1) unmapped k
    return c :: rest

/-- A list of 16 classes as the initiator map. -/
def classMapOf (l : List InitClass) : Vector InitClass 16 :=
  sixteen.foldl (fun v i => vput v i (l.getD i.val .other)) (Vector.replicate 16 .other)

/-- The initiator map of 16 class codes from offset `o` (R38, section 12.6), or none where a code is undefined. -/
def readClassMap {n : Nat} (b : BitVec n) (o : Nat) (unmapped : Bool) : Option (Vector InitClass 16) :=
  (readClasses b o unmapped 16).map classMapOf

/-- The price views of the six classes from offset `o`, or none where a code is undefined. -/
def readViews {n : Nat} (b : BitVec n) (o : Nat) : Option (PerClass PriceView) := do
  let cpu ← PriceView.ofCode (getField b o 1)
  let lan ← PriceView.ofCode (getField b (o + 1) 1)
  let guest ← PriceView.ofCode (getField b (o + 2) 1)
  let label ← PriceView.ofCode (getField b (o + 3) 1)
  let wan ← PriceView.ofCode (getField b (o + 4) 1)
  let other ← PriceView.ofCode (getField b (o + 5) 1)
  return ⟨cpu, lan, guest, label, wan, other⟩

/-! ### Settings and their clamps (R43) -/

/-- R60: the four period settings, clamped. -/
def clampPeriod (p c e n : Nat) : PeriodSettings :=
  let p' := min (max p 10) 10000
  { p := p', c := min c (p' - 1), e := min (max e 1) 64, n := min (max n 1) 16 }

/-- R63: a scheduled time, FFFFFFFFh DISABLED, otherwise clamped to the last second of the day. -/
def clampTime (t : Nat) : Option Nat :=
  if t = 0xFFFFFFFF then none else some (min t (Config.daySeconds - 1))

/-- R63: the schedule of four values from offset `o`, or none where the carry mode is undefined. -/
def readSchedule {n : Nat} (b : BitVec n) (o : Nat) : Option Schedule := do
  let mode ← CarryMode.ofCode (getField b (o + 10) 1)
  return { closeAt := clampTime (getField b o 4), exportEnd := clampTime (getField b (o + 4) 4)
           grace := min (getField b (o + 8) 2) Config.maxGrace, carry := mode }

/-- R153: the five guest settings from offset `o`, clamped, or none where the mode is undefined. -/
def readGuest {n : Nat} (b : BitVec n) (o : Nat) : Option GuestSettings := do
  let mode ← GuestMode.ofCode (getField b o 1)
  let hard := getField b (o + 2) 2
  return { mode := mode, hard := hard, soft := min (getField b (o + 4) 2) hard
           pace := min (getField b (o + 6) 2) 255, fault := getField b (o + 1) 1 }

/-- R134: the five round settings from offset `o`, clamped, or none where the mode or trigger is undefined. -/
def readRounds {n : Nat} (b : BitVec n) (o : Nat) : Option RoundSettings := do
  let mode ← RoundMode.ofCode (getField b (o + 2) 1)
  let trigger ← RoundTrigger.ofCode (getField b (o + 3) 1)
  return { mask := BitVec.ofNat 16 (getField b o 2), mode := mode, trigger := trigger
           timeout := max (getField b (o + 4) 1) 1, limit := min (max (getField b (o + 5) 1) 1) 15 }

/-- R54: the interrupt threshold, 0 clamped to 1. -/
def clampThreshold (t : Nat) : Nat := max t 1

/-! ### Journal entries (section 12.2) -/

/-- R71: the kind of an entry, from its code. -/
inductive EntryKind where
  | txnOpen | sale | return_ | void | tender | txnClose
  | part
  | unknown
deriving DecidableEq, Repr

/-- Section 12.2: the codes of the kinds; `part` stands for the four kinds the part writes. -/
def EntryKind.ofCode : Nat → EntryKind
  | 1 => .txnOpen | 2 => .sale | 3 => .return_ | 4 => .void | 5 => .tender | 7 => .txnClose
  | 6 => .part | 8 => .part | 9 => .part | 10 => .part
  | _ => .unknown

/-- Section 12.2: the codes of the part's kinds. -/
def PartKind.code : PartKind → Nat
  | .dayOpen => 6 | .txnSuspend => 8 | .txnResume => 9 | .dayClose => 10

/-- The fields of an initiator entry that the part reads (section 5.2). -/
structure EntryFields where
  kindCode : Nat
  kind : EntryKind
  till : Nat
  seq : Nat
  txnNo : Nat
  item : Nat
  price : Nat
  quantity : Int
  discount : Nat
  refSeq : Nat
  amount : Int
deriving DecidableEq, Repr

def readEntry (l : Line) : EntryFields :=
  { kindCode := getField l 0 1, kind := EntryKind.ofCode (getField l 0 1), till := getField l 1 1, seq := getField l 2 2
    txnNo := getField l 4 4, item := getField l 8 4, price := getField l 12 4, quantity := getSigned l 16 4
    discount := getField l 20 2, refSeq := getField l 22 2, amount := getSigned l 24 8 }

/-! ### Price lines and acknowledgements (section 12.3) -/

/-- R111: the fields the Price Watch takes from a price line. -/
structure PriceFields where
  item : Nat
  price : Nat
  zone : Fin 16
  facings : Fin 16
  policy : Policy
deriving DecidableEq, Repr

/-- R111, R198: zone in the low half and facings in the high half of byte 8; policy byte 01h is FLAG, any other HOLD. -/
def readPrice (l : Line) : PriceFields :=
  { item := getField l 0 4, price := getField l 4 4, zone := (l.extractLsb' 64 4).toFin
    facings := (l.extractLsb' 68 4).toFin, policy := if getField l 10 1 = 1 then .flag else .hold }

/-- R111: a price above 9,999,999 is out of range. -/
def priceInRange (p : Nat) : Bool := decide (p ≤ Config.maxPrice)

/-- Section 8.5: an acknowledgement; result byte 01h is OK (R198). -/
structure AckFields where
  item : Nat
  facing : Nat
  price : Nat
  ok : Bool
deriving DecidableEq, Repr

def readAck (l : Line) : AckFields :=
  { item := getField l 0 4, facing := getField l 4 1, price := getField l 8 4, ok := getField l 12 1 == 1 }

end Sys2Proof.Machine
end

