-- ==== Sys2Proof/Machine/Ops.lean ====
section
/-! DEFINITION. The shared operations: DRAM as memory, the guard's verdict on a line, reports and the guard log, the
outstanding-request table, the Memory Port's slots and queue, the interrupt output, and the bank records with the
window flags that mirror them. -/

namespace Sys2Proof.Machine

open Sys2Proof

/-! ### DRAM as memory

A list of cells in strictly rising address order, none equal to what an unlisted address reads as. -/

/-- What the byte at an address reads as. -/
def Memory.read : Memory → Nat → Byte
  | [], _ => Config.unwritten
  | (a, b) :: rest, x => if x = a then b else Memory.read rest x

/-- The memory with one byte written. -/
def Memory.write : Memory → Nat → Byte → Memory
  | [], x, v => if v = Config.unwritten then [] else [(x, v)]
  | (a, b) :: rest, x, v =>
    if x < a then (if v = Config.unwritten then (a, b) :: rest else (x, v) :: (a, b) :: rest)
    else if x = a then (if v = Config.unwritten then rest else (a, v) :: rest)
    else (a, b) :: Memory.write rest x v

/-- Every address is at least `lo`, addresses rise strictly, no cell holds the unwritten value. -/
def Memory.wfFrom : Nat → Memory → Bool
  | _, [] => true
  | lo, (a, b) :: rest => decide (lo ≤ a) && decide (b ≠ Config.unwritten) && Memory.wfFrom (a + 1) rest

/-- The canonical form. -/
def Memory.wf (m : Memory) : Bool := Memory.wfFrom 0 m

/-- The little-endian value of the `k` bytes from an address. -/
def Memory.readBytes (m : Memory) (a : Nat) : Nat → Nat
  | 0 => 0
  | k + 1 => (Memory.read m a).toNat + 256 * Memory.readBytes m (a + 1) k

/-- The 64-byte line at an address. -/
def Memory.readLine (m : Memory) (a : Nat) : Line := BitVec.ofNat 512 (Memory.readBytes m a 64)

/-- The memory with those of the first `k` bytes of a line written that its mask selects (R3, R12). -/
def Memory.writeBytes (m : Memory) (a : Nat) (mask : Mask) (data : Line) : Nat → Memory
  | 0 => m
  | k + 1 =>
    let m' := Memory.writeBytes m a mask data k
    if mask.getLsbD k then Memory.write m' (a + k) (getByte data k) else m'

/-- The memory after a line write: the bytes its mask selects are stored, no other byte changes (R12). -/
def Memory.writeLine (m : Memory) (a : Nat) (mask : Mask) (data : Line) : Memory :=
  Memory.writeBytes m a mask data 64

/-! ### Windows (R18 to R23) -/

/-- The number of lines of a window. -/
def Window.nLines (w : Window) : Nat := (w.limit - w.base + 1) * Config.pageLines

/-- First and last DRAM page of a window (R18). -/
def Window.dramFirst (w : Window) : Int := w.base + w.offset
def Window.dramLast (w : Window) : Int := w.limit + w.offset

/-- The DRAM address of line `k` of a window: its first DRAM page times 4,096, plus `k` times 64. -/
def Window.lineAddr (w : Window) (k : Nat) : Nat := w.dramFirst.toNat * Config.pageBytes + k * Config.lineBytes

/-- R18: an enabled window holds the bus pages from its base to its limit. -/
def Window.holds (w : Window) (page : Nat) : Bool :=
  w.enabled && decide (w.base ≤ page) && decide (page ≤ w.limit)

/-- R18: whether a DRAM address lies in a window's DRAM range. -/
def Window.coversDram (w : Window) (addr : Nat) : Bool :=
  decide (w.dramFirst ≤ (addr / Config.pageBytes : Nat)) && decide (((addr / Config.pageBytes : Nat) : Int) ≤ w.dramLast)

/-- R18: the enabled window that holds a bus page. -/
def windowAt (ws : Vector Window 16) (page : Nat) : Option (Fin 16) :=
  sixteen.find? (fun i => ws[i].holds page)

/-- The index of the enabled window that holds a role. -/
def roleIndex (ws : Vector Window 16) (r : Role) : Option (Fin 16) :=
  sixteen.find? (fun i => ws[i].enabled && decide (ws[i].role = r))

/-- The enabled window that holds a role (R20). -/
def roleWindow (ws : Vector Window 16) (r : Role) : Option Window := (roleIndex ws r).map (fun i => ws[i])

/-- R18: a role window is an enabled window whose role is not PLAIN. -/
def Window.isRole (w : Window) : Bool := w.enabled && decide (w.role ≠ .plain)

/-- R21: whether a DRAM address falls inside the DRAM range of any role window. -/
def inRoleMemory (ws : Vector Window 16) (addr : Nat) : Bool :=
  sixteen.any (fun i => ws[i].isRole && ws[i].coversDram addr)

/-- R22: whether rights allow an access. -/
def Rights.allows (r : Rights) (k : AccessKind) : Bool :=
  match r, k with
  | .readWrite, _ => true
  | .read, .read => true
  | _, _ => false

/-- R11, R19, R21, R22: the verdict of stages 1 to 3 on the line at a bus address. -/
def judgeLine (g : GuardState) (size : DramSize) (cls : InitClass) (kind : AccessKind) (bus : Nat) : Verdict :=
  let page := bus / Config.pageBytes
  let off := bus % Config.pageBytes
  match windowAt g.windows page with
  | some i =>
    let w := g.windows[i]
    let target : Int := page + w.offset
    let addr := target.toNat * Config.pageBytes + off
    if target < 0 ∨ size.bytes ≤ addr then .refuse .outOfRange (some i)
    else if kind = .write ∧ w.role.bank.isSome ∧ cls ≠ .cpu then .refuse .notJournalWriter (some i)
    else if (w.rights.get cls).allows kind = false then .refuse .noRight (some i)
    else if kind = .write ∧ w.writeProtect = true then .refuse .writeProtect (some i)
    else .pass addr (some i) w.role ((page - w.base) * Config.pageLines + off / Config.lineBytes)
  | none =>
    if size.bytes ≤ bus then .refuse .outOfRange none
    else if inRoleMemory g.windows bus then .refuse .noRight none
    else if (g.defaults.get cls).allows kind = false then .refuse .noRight none
    else .pass bus none .plain 0

/-- The window index of a verdict. -/
def Verdict.window : Verdict → Option (Fin 16)
  | .pass _ w _ _ => w
  | .refuse _ w => w

/-- The slots of a ring in the window of a role: its lines, at most 4,096; 0 with no window (R46, R146). -/
def ringCapacity (ws : Vector Window 16) (r : Role) : Nat :=
  match roleWindow ws r with
  | some w => min w.nLines Config.maxRing
  | none => 0

/-- The producer index minus the consumer index, modulo the capacity (R46, R146). -/
def unconsumed (producer consumer capacity : Nat) : Nat :=
  if capacity = 0 then 0 else (producer + capacity - consumer) % capacity

/-- The index after one, modulo the capacity. -/
def ringNext (i capacity : Nat) : Nat := if i + 1 ≥ capacity then 0 else i + 1

/-- R46, R146: a ring is full when the producer index plus one, modulo the capacity, equals the consumer index. -/
def ringFull (producer consumer capacity : Nat) : Bool :=
  capacity == 0 || ringNext producer capacity == consumer

/-! ### Reports, interrupt output, guard log -/

/-- R48: a report arises: it is stamped and joins the tail of the pending queue, or is dropped with the overflow flag
set when the queue holds 16. -/
def arise (b : ReportBody) (s : State) : State :=
  if s.reports.pending.length < Config.pendingSize then
    s.setReports { s.reports with pending := s.reports.pending ++ [⟨s.time.seconds, s.time.millis, s.time.clock, b⟩] }
  else s.setReports { s.reports with overflow := true }

/-- R53: whether IRQ_N is asserted for a threshold, a capacity and the ring's indices. -/
def irqLevel (threshold producer consumer capacity : Nat) : Bool :=
  capacity != 0 && decide (min threshold (capacity - 1) ≤ unconsumed producer consumer capacity)

/-- R53: the interrupt output is re-evaluated. -/
def evalIrq (s : State) : State :=
  s.setReports { s.reports with irq := irqLevel s.reports.threshold s.reports.producer s.reports.consumer (ringCapacity s.guard.windows .report) }

/-- R27: the guard log takes a refusal: it merges with the newest entry of the same tag, kind, cause and window, or is
pushed with one GUARD report. -/
def logRefusal (e : GuardEntry) (s : State) : State :=
  match s.guard.log with
  | n :: rest =>
    if n.tag = e.tag ∧ n.kind = e.kind ∧ n.cause = e.cause ∧ n.window = e.window then
      s.setGuard { s.guard with log := { n with bus := e.bus, count := min (n.count + 1) Config.maxRepeat } :: rest }
    else arise (.guard e false) (s.setGuard { s.guard with log := (e :: n :: rest).take Config.guardLogSize })
  | [] => arise (.guard e false) (s.setGuard { s.guard with log := [e] })

/-! ### The outstanding-request table -/

/-- The entry of a transaction number. -/
def findRequest (s : State) (t : Fin 64) : Option Request := s.link.requests.find? (fun r => decide (r.txn = t))

/-- The table with the entry of a transaction number changed. -/
def updateRequest (t : Fin 64) (f : Request → Request) (s : State) : State :=
  s.setLink { s.link with requests := s.link.requests.map (fun r => if r.txn = t then f r else r) }

/-- The entry with its line `k` changed. -/
def Request.onLine (k : Nat) (f : ReqLine → ReqLine) (r : Request) : Request := { r with lines := r.lines.modify k f }

/-- The table with one line changed. -/
def updateLine (t : Fin 64) (k : Nat) (f : ReqLine → ReqLine) (s : State) : State :=
  updateRequest t (Request.onLine k f) s

/-- The table without the entry of a transaction number. -/
def removeRequest (t : Fin 64) (s : State) : State :=
  s.setLink { s.link with requests := s.link.requests.filter (fun r => decide (r.txn ≠ t)) }

/-- A completion is sent on the link. -/
def sendCompletion (c : Completion) (s : State) : State :=
  s.setLink { s.link with completions := s.link.completions ++ [c] }

/-- R2: the data a TAKEN completion carries, 64 bytes per line for a read, nothing for a write. -/
def Request.answerData (r : Request) : List Line :=
  match r.kind with
  | .read => r.lines.map (fun l => l.delivered)
  | .write => []

/-- R2: the completion, with status TAKEN, is sent as soon as no line is PENDING, and the entry is removed. -/
def sendIfComplete (t : Fin 64) (s : State) : State :=
  match findRequest s t with
  | some r =>
    if r.lines.all (fun l => decide (l.outcome ≠ .pending)) then
      sendCompletion ⟨t, .taken (r.lines.map (fun l => l.outcome)) r.answerData⟩ (removeRequest t s)
    else s
  | none => s

/-- R3: a line reaches its outcome, with the data delivered for a read. -/
def setOutcome (t : Fin 64) (k : Nat) (o : LineOutcome) (d : Line) (s : State) : State :=
  sendIfComplete t (updateLine t k (fun l => { l with outcome := o, delivered := d }) s)

/-- R6: a request answered RETRY after it was taken: its entry is removed. -/
def answerRetry (t : Fin 64) (s : State) : State := sendCompletion ⟨t, .retry⟩ (removeRequest t s)

/-- R10, the outcome and the guard log: a refused line becomes FILLED or DISCARDED and the refusal goes to the log. -/
def recordLine (t : Fin 64) (k : Nat) (cause : Cause) (s : State) : State :=
  match findRequest s t with
  | none => s
  | some r =>
    match r.lines[k]? with
    | none => s
    | some l =>
      let o := match r.kind with | .read => LineOutcome.filled | .write => LineOutcome.discarded
      let s := setOutcome t k o (uniformLine s.mem.fill) s
      logRefusal { tag := r.tag, cls := r.cls, bus := l.bus, kind := r.kind, cause := cause
                   window := l.verdict.bind Verdict.window, count := 1 } s

/-! ### The Memory Port -/

/-- Whether a slot is WAITING. -/
def Slot.isWaiting : Slot → Bool
  | .waiting _ _ => true
  | _ => false

/-- Whether some inserted access waits. -/
def someWaiting (m : MemState) : Bool := m.slots.toList.any Slot.isWaiting

/-- R14: a source issues an access into its slot, as WAITING with count 0. -/
def issueAccess (src : Source) (a : Access) (s : State) : State :=
  s.setMem { s.mem with slots := s.mem.slots.put src (.waiting a 0) }

/-- R12: a line is handed to the Memory Port: granted at once when the port is IDLE and nothing else waits, otherwise
it joins the tail of the passed-line queue. No line is granted during the power-fail hold (R17). -/
def enqueue (p : PassedLine) (s : State) : State :=
  if s.mem.port = .idle ∧ s.mem.queue = [] ∧ someWaiting s.mem = false ∧ s.mem.hold = false then
    s.setMem { s.mem with port := .passed p }
  else s.setMem { s.mem with queue := s.mem.queue ++ [p] }

/-- R8, R9: line `k` of a request is handed to the Memory Port with its present data. -/
def handLine (t : Fin 64) (k : Nat) (commit : Option EntryCommit) (released : Bool) (s : State) : State :=
  match findRequest s t with
  | none => s
  | some r =>
    match r.lines[k]? with
    | none => s
    | some l =>
      match l.verdict with
      | some (.pass addr _ _ _) =>
        enqueue { owner := some ⟨t, k⟩, kind := r.kind, addr := addr, mask := l.mask, data := l.data
                  commit := commit, released := released }
          (updateLine t k (fun l => { l with stage := .handed }) s)
      | _ => s

/-- R12: the access in progress has completed and the port is IDLE; during the power-fail hold the DRAM then goes into
self-refresh (R17). -/
def portIdle (s : State) : State :=
  s.setMem { s.mem with port := .idle, selfRefresh := s.mem.selfRefresh || s.mem.hold }

/-- R14: a granted inserted access completes: its slot is EMPTY and the port IDLE. -/
def releaseSlot (src : Source) (s : State) : State :=
  portIdle (s.setMem { s.mem with slots := s.mem.slots.put src .empty })

/-- The access a source has at the DRAM port, if it is the one in progress. -/
def grantedAccess (m : MemState) (src : Source) : Option Access :=
  if m.port = .inserted src then
    match m.slots.get src with
    | .granted a => some a
    | _ => none
  else none

/-- R14: whether an access lies at or beyond the installed size. This is judged once, when the access is granted: one out
of range completes at its grant, so every access in progress was granted in range, whatever size a load sets meanwhile. -/
def outOfRange (m : MemState) (a : Access) : Bool := decide (m.size.bytes ≤ a.addr)

/-- R14: the 64 bytes an inserted read receives: fill bytes where its grant found it out of range (`beyond`). -/
def accessData (beyond : Bool) (m : MemState) (a : Access) : Line :=
  if beyond then uniformLine m.fill else Memory.readLine m.dram a.addr

/-- R14: an inserted write is done: one that its grant found out of range (`beyond`) changes nothing. -/
def storeAccess (beyond : Bool) (a : Access) (s : State) : State :=
  if beyond then s
  else s.setMem { s.mem with dram := Memory.writeLine s.mem.dram a.addr a.mask a.data }

/-! ### Bank records and the journal windows -/

def getBank (j : JournalState) : Bank → BankRecord
  | .a => j.bankA
  | .b => j.bankB

def setBank (bk : Bank) (r : BankRecord) (s : State) : State :=
  match bk with
  | .a => s.setJournal { s.journal with bankA := r }
  | .b => s.setJournal { s.journal with bankB := r }

def getRetained (r : RetainedState) : Bank → RetainedBank
  | .a => r.bankA
  | .b => r.bankB

/-- An update of the retained copy of a bank record (R195). -/
def setRetained (bk : Bank) (r : RetainedBank) (s : State) : State :=
  match bk with
  | .a => s.setRetained { s.retained with bankA := r }
  | .b => s.setRetained { s.retained with bankB := r }

/-- R92: the retained copy of a bank record brought up to the working state. -/
def retainBank (bk : Bank) (s : State) : State :=
  let r := getBank s.journal bk
  setRetained bk { cursor := r.cursor, lastIndex := r.lastIndex, running := r.running, totals := r.totals } s

/-- The window table with the enabled window of a role changed. -/
def updateRoleWindow (role : Role) (f : Window → Window) (s : State) : State :=
  match roleIndex s.guard.windows role with
  | some i => s.setGuard { s.guard with windows := vput s.guard.windows i (f s.guard.windows[i]) }
  | none => s

/-- R24: a bank takes writes while it is OPEN or CLOSING; its window's write-protect is on in every other state. -/
def BankState.protects : BankState → Bool
  | .open => false
  | .closing => false
  | _ => true

/-- R167, R24: a bank passes to a state, and its window's write-protect flag mirrors it. -/
def setBankState (bk : Bank) (st : BankState) (s : State) : State :=
  updateRoleWindow bk.role (fun w => { w with writeProtect := st.protects })
    (setBank bk { getBank s.journal bk with state := st } s)

/-- R25: the WAN rights of a bank's window are set. -/
def setWanRights (bk : Bank) (r : Rights) (s : State) : State :=
  updateRoleWindow bk.role (fun w => { w with rights := w.rights.put .wan r }) s

/-- The working context of a till (R77). -/
def setContext (t : Fin 32) (c : TillContext) (s : State) : State :=
  s.setJournal { s.journal with contexts := vput s.journal.contexts t c }

end Sys2Proof.Machine
end

