-- ==== Sys2Proof/Machine/LineArithmetic.lean ====
section
/-! DEFINITION. The line arithmetic of Chapter 6: the price check (R96), the stages of a line amount (R95, R98 to R102),
and the handling of an entry by its kind against a till context and the day totals (R76, R78 to R83, R105 to R107). -/

namespace Sys2Proof.Machine

open Sys2Proof

/-! ### The price check (R96) -/

/-- R96: the unit price used and stored, and the flag, for a written price against the item's watch entry. -/
def priceCheck (entry : Option WatchEntry) (p : Nat) : Nat × Word32 :=
  match entry with
  | none => (p, 0)
  | some e =>
    if p = e.newPrice then
      if e.oldPrice < e.newPrice then
        match e.policy with
        | .hold => (e.oldPrice, flagPriceHeld)
        | .flag => (p, flagPriceAhead)
      else (p, 0)
    else if p = e.oldPrice then (p, 0)
    else (p, flagPriceOther)

/-! ### The line amount (R98 to R102) -/

/-- R100: the rounded quotient: the integer part of `(2N + D) / 2D`. -/
def roundDiv (n d : Nat) : Nat := (2 * n + d) / (2 * d)

/-- R98: the input ranges of stage 1. -/
def lineInRange (p : Nat) (q : Int) : Bool :=
  decide (p ≤ Config.maxPrice) && decide (-Config.maxQuantity ≤ q) && decide (q ≤ Config.maxQuantity)

/-- R101: the magnitude M of a line, from price, quantity and discount in use. -/
def lineMagnitude (p : Nat) (q : Int) (d : Nat) : Nat :=
  let g := roundDiv (p * q.natAbs) 1000
  g - roundDiv (g * d) 10000

/-- R102: the sign of a line from its kind and the sign of the quantity. -/
def lineSign (isReturn : Bool) (q : Int) (m : Nat) : Int :=
  if isReturn = decide (q < 0) then (m : Int) else -(m : Int)

/-- The result of the line arithmetic: whether the line is in range, its amount, and the flags it set. -/
structure LineResult where
  inRange : Bool
  amount : Int
  flags : Word32
deriving DecidableEq, Repr

/-- R98 to R102: stages 1 to 6 for a unit price in use. -/
def lineAmount (isReturn : Bool) (p : Nat) (q : Int) (d : Nat) : LineResult :=
  if lineInRange p q then
    { inRange := true
      amount := lineSign isReturn q (lineMagnitude p q (min d Config.maxDiscount))
      flags := flagIf (decide (Config.maxDiscount < d)) flagDiscClamped ||| flagIf (decide (q < 0)) flagNegQty }
  else { inRange := false, amount := 0, flags := flagRange }

/-! ### Handling by kind -/

/-- What the handling of an entry decides: its amount (none leaves it as software wrote it), its flags, the unit price to
be stored, and the context and totals afterwards. -/
structure Handling where
  amount : Option Int
  flags : Word32
  price : Option Nat
  context : TillContext
  totals : DayTotals
deriving DecidableEq, Repr

/-- R105: a context with its transaction fields cleared; its sequence state is kept. -/
def clearContext (c : TillContext) : TillContext := { seqValid := c.seqValid, lastSeq := c.lastSeq }

/-- The totals of one till changed. -/
def DayTotals.onTill (t : Fin 32) (f : TillTotals → TillTotals) (d : DayTotals) : DayTotals :=
  { d with tills := vput d.tills t (f d.tills[t]) }

/-- R78: TXN_OPEN. -/
def handleOpen (e : EntryFields) (t : Fin 32) (c : TillContext) (d : DayTotals) : Handling :=
  let opened := { clearContext c with state := .inTxn, txnNo := e.txnNo }
  match c.state with
  | .idle => { amount := some 0, flags := 0, price := none, context := opened, totals := d }
  | .inTxn =>
    { amount := some 0, flags := flagAbandoned, price := none, context := opened
      totals := d.onTill t (fun x => { x with abandoned := countAdd x.abandoned 1 }) }

/-- R79: whether an accounted line joins the line list. -/
def joinsList (c : TillContext) (seq : Nat) : Bool :=
  decide (c.list.length < Config.listSize) && !c.list.any (fun l => decide (l.seq = seq))

/-- R79, R105: an accounted SALE or RETURN line added into the context; the second part says whether an addition
overflowed. -/
def accountLine (e : EntryFields) (isReturn : Bool) (amount : Int) (c : TillContext) : TillContext × Bool :=
  let (total, o1) := c.total.add amount false
  let (sales, o2) := if isReturn then (c.sales, false) else c.sales.add amount false
  let (returns, o3) := if isReturn then c.returns.add amount false else (c.returns, false)
  let list := if joinsList c e.seq then c.list ++ [⟨e.seq, e.item, isReturn, amount⟩] else c.list
  ({ c with total := total, sales := sales, returns := returns, list := list }, o1 || o2 || o3)

/-- R79: SALE and RETURN; the price check runs for a SALE (R96). -/
def handleLine (watch : List WatchEntry) (e : EntryFields) (isReturn : Bool) (c : TillContext) (d : DayTotals) : Handling :=
  let (p, pf) := if isReturn then (e.price, 0) else priceCheck (watch.find? (fun w => decide (w.item = e.item))) e.price
  let r := lineAmount isReturn p e.quantity e.discount
  match c.state with
  | .idle => { amount := some r.amount, flags := pf ||| r.flags ||| flagNoTxn, price := some p, context := c, totals := d }
  | .inTxn =>
    if r.inRange then
      let (c', ov) := accountLine e isReturn r.amount c
      { amount := some r.amount
        flags := pf ||| r.flags ||| flagIf ov flagOverflow ||| flagIf (!joinsList c e.seq) flagListFull
        price := some p, context := c', totals := d }
    else { amount := some r.amount, flags := pf ||| r.flags, price := some p, context := c, totals := d }

/-- R80: VOID. -/
def handleVoid (e : EntryFields) (c : TillContext) (d : DayTotals) : Handling :=
  match c.state with
  | .idle => { amount := some 0, flags := flagNoTxn, price := none, context := c, totals := d }
  | .inTxn =>
    match c.list.find? (fun l => decide (l.seq = e.refSeq)) with
    | none => { amount := some 0, flags := flagVoidUnmatched, price := none, context := c, totals := d }
    | some l =>
      let (total, o1) := c.total.add (-l.amount) false
      let (voids, o2) := c.voids.add (-l.amount) false
      { amount := some (-l.amount), flags := flagIf (o1 || o2) flagOverflow, price := none
        context := { c with total := total, voids := voids, list := c.list.filter (fun x => decide (x.seq ≠ e.refSeq)) }
        totals := d }

/-- R81: TENDER. -/
def handleTender (e : EntryFields) (c : TillContext) (d : DayTotals) : Handling :=
  match c.state with
  | .idle => { amount := some 0, flags := flagNoTxn, price := none, context := c, totals := d }
  | .inTxn =>
    if 0 ≤ e.amount ∧ e.amount ≤ Config.maxTender then
      let (tender, ov) := c.tender.add e.amount false
      { amount := none, flags := flagIf ov flagOverflow, price := none, context := { c with tender := tender }, totals := d }
    else { amount := none, flags := flagRange, price := none, context := c, totals := d }

/-- R107: the transaction added into the day totals; the second part says whether an addition overflowed. -/
def closeTotals (t : Fin 32) (c : TillContext) (d : DayTotals) : DayTotals × Bool :=
  let x := d.tills[t]
  let (net, o1) := x.net.add c.total.value c.total.marked
  let (storeNet, o2) := d.store.net.add c.total.value c.total.marked
  let (sales, o3) := x.sales.add c.sales.value c.sales.marked
  let (returns, o4) := x.returns.add c.returns.value c.returns.marked
  let (voids, o5) := x.voids.add c.voids.value c.voids.marked
  ({ tills := vput d.tills t { x with
        net := net, sales := sales, returns := returns, voids := voids
        txns := countAdd x.txns 1, lines := countAdd x.lines c.list.length }
     store := { d.store with net := storeNet, txns := countAdd d.store.txns 1 } },
   o1 || o2 || o3 || o4 || o5)

/-- R82: TXN_CLOSE. -/
def handleClose (t : Fin 32) (c : TillContext) (d : DayTotals) : Handling :=
  match c.state with
  | .idle => { amount := some 0, flags := flagNoTxn, price := none, context := c, totals := d }
  | .inTxn =>
    let (d', ov) := closeTotals t c d
    { amount := some c.total.value
      flags := flagIf (ov || c.total.marked) flagOverflow |||
        flagIf (decide (0 < c.total.value) && decide (c.tender.value < c.total.value)) flagShortTender
      price := none, context := clearContext c, totals := d' }

/-- R78 to R83: the handling of an entry that passed the sequence check. -/
def handleKind (watch : List WatchEntry) (e : EntryFields) (t : Fin 32) (c : TillContext) (d : DayTotals) : Handling :=
  match e.kind with
  | .txnOpen => handleOpen e t c d
  | .sale => handleLine watch e false c d
  | .return_ => handleLine watch e true c d
  | .void => handleVoid e c d
  | .tender => handleTender e c d
  | .txnClose => handleClose t c d
  | .part => { amount := some 0, flags := flagUnknownKind, price := none, context := c, totals := d }
  | .unknown => { amount := some 0, flags := flagUnknownKind, price := none, context := c, totals := d }

/-- R76: the distance of an entry's sequence from the till's last one, modulo 65,536. -/
def seqDistance (seq last : Nat) : Nat := (seq + 65536 - last % 65536) % 65536

/-- R76, R106: the handling of an accepted initiator entry: the sequence check, then the kind handling for an entry
accepted in sequence, then the store's entry and flagged-entry counts. -/
def handleEntry (watch : List WatchEntry) (e : EntryFields) (t : Fin 32) (c : TillContext) (d : DayTotals) : Handling :=
  let dist := seqDistance e.seq c.lastSeq
  let h : Handling :=
    if c.seqValid = true ∧ dist = 0 then
      { amount := some 0, flags := flagDuplicate, price := none, context := c, totals := d }
    else if c.seqValid = true ∧ 32768 ≤ dist then
      { amount := some 0, flags := flagLate, price := none, context := c, totals := d }
    else
      let h := handleKind watch e t { c with seqValid := true, lastSeq := e.seq } d
      { h with flags := h.flags ||| flagIf (c.seqValid && decide (2 ≤ dist)) flagSeqGap }
  { h with totals := { h.totals with store := { h.totals.store with
      entries := countAdd h.totals.store.entries 1
      flagged := if hasWarning h.flags then countAdd h.totals.store.flagged 1 else h.totals.store.flagged } } }

/-- R84, R85, R86: the entry's line with the part-owned fields filled: amount, flags, unit price, entry index, then the
chain over the filled entry. -/
def fillEntry (l : Line) (h : Handling) (index : Nat) (prev : Word32) : Line :=
  let l := match h.amount with | some a => putField l 24 8 (twos 8 a) | none => l
  let l := match h.price with | some p => putField l 12 4 p | none => l
  let l := putField l 32 4 h.flags.toNat
  let l := putField l 36 4 index
  putField l 56 4 (chainOf prev l).toNat

end Sys2Proof.Machine
end

