-- ==== Sys2Proof/Machine/DayController.lean ====
section
/-! DEFINITION. The Day Controller (Chapter 10): opening a bank (R68, R69), the close and its end test (R170 to R173),
the switch (R174 to R176), and the nightly export (R178 to R184). -/

namespace Sys2Proof.Machine

open Sys2Proof

/-! ### The suspend set and the switch list (R174) -/

/-- R174: the tills whose contexts are IN_TXN, in ascending order. -/
def suspendSet (j : JournalState) : List (Fin 32) := tills.filter (fun t => decide (j.contexts[t].state = .inTxn))

/-- R174: the switch list for a closing bank, a carry mode and a suspend set. -/
def switchList (closing : Bank) (mode : CarryMode) (set : List (Fin 32)) : List PartOrder :=
  set.map (fun t => ⟨closing, .txnSuspend, t⟩) ++
    [⟨closing, .dayClose, 0⟩, ⟨closing.other, .dayOpen, 0⟩] ++
    (match mode with
      | .carry => set.map (fun t => ⟨closing.other, .txnResume, t⟩)
      | .drop => [])

/-- R173, R174: the end test; a pass begins the switch. -/
def endTest (s : State) : State :=
  if s.day.phase = .closing ∧ (suspendSet s.journal = [] ∨ s.day.grace = 0) then
    s.setDay { s.day with phase := .switching }
  else s

/-! ### Opening a bank (R68, R69, R167) -/

/-- A bank is opened with a seed chain and a day number: its cursor, last entry index, running chain and bank-full marker
are set, it becomes OPEN and is the open bank; the retained store follows (R92). -/
def openBank (bk : Bank) (seed : Word32) (day : Nat) (s : State) : State :=
  let s := setBank bk { getBank s.journal bk with
    dayNumber := day, seed := seed, cursor := 0, lastIndex := none, running := seed, fullMarker := false } s
  let s := retainBank bk (setBankState bk .open s)
  s.setDay { s.day with openBank := some bk }

/-! ### The close (R170 to R173) -/

/-- Whether a bank's journal role is held by an enabled window. -/
def hasJournalWindow (s : State) (bk : Bank) : Bool := (roleWindow s.guard.windows bk.role).isSome

/-- R170: the first of the three tests that the open bank fails in DAY_OPEN, none when a close is accepted. -/
def closeFailure (s : State) (bk : Bank) : Option RefusalCode :=
  if (getBank s.journal bk).cursor = 0 then some .wrongState
  else if (getBank s.journal bk.other).state ≠ .idle then some .otherBankBusy
  else if hasJournalWindow s bk.other = false then some .notFound
  else none

/-- R170: a close of the open bank is accepted, with its grace, carry mode and timed marker; the end test follows. -/
def acceptClose (bk : Bank) (grace : Nat) (mode : CarryMode) (timed : Bool) (s : State) : State :=
  let s := setBankState bk .closing s
  let s := s.setDay { s.day with
    phase := .closing, closingBank := some bk, carry := mode, timed := timed, grace := grace, deferred := none
    retryDue := false }
  endTest (arise (.dayClosing bk (getBank s.journal bk).dayNumber grace mode timed) s)

/-- R171: the bank that a deferred close waits for, and its state. -/
def waitedBank (s : State) (bk : Bank) : Bank × BankState :=
  if (getBank s.journal bk).cursor = 0 then (bk, .open) else (bk.other, (getBank s.journal bk.other).state)

/-- R171: a timed close is accepted with the schedule's defaults. -/
def acceptTimed (bk : Bank) (s : State) : State :=
  acceptClose bk s.time.schedule.grace s.time.schedule.carry true s

/-- R171: a close-time match reaches the Day Controller. -/
def timedClose (s : State) : State :=
  match s.day.phase, s.day.openBank, s.day.deferred with
  | .dayOpen, some bk, none =>
    match closeFailure s bk with
    | none => acceptTimed bk s
    | some _ =>
      let w := waitedBank s bk
      arise (.closeDeferred w.1 w.2) (s.setDay { s.day with deferred := some 0 })
  | _, _, _ => s

/-- R171: a second event with a deferred close pending: the 60th makes its retry due. -/
def countDeferred (s : State) : State :=
  match s.day.deferred with
  | none => s
  | some n =>
    if n + 1 < Config.retrySeconds then s.setDay { s.day with deferred := some (n + 1) }
    else s.setDay { s.day with deferred := some 0, retryDue := true }

/-- R171: a retry of the timed close that succeeds clears the pending close; one that fails keeps it. -/
def retryClose (s : State) : State :=
  match s.day.phase, s.day.openBank with
  | .dayOpen, some bk => if closeFailure s bk = none then acceptTimed bk s else s
  | _, _ => s

/-- R171: the retry that a 60th second event has made due. -/
def deferredRetry (s : State) : State :=
  if s.day.retryDue then retryClose (s.setDay { s.day with retryDue := false }) else s

/-- DEFERRED_CLOSE_RETRY (R171): the 60th second event of a pending deferred close has come. -/
def execDeferredCloseRetry (s : State) : Host.Outcome State Fault Refusal := .next (deferredRetry s)

/-- R173: a second event in CLOSING lowers a grace above 0, outside the power-fail hold. -/
def lowerGrace (s : State) : State :=
  if s.mem.hold then s else s.setDay { s.day with grace := s.day.grace - 1 }

/-- R173: the end test at a remaining grace of 0. -/
def graceExpiry (s : State) : State := if s.day.grace = 0 then endTest s else s

/-- GRACE_EXPIRY (R173): the remaining grace has reached 0 and the end test passes. -/
def execGraceExpiry (s : State) : Host.Outcome State Fault Refusal := .next (graceExpiry s)

/-! ### Orders (R169, R174) -/

/-- R88: the Day Controller gives an order to the Journal Engine, for a bank whose role an enabled window holds. -/
def giveOrder (o : PartOrder) (s : State) : State :=
  if s.day.ordered = false ∧ s.journal.partWrite = .idle ∧ hasJournalWindow s o.bank = true then
    (s.setJournal { s.journal with partWrite := .draining o }).setDay { s.day with ordered := true }
  else s

/-- DAY_OPEN_ORDER (R169). -/
def execDayOpenOrder (s : State) : Host.Outcome State Fault Refusal :=
  match s.day.phase, s.day.openBank with
  | .dayOpen, some bk =>
    if (getBank s.journal bk).state = .open ∧ (getBank s.journal bk).cursor = 0 then
      .next (giveOrder ⟨bk, .dayOpen, 0⟩ s)
    else .next s
  | _, _ => .next s

/-- R174: the entry at the switch progress. -/
def switchNext (s : State) : Option PartOrder :=
  match s.day.closingBank with
  | some bk => (switchList bk s.day.carry (suspendSet s.journal))[s.day.progress]?
  | none => none

/-- SWITCH_ORDER (R174). -/
def execSwitchOrder (s : State) : Host.Outcome State Fault Refusal :=
  match s.day.phase, switchNext s with
  | .switching, some o => .next (giveOrder o s)
  | _, _ => .next s

/-! ### A part-written entry has committed (R169, R174 to R176) -/

/-- R175: the commit of the DAY_CLOSE hands the day to the other bank. -/
def handOver (bk : Bank) (s : State) : State :=
  let final := (getBank s.journal bk).running
  let s := setBank bk { getBank s.journal bk with final := final } s
  let s := setBankState bk .closed (s.setJournal { s.journal with carried := some final })
  openBank bk.other final (((getBank s.journal bk).dayNumber + 1) % 65536) s

/-- R176: under DROP a context of the suspend set is cleared, its sequence state kept, in the retained store too. -/
def dropContext (s : State) (t : Fin 32) : State :=
  let c := clearContext s.journal.contexts[t]
  let s := setContext t c s
  s.setRetained { s.retained with contexts := vput s.retained.contexts t c }

/-- R176: the switch is finished. -/
def finishSwitch (bk : Bank) (s : State) : State :=
  let set := suspendSet s.journal
  let mode := s.day.carry
  let s := match mode with | .drop => set.foldl dropContext s | .carry => s
  let s := s.setDay { s.day with
    phase := .dayOpen, progress := 0, closingBank := none, carry := .carry, timed := false }
  let new := getBank s.journal bk.other
  arise (.dayClosed bk bk.other new.dayNumber new.cursor set.length mode) s

/-- R174: an entry of the switch has committed. -/
def switchCommitted (bk : Bank) (o : PartOrder) (s : State) : State :=
  let s := s.setDay { s.day with progress := s.day.progress + 1 }
  let s := if o.kind = .dayClose then handOver bk s else s
  if (switchList bk s.day.carry (suspendSet s.journal)).length ≤ s.day.progress then finishSwitch bk s else s

/-- The Day Controller is told that an order's entry has committed (R169, R174). -/
def orderCommitted (o : PartOrder) (s : State) : State :=
  let s := s.setDay { s.day with ordered := false }
  match s.day.phase, s.day.closingBank with
  | .switching, some bk => switchCommitted bk o s
  | .dayOpen, _ =>
    if o.kind = .dayOpen then arise (.dayOpened o.bank (getBank s.journal o.bank).dayNumber) s else s
  | _, _ => s

/-! ### The export (R178 to R184) -/

/-- R178: an export begins: the WAN rights of the bank's window are saved and READ is lent. -/
def beginExport (bk : Bank) (w : Window) (s : State) : State :=
  let r := getBank s.journal bk
  let s := setBank bk { r with savedWan := w.rights.wan, exportCursor := 0, exportChain := r.seed } s
  setBankState bk .exporting (setWanRights bk .read s)

/-- R180, R182 to R184: the lent rights are taken back and the bank passes to a state. -/
def endExport (bk : Bank) (st : BankState) (s : State) : State :=
  setBankState bk st (setWanRights bk (getBank s.journal bk).savedWan s)

/-- R182: a verified bank is completed: its day totals are cleared and it becomes IDLE. -/
def completeExport (bk : Bank) (s : State) : State :=
  let s := setBank bk { getBank s.journal bk with totals := {} } s
  endExport bk .idle (retainBank bk s)

/-- R184: an export-deadline match, for one bank. -/
def exportLate (s : State) (bk : Bank) : State :=
  let r := getBank s.journal bk
  if r.state = .exporting then endExport bk .closed (arise (.exportLate bk r.exportCursor) s) else s

/-- R184: an export-deadline match reaches the Day Controller. -/
def exportDeadline (s : State) : State := [Bank.a, Bank.b].foldl exportLate s

/-- R181: an entry has checked; the check of the last entry verifies the bank. -/
def entryChecks (bk : Bank) (chain : Word32) (s : State) : State :=
  let r := getBank s.journal bk
  let cursor := r.exportCursor + 1
  let s := setBank bk { r with exportChain := chain, exportCursor := cursor } s
  match r.lastIndex with
  | some last =>
    if last < cursor then arise (.exportVerified bk r.dayNumber cursor chain) (setBankState bk .verified s) else s
  | none => s

/-- R179, R180: a WAN-class read line of a journal window, with its data as delivered, is shown to the Day Controller. -/
def observeExport (bk : Bank) (index : Nat) (data : Line) (s : State) : State :=
  let r := getBank s.journal bk
  if r.state = .exporting ∧ index = r.exportCursor then
    let computed := chainOf r.exportChain data
    let found := getWord data 56
    if computed = found then entryChecks bk computed s
    else endExport bk .closed (arise (.exportMismatch bk index computed found) s)
  else s

/-- R185: after a load the WAN rights of the window of an EXPORTING or VERIFIED bank are READ, and the write-protect flag
mirrors the bank's state (R24). -/
def applyBankWindow (s : State) (bk : Bank) : State :=
  let st := (getBank s.journal bk).state
  let s := setBankState bk st s
  if st = .exporting ∨ st = .verified then setWanRights bk .read s else s

end Sys2Proof.Machine
end

