-- ==== Sys2Proof/Machine/GuestBudget.lean ====
section
/-! DEFINITION. The Guest Budget (Chapter 9): recording of refusals with their violation (R10, R161), the guest latch
(R162), the judgement of a guest request (R155), the deferral queue and its release (R158, R159), the pacing timer
(R154, R157) and the period boundary (R160). -/

namespace Sys2Proof.Machine

open Sys2Proof

/-! ### Waiting lines -/

/-- R9: whether a line waits for stage 5. -/
def ReqLine.waits (l : ReqLine) : Bool := decide (l.outcome = .pending) && decide (l.stage = .awaitsGuest)

/-- The indices, from `k` on, of the lines of a list that wait for stage 5. -/
def waitingFrom (k : Nat) : List ReqLine → List Nat
  | [] => []
  | l :: rest => if l.waits then k :: waitingFrom (k + 1) rest else waitingFrom (k + 1) rest

/-- R9: the waiting lines of a request, in line order. -/
def waitingLines (t : Fin 64) (s : State) : List Nat :=
  match findRequest s t with
  | some r => waitingFrom 0 r.lines
  | none => []

/-- Refuse every waiting line of a request with cause GUEST_LATCH, in line order (R155 step 1, R162 step 3). -/
def refuseWaiting (t : Fin 64) (s : State) : State :=
  (waitingLines t s).foldl (fun s k => recordLine t k .guestLatch s) s

/-! ### The latch and the violation count -/

/-- R162: the latch goes from CLEAR to SET: the cause is recorded, GUEST_LATCHED is reported, and every request in the
deferral queue is refused with GUEST_LATCH, from head to tail. -/
def setLatch (c : LatchCause) (s : State) : State :=
  let s := s.setGuest { s.guest with latch := some c }
  let s := arise (.guestLatched c s.guest.usage s.guest.violations) s
  let q := s.guest.queue
  q.foldl (fun s e => refuseWaiting e.txn s) (s.setGuest { s.guest with queue := [] })

/-- R161: a violation is counted; at or above a threshold above 0 it sets a CLEAR latch with cause GUARD_FAULT. -/
def countViolation (s : State) : State :=
  let s := s.setGuest { s.guest with violations := min (s.guest.violations + 1) Config.guestTop }
  if s.guest.inForce.fault ≤ s.guest.violations ∧ 0 < s.guest.inForce.fault ∧ s.guest.latch = none then setLatch .guardFault s
  else s

/-- R10: a refusal is recorded: the outcome, the guard log, and for a GUEST-class line whose cause is not GUEST_LATCH
one violation. -/
def recordRefusal (t : Fin 64) (k : Nat) (cause : Cause) (s : State) : State :=
  let guest := match findRequest s t with | some r => decide (r.cls = .guest) | none => false
  let s := recordLine t k cause s
  if guest = true ∧ cause ≠ .guestLatch then countViolation s else s

/-! ### Serving and deferring -/

/-- R154, R155: a request is served: its waiting lines go to the Memory Port in line order, U grows by their number and
the pacing timer goes to 0; its reserved place is released. -/
def serveGuest (t : Fin 64) (s : State) : State :=
  let ks := waitingLines t s
  let s := ks.foldl (fun s k => handLine t k none false s) s
  let s := updateRequest t (fun r => { r with deferralReserved := false }) s
  s.setGuest { s.guest with usage := min (s.guest.usage + ks.length) Config.guestTop, timer := 0 }

/-- R155: a request refused as a whole by the latch releases its reserved place. -/
def latchGuest (t : Fin 64) (s : State) : State :=
  refuseWaiting t (updateRequest t (fun r => { r with deferralReserved := false }) s)

/-- R155, R158: a request joins the deferral queue's tail and uses the place reserved for it. -/
def deferGuest (t : Fin 64) (tag : Fin 16) (n : Nat) (c : DeferCond) (s : State) : State :=
  let s := updateRequest t (fun r => { r with deferralReserved := false }) s
  s.setGuest { s.guest with queue := s.guest.queue ++ [⟨t, tag, n, c⟩] }

/-- The head leaves the deferral queue. -/
def popDeferred (s : State) : State := s.setGuest { s.guest with queue := s.guest.queue.drop 1 }

/-- The head stays, with this size and condition (R159). -/
def keepDeferred (n : Nat) (c : DeferCond) (s : State) : State :=
  match s.guest.queue with
  | e :: rest => s.setGuest { s.guest with queue := { e with size := n, cond := c } :: rest }
  | [] => s

/-! ### Re-judgement and release (R159) -/

/-- R159: one waiting line of the head is judged again against the tables in force; a line that now fails is refused
with the new cause, unless the latch has meanwhile refused the request with the rest of the queue (R162). That the lines
after the one whose violation sets the latch are not judged again, so that their refusals keep the window of the old
verdict, is a DESIGN CHOICE (log entry 30). -/
def rejudgeLine (t : Fin 64) (cls : InitClass) (kind : AccessKind) (k : Nat) (s : State) : State :=
  if s.guest.queue.any (fun e => decide (e.txn = t)) then
    match (findRequest s t).bind (fun r => r.lines[k]?) with
    | some l =>
      let v := judgeLine s.guard s.mem.size cls kind l.bus
      let s := updateLine t k (fun l => { l with verdict := some v }) s
      match v with
      | .refuse cause _ => recordRefusal t k cause s
      | .pass .. => s
    | none => s
  else s

/-- R159: steps 1, 3, 4 and 5 of R155 applied to the head, whose `n` waiting lines still pass. -/
def rejudgeBudget (t : Fin 64) (n : Nat) (s : State) : State :=
  let g := s.guest
  if g.latch ≠ none then latchGuest t (popDeferred s)
  else
    match g.inForce.mode with
    | .off => popDeferred (serveGuest t s)
    | .cycle =>
      if g.inForce.hard < g.usage + n then keepDeferred n .period s
      else if g.inForce.soft ≤ g.usage ∧ g.timer < g.inForce.pace then keepDeferred n .pace s
      else popDeferred (serveGuest t s)
    | .latched =>
      if g.inForce.hard < g.usage + n then setLatch .budget s
      else if g.inForce.soft ≤ g.usage ∧ g.timer < g.inForce.pace then keepDeferred n .pace s
      else popDeferred (serveGuest t s)

/-- R159: the head entry is re-judged. -/
def rejudgeHead (e : Deferred) (s : State) : State :=
  match findRequest s e.txn with
  | none => popDeferred s
  | some r =>
    let s := (waitingLines e.txn s).foldl (fun s k => rejudgeLine e.txn r.cls r.kind k s) s
    if s.guest.queue.any (fun d => decide (d.txn = e.txn)) then
      match (waitingLines e.txn s).length with
      | 0 => popDeferred s
      | n + 1 => rejudgeBudget e.txn (n + 1) s
    else s

/-- R159, R160: release runs on from entry to entry while entries leave. At a period boundary (`boundary`) an entry is
re-judged whatever its condition; otherwise a head with condition PERIOD waits for the next boundary. -/
def release (boundary : Bool) : Nat → State → State
  | 0, s => s
  | fuel + 1, s =>
    match s.guest.queue with
    | [] => s
    | e :: rest =>
      if boundary = false ∧ e.cond = .period then s
      else
        let s' := rejudgeHead e s
        if s'.guest.queue.length < rest.length + 1 then release boundary fuel s' else s'

/-- Release with as many re-judgements as the queue has entries. -/
def releaseAll (boundary : Bool) (s : State) : State := release boundary (s.guest.queue.length + 1) s

/-! ### First judgement (R155) -/

/-- R155: a request reaches the Guest Budget with its waiting lines. An entry that joins an empty queue with condition
PACE while the pacing timer is at or above the pace is re-judged at once (R157). -/
def judgeGuest (t : Fin 64) (tag : Fin 16) (s : State) : State :=
  let g := s.guest
  let n := (waitingLines t s).length
  if g.latch ≠ none then latchGuest t s
  else if g.queue.any (fun e => decide (e.tag = tag)) then deferGuest t tag n .follow s
  else
    let soft (s : State) : State :=
      if g.inForce.soft ≤ g.usage then
        let s' := deferGuest t tag n .pace s
        if g.queue = [] ∧ g.inForce.pace ≤ g.timer then releaseAll false s' else s'
      else serveGuest t s
    match g.inForce.mode with
    | .off => serveGuest t s
    | .cycle => if g.inForce.hard < g.usage + n then deferGuest t tag n .period s else soft s
    | .latched => if g.inForce.hard < g.usage + n then latchGuest t (setLatch .budget s) else soft s

/-! ### Time -/

/-- R157: whether the head of the deferral queue waits for the pacing timer. -/
def paceHead (g : GuestState) : Bool :=
  match g.queue with
  | e :: _ => decide (e.cond = .pace)
  | [] => false

/-- R157, R159: when the pacing timer is at or above the pace, a PACE entry at the head is re-judged and released. -/
def pacingCheck (s : State) : State :=
  if paceHead s.guest = true ∧ s.guest.inForce.pace ≤ s.guest.timer then releaseAll false s else s

/-- R154: the pacing timer counts `us` microseconds and stays at 255. -/
def pacingCount (us : Nat) (s : State) : State :=
  s.setGuest { s.guest with timer := min (s.guest.timer + us) Config.pacingTop }

/-- R160: the Guest Budget on a period boundary: U to 0, staged settings in force, the violation count to 0, and the
head re-judged with release going on. -/
def guestBoundary (s : State) : State :=
  let g := s.guest
  releaseAll true
    (s.setGuest { g with usage := 0, inForce := g.staged.getD g.inForce, staged := none, violations := 0 })

/-- PACING_EXPIRY (R157): the pacing timer reaches the pace. -/
def execPacingExpiry (s : State) : Host.Outcome State Fault Refusal :=
  .next (pacingCheck (s.setGuest { s.guest with timer := max s.guest.timer s.guest.inForce.pace }))

end Sys2Proof.Machine
end

