-- ==== Sys2Proof/Machine/LinkPort.lean ====
section
/-! DEFINITION. The Link Port (Chapter 1): taking a request (R1), settling and starting (R5, R6), and the lines of a
request taking effect in line order (R7 to R9). A line that a stage-4 handler receives (R8) waits for the row of the
table that is that handler's step; every other line takes effect at once. -/

namespace Sys2Proof.Machine

open Sys2Proof

/-! ### Taking a request (R1) -/

/-- R1: the bus addresses of a request's lines, wrapping at the end of the bus address space. -/
def lineAddrs (first : Nat) : Nat → List Nat
  | 0 => []
  | n + 1 => first :: lineAddrs ((first + Config.lineBytes) % 4294967296) n

/-- R2: the PENDING lines of a new entry. A line for which the request carries no mask and data, which the link protocol
does not allow (section 1.1), has an empty mask and zero data: DESIGN CHOICE, log entry 22. -/
def formLines : List Nat → List WriteLine → List ReqLine
  | [], _ => []
  | a :: as, ws =>
    let w := ws.headD { mask := 0, data := 0 }
    { bus := a, mask := w.mask, data := w.data, verdict := none, stage := .awaitsTurn, outcome := .pending, delivered := 0 }
      :: formLines as (ws.drop 1)

/-- R1, R2: the entry a request is given, in state QUEUED. Line 0 is the line that contains the request address. -/
def formRequest (r : LinkRequest) : Request :=
  { txn := r.txn, tag := r.tag, kind := r.kind, cls := .other, view := .raw, progress := .queued
    lines := formLines (lineAddrs (r.addr.toNat / Config.lineBytes * Config.lineBytes) (r.count.val + 1)) r.lines
    captureReserved := 0, deferralReserved := false }

/-- R1, R16: whether a passed line is a write line of a request that a link reset dropped. -/
def PassedLine.isOrphan (p : PassedLine) : Bool := decide (p.kind = .write) && decide (p.owner = none)

/-- R1: the lines counted against the limit of 128. -/
def countedLines (s : State) : Nat :=
  (s.link.requests.map (fun r => r.lines.length)).sum + (s.mem.queue.filter PassedLine.isOrphan).length +
    (match s.mem.port with | .passed p => if p.isOrphan then 1 else 0 | _ => 0)

/-- R1: the four cases in which an arriving request is answered RETRY. -/
def answersRetry (r : LinkRequest) (s : State) : Bool :=
  s.mem.hold || decide (Config.maxRequests ≤ s.link.requests.length) || (findRequest s r.txn).isSome ||
    decide (Config.maxLines < countedLines s + (r.count.val + 1))

/-- REQUEST (R1). A request whose masks and data do not fit its line count is taken like any other (log entry 22). -/
def execRequest (r : LinkRequest) (s : State) : Host.Outcome State Fault Refusal :=
  if answersRetry r s then .next (sendCompletion ⟨r.txn, .retry⟩ s)
  else .next (s.setLink { s.link with requests := s.link.requests ++ [formRequest r] })

/-! ### Lines taking effect (R7, R8) -/

/-- R8: the stage-4 handlers. -/
inductive Handler where
  | journal (bk : Bank)
  | capture
  | control
  | ack
  | bootstrap
deriving DecidableEq, Repr

/-- R8: the handler of a passing line, from its request's kind and class, its window's role and its mask, none for a
line that passes stage 4 unchanged. The bootstrap page takes commands only while the part is UNCONFIGURED (R191). -/
def handlerOf (running : Bool) (r : Request) (l : ReqLine) : Option Handler :=
  match l.verdict with
  | some (.pass _ w role _) =>
    match r.kind, r.cls, role with
    | .write, .cpu, .journalA => some (.journal .a)
    | .write, .cpu, .journalB => some (.journal .b)
    | .write, .cpu, .price => if l.mask = fullMask then some .capture else none
    | .write, .cpu, .control => if l.mask = fullMask then some .control else none
    | .write, .label, .labelAck => if l.mask = fullMask then some .ack else none
    | .write, .cpu, .plain =>
      if l.mask = fullMask ∧ w = none ∧ running = false ∧ l.bus = Config.bootstrapLine then some .bootstrap else none
    | _, _, _ => none
  | _ => none

/-- The first line, from index `k` on, that has not yet taken effect. -/
def nextTurn (k : Nat) : List ReqLine → Option (Nat × ReqLine)
  | [] => none
  | l :: rest => if l.outcome = .pending ∧ l.stage = .awaitsTurn then some (k, l) else nextTurn (k + 1) rest

/-- R2: the first line to take effect makes the request ACTIVE. -/
def activate (t : Fin 64) (s : State) : State := updateRequest t (fun r => { r with progress := .active }) s

/-- R9: once every line of a GUEST request has an outcome or waits for stage 5, the Guest Budget judges it; a request
whose lines were all refused is not seen. -/
def guestStage (t : Fin 64) (s : State) : State :=
  match findRequest s t with
  | some r => if r.cls = .guest ∧ waitingLines t s ≠ [] then judgeGuest t r.tag s else s
  | none => s

/-- R7: the lines of a started request take effect in line order, up to a line that a stage-4 handler receives. -/
def runLines (t : Fin 64) : Nat → State → State
  | 0, s => s
  | fuel + 1, s =>
    match findRequest s t with
    | none => s
    | some r =>
      match nextTurn 0 r.lines with
      | none => guestStage t s
      | some (k, l) =>
        match l.verdict with
        | none => s
        | some (.refuse cause _) => runLines t fuel (recordRefusal t k cause (activate t s))
        | some (.pass ..) =>
          if (handlerOf s.loader.running r l).isSome then s
          else if r.cls = .guest then
            runLines t fuel (updateLine t k (fun l => { l with stage := .awaitsGuest }) (activate t s))
          else runLines t fuel (handLine t k none false (activate t s))

/-- R7, for a request of at most four lines. -/
def runRequest (t : Fin 64) (s : State) : State := runLines t 5 s

/-- The line at its turn of a started request, with the handler that receives it (R8). -/
def turnLine (t : Fin 64) (s : State) : Option (Request × Nat × ReqLine × Handler) :=
  match findRequest s t with
  | none => none
  | some r =>
    if r.progress = .queued then none
    else
      match nextTurn 0 r.lines with
      | none => none
      | some (k, l) => (handlerOf s.loader.running r l).map (fun h => (r, k, l, h))

/-- R8: a handler passes the line it received, with the data it now has: the line is handed to the Memory Port and the
lines after it take effect. -/
def passTurn (t : Fin 64) (k : Nat) (s : State) : State :=
  runRequest t (handLine t k none false (activate t s))

/-! ### Starting a request (R5, R6) -/

/-- R5: a request is settled when every line has an outcome or has been handed to the Memory Port, or when it stands in
the deferral queue. -/
def isSettled (s : State) (r : Request) : Bool :=
  r.lines.all (fun l => decide (l.outcome ≠ .pending) || decide (l.stage = .handed)) ||
    s.guest.queue.any (fun e => decide (e.txn = r.txn))

/-- R5: the requests of a tag taken before a request. -/
def earlierOfTag (t : Fin 64) (tag : Fin 16) : List Request → List Request
  | [] => []
  | r :: rest => if r.txn = t then [] else if r.tag = tag then r :: earlierOfTag t tag rest else earlierOfTag t tag rest

/-- R6: whether a line would enter the price capture queue. -/
def wouldCapture (r : Request) (l : ReqLine) : Bool := decide (handlerOf true r l = some .capture)

/-- R6, R113: the capture places held or reserved. -/
def capturePlaces (s : State) : Nat :=
  s.price.queue.length + (s.link.requests.map (fun r => r.captureReserved)).sum

/-- R6, R158: the deferral places held or reserved. -/
def deferralPlaces (s : State) : Nat :=
  s.guest.queue.length + (s.link.requests.filter (fun r => r.deferralReserved)).length

/-- R4, R6, R126: the entry with its class, its view and the verdicts of all its lines. -/
def judgeRequest (s : State) (r : Request) : Request :=
  let cls := s.guard.classMap[r.tag]
  { r with cls := cls, view := s.price.views.get cls
           lines := r.lines.map (fun l => { l with verdict := some (judgeLine s.guard s.mem.size cls r.kind l.bus) }) }

/-- Whether a verdict passes. -/
def ReqLine.passes (l : ReqLine) : Bool :=
  match l.verdict with
  | some (.pass ..) => true
  | _ => false

/-- R6: the need of a judged request for capture places. -/
def captureNeed (r : Request) : Nat := (r.lines.filter (wouldCapture r)).length

/-- R6: whether a judged request needs a deferral place. -/
def deferralNeed (r : Request) : Bool := decide (r.cls = .guest) && r.lines.any ReqLine.passes

/-- REQUEST_START (R5, R6, R7): a QUEUED request whose earlier requests of its tag are settled starts: its class and the
verdicts of its lines are taken, places are reserved or it is answered RETRY, and its lines take effect. -/
def execRequestStart (t : Fin 64) (s : State) : Host.Outcome State Fault Refusal :=
  match findRequest s t with
  | none => .next s
  | some r =>
    if r.progress = .queued ∧ (earlierOfTag t r.tag s.link.requests).all (isSettled s) = true then
      let r' := judgeRequest s r
      if Config.captureSize < capturePlaces s + captureNeed r' ∨
          (deferralNeed r' = true ∧ Config.deferralSize ≤ deferralPlaces s) then
        .next (answerRetry t s)
      else
        .next (runRequest t (updateRequest t (fun _ =>
          { r' with progress := .judged, captureReserved := captureNeed r', deferralReserved := deferralNeed r' }) s))
    else .next s

end Sys2Proof.Machine
end

