-- ==== Sys2Proof/Machine/Records.lean ====
section
/-! DEFINITION. The records the part writes: report records (R55, R199, section 12.5), label work records (section
12.3), bootstrap result lines (section 12.4) and the part's own journal entries (R89, section 12.2). -/

namespace Sys2Proof.Machine

open Sys2Proof

/-! ### Report records -/

/-- Section 12.1: the report kinds, from 01h in the order of the catalogue of R55. -/
def ReportBody.kind : ReportBody → Nat
  | .cmdDone .. => 0x01
  | .cmdRefused .. => 0x02
  | .guard .. => 0x03
  | .guestLatched .. => 0x04
  | .guestCleared .. => 0x05
  | .priceStaged .. => 0x06
  | .priceShown .. => 0x07
  | .priceEffective .. => 0x08
  | .priceFailed .. => 0x09
  | .priceWithdrawn .. => 0x0A
  | .zoneDone .. => 0x0B
  | .roundDone .. => 0x0C
  | .entryFlagged .. => 0x0D
  | .bankFull .. => 0x0E
  | .dayOpened .. => 0x0F
  | .dayClosing .. => 0x10
  | .dayClosed .. => 0x11
  | .closeDeferred .. => 0x12
  | .exportVerified .. => 0x13
  | .exportMismatch .. => 0x14
  | .exportLate .. => 0x15
  | .start .. => 0x16
  | .retainLost => 0x17
  | .status .. => 0x18
  | .totalsTill .. => 0x19
  | .totalsStore .. => 0x19
  | .watch .. => 0x1A

/-- R45, R199: the payload of a STATUS report, in the table's order. -/
def statusFields (i : StatusInfo) : List (Nat × Nat) :=
  [(1, i.lock.code), (1, i.badKeys), (1, i.logCount), (1, i.size.code), (1, i.dayPhase.code),
   (1, i.stateA.code), (2, i.dayA), (1, i.stateB.code), (2, i.dayB), (1, i.clock.code), (4, i.seconds),
   (2, i.period), (1, i.e), (1, i.n), (2, i.watchCount), (1, i.captureCount), (1, i.round.code), (1, i.roundNumber),
   (1, i.guestMode.code), (1, latchCode i.latch), (2, i.usage), (1, i.deferralCount),
   (2, i.producer), (2, i.consumer), (1, boolCode i.phase), (2, i.capacity),
   (1, i.pendingCount), (1, boolCode i.overflow), (1, i.threshold), (4, i.taken), (4, i.refused)]

/-- R131, R199: the fields of a watch entry in a WATCH report, with its position in table order. -/
def watchFields (e : WatchEntry) (pos : Nat) : List (Nat × Nat) :=
  [(4, e.line), (4, e.oldPrice), (4, e.newPrice), (1, e.zone.val), (1, e.facings.val), (1, e.policy.code),
   (2, e.acked.toNat), (1, e.state.code), (1, e.attempts), (1, boolCode e.epochSeen), (1, e.exit.code), (2, pos)]

/-- R110, R199: the eight fields of a till's totals, then one byte of markers, bit 0 for the first accumulator. -/
def tillFields (t : TillTotals) : List (Nat × Nat) :=
  [(8, twos 8 t.sales.value), (8, twos 8 t.returns.value), (8, twos 8 t.voids.value), (8, twos 8 t.net.value),
   (4, t.txns), (4, t.lines), (4, t.abandoned), (4, t.suspended),
   (1, boolCode t.sales.marked + 2 * boolCode t.returns.marked + 4 * boolCode t.voids.marked + 8 * boolCode t.net.marked)]

/-- R110, R199: the four fields of the store's totals, then one byte with the marker of its net total. -/
def storeFields (t : StoreTotals) : List (Nat × Nat) :=
  [(8, twos 8 t.net.value), (4, t.entries), (4, t.flagged), (4, t.txns), (1, boolCode t.net.marked)]

/-- R55, R199: the payload fields of a report in the catalogue's order, each with its width. -/
def ReportBody.payload : ReportBody → List (Nat × Nat)
  | .cmdDone code cookie => [(2, code), (2, cookie)]
  | .cmdRefused code cookie r => [(2, code), (2, cookie), (1, r.code)]
  | .guard e dump => [(1, e.tag.val), (1, e.cls.code), (4, e.bus), (1, kindCode e.kind), (1, e.cause.code), (1, windowCode e.window), (2, e.count), (1, boolCode dump)]
  | .guestLatched c u v => [(1, c.code), (2, u), (2, v)]
  | .guestCleared u => [(2, u)]
  | .priceStaged i o n z f p => [(4, i), (4, o), (4, n), (1, z.val), (1, f.val), (1, prevStateCode p)]
  | .priceShown i n z a => [(4, i), (4, n), (1, z.val), (1, a)]
  | .priceEffective i o n f => [(4, i), (4, o), (4, n), (1, boolCode f)]
  | .priceFailed i n z a k => [(4, i), (4, n), (1, z.val), (1, a), (2, k)]
  | .priceWithdrawn i o w => [(4, i), (4, o), (1, boolCode w)]
  | .zoneDone r z s h t => [(1, r), (1, z.val), (2, s), (2, h), (2, t)]
  | .roundDone r v s => [(1, r), (1, v), (1, boolCode s)]
  | .entryFlagged k i t q kd f => [(1, k.code), (4, i), (1, t), (2, q), (1, kd), (4, f.toNat)]
  | .bankFull k d c => [(1, k.code), (2, d), (4, c)]
  | .dayOpened k d => [(1, k.code), (2, d)]
  | .dayClosing k d g m t => [(1, k.code), (2, d), (2, g), (1, m.code), (1, boolCode t)]
  | .dayClosed k o d c s m => [(1, k.code), (1, o.code), (2, d), (4, c), (1, s), (1, m.code)]
  | .closeDeferred k st => [(1, k.code), (1, st.code)]
  | .exportVerified k d n c => [(1, k.code), (2, d), (4, n), (4, c.toNat)]
  | .exportMismatch k i c f => [(1, k.code), (4, i), (4, c.toNat), (4, f.toNat)]
  | .exportLate k c => [(1, k.code), (4, c)]
  | .start r f => [(1, r.code), (4, f)]
  | .retainLost => []
  | .status i => statusFields i
  | .totalsTill k t ts => (1, k.code) :: (1, t.val) :: tillFields ts
  | .totalsStore k ts => (1, k.code) :: (1, 255) :: storeFields ts
  | .watch i none => [(4, i), (1, 0)]
  | .watch i (some (e, pos)) => (4, i) :: (1, 1) :: watchFields e pos

/-- R55, section 12.5: the 64-byte report record with its phase and OVERFLOW_BEFORE marker. -/
def reportLine (r : Report) (phase overflowBefore : Bool) : Line :=
  packLine ((1, r.body.kind) :: (1, boolCode phase + 2 * boolCode overflowBefore + 4 * r.clock.code) ::
    (2, r.millis) :: (4, r.seconds) :: r.body.payload)

/-! ### Work records (section 8.4, section 12.3) -/

/-- The item slots of a work record: item code, new price (3 bytes), facings. -/
def workItems : List (Nat × Nat × Nat) → List (Nat × Nat)
  | [] => []
  | (item, price, facings) :: rest => (4, item) :: (3, price) :: (1, facings) :: workItems rest

/-- A label work record; unused slots are zero (R199). -/
def workLine (phase : Bool) (round : Nat) (zone : Fin 16) (recordNo : Nat) (items : List (Nat × Nat × Nat)) : Line :=
  packLine ((1, boolCode phase) :: (1, round) :: (1, zone.val) :: (1, recordNo) :: (1, items.length) :: (11, 0) ::
    workItems items)

/-! ### Bootstrap result lines (section 12.4) -/

/-- The bootstrap result line. -/
def resultLine (r : BootResult) : Line :=
  packLine
    [(2, r.code), (2, r.cookie), (2, r.count), (1, r.status.code),
     (1, match r.refusal with | some c => c.code | none => 0),
     (1, match r.outcome with | some (c, _) => c.code | none => 0), (3, 0),
     (4, match r.outcome with | some (_, f) => f | none => 0)]

/-! ### Entries the part writes (R89) -/

/-- The contents of a part-written entry that its kind decides (R89): till, transaction number, amount, whether the
amount is a total in the overflow state, and the 16 detail bytes. -/
structure PartContent where
  till : Nat
  txnNo : Nat
  amount : Acc
  detail : List (Nat × Nat)
deriving DecidableEq, Repr

/-- R89: the content of each kind, from the working state. -/
def partContent (j : JournalState) (o : PartOrder) : PartContent :=
  let bank := getBank j o.bank
  let ctx := j.contexts[o.till]
  match o.kind with
  | .dayOpen => { till := 0, txnNo := 0, amount := {}, detail := [(1, o.bank.code), (1, 0), (2, bank.dayNumber), (12, 0)] }
  | .txnSuspend =>
    { till := o.till.val, txnNo := ctx.txnNo, amount := ctx.total
      detail := [(2, ctx.list.length), (6, 0), (8, twos 8 ctx.tender.value)] }
  | .dayClose =>
    { till := 0, txnNo := 0, amount := bank.totals.store.net
      detail := [(2, 0), (2, bank.dayNumber), (4, bank.totals.store.entries), (4, bank.totals.store.txns), (4, 0)] }
  | .txnResume =>
    { till := o.till.val, txnNo := ctx.txnNo, amount := ctx.total
      detail := [(2, ctx.list.length), (14, 0)] }

/-- R89: the flags of a part-written entry. -/
def partFlags (c : PartContent) : Word32 := flagPartWritten ||| flagIf c.amount.marked flagOverflow

/-- R88, R89: the entry formed from the working state: sequence 0, its entry index the cursor, its chain computed from
the running chain, its note zero. -/
def partLine (j : JournalState) (o : PartOrder) : Line :=
  let bank := getBank j o.bank
  let c := partContent j o
  let l := packLine ([(1, o.kind.code), (1, c.till), (2, 0), (4, c.txnNo), (4, 0), (4, 0), (4, 0), (2, 0), (2, 0),
    (8, twos 8 c.amount.value), (4, (partFlags c).toNat), (4, bank.cursor)] ++ c.detail)
  putField l 56 4 (chainOf bank.running l).toNat

end Sys2Proof.Machine
end

