-- ==== Sys2Proof/Machine/LabelSequencer.lean ====
section
/-! DEFINITION. The Label Sequencer (Chapter 8) and the transitions of a watch entry it shares with the Price Watch
(R124): rounds and zone visits, work records, the label queue, acknowledgements and zone timeouts. -/

namespace Sys2Proof.Machine

open Sys2Proof

/-! ### The watch table (R123) -/

/-- The watch entry of an item. -/
def findEntry (s : State) (item : Nat) : Option WatchEntry := s.price.table.find? (fun e => decide (e.item = item))

/-- The watch table with the entry of an item changed; it keeps its place (R123). -/
def updateEntry (item : Nat) (f : WatchEntry → WatchEntry) (s : State) : State :=
  s.setPrice { s.price with table := s.price.table.map (fun e => if e.item = item then f e else e) }

/-- R124: the facing indices below a facings count. -/
def facingSet (n : Fin 16) : BitVec 16 := BitVec.ofNat 16 (2 ^ n.val - 1)

/-- R124: whether the acknowledged set holds every index below the facings count. -/
def allAcked (e : WatchEntry) : Bool := decide (e.acked &&& facingSet e.facings = facingSet e.facings)

/-- The number of indices in an acknowledged set. -/
def ackedCount (b : BitVec 16) : Nat := (sixteen.filter (fun i => b.getLsbD i.val)).length

/-! ### Round and visit (R136, R138, R141, R144) -/

/-- Whether a zone is enabled. -/
def zoneEnabled (l : LabelState) (z : Fin 16) : Bool := l.settings.mask.getLsbD z.val

/-- R136: the zone states with one zone changed. -/
def setZone (z : Fin 16) (zs : ZoneState) (s : State) : State :=
  s.setLabel { s.label with zones := vput s.label.zones z zs }

/-- R141: the items a visit of a zone gathers: STAGED entries of the zone with exit marker NONE, in table order. -/
def gather (p : PriceState) (z : Fin 16) : List VisitItem :=
  (p.table.filter (fun e => decide (e.state = .staged) && decide (e.zone = z) && decide (e.exit = .none))).map
    (fun e => ⟨e.item, false⟩)

/-- R138: the round ends with ROUND_DONE; the state follows the mode, IDLE after a stop. -/
def endRound (stopped : Bool) (s : State) : State :=
  let s := arise (.roundDone s.label.number s.label.visited stopped) s
  s.setLabel { s.label with
    zone := none
    round := if stopped = true ∨ s.label.settings.mode = .oneRound then .idle else .running }

/-- R141: the visit of a zone begins. -/
def openVisit (z : Fin 16) (s : State) : State :=
  s.setLabel { s.label with
    zone := some z, visit := gather s.price z, awaited := [], sent := 0, shown := 0, timedOut := 0, timeout := 0
    recordNo := 0 }

/-- R138: a visit has ended: its zone is DONE and the zones visited count gains one. -/
def closeVisit (z : Fin 16) (s : State) : State :=
  let s := setZone z .done s
  s.setLabel { s.label with visited := s.label.visited + 1 }

/-- R138, R141: the visits of the given zones begin in order; a trivial visit ends at once and the next one begins; after
the last the round ends. -/
def visitZones : List (Fin 16) → State → State
  | [], s => endRound false s
  | z :: rest, s =>
    let s := openVisit z s
    if s.label.visit = [] then visitZones rest (closeVisit z s) else setZone z .queueing s

/-- R138: the enabled zones still STANDBY, ascending. -/
def standbyZones (l : LabelState) : List (Fin 16) :=
  sixteen.filter (fun z => zoneEnabled l z && decide (l.zones[z] = .standby))

/-- R138: the visit in progress ends and the Label Sequencer goes on by its round state. -/
def endVisit (s : State) : State :=
  match s.label.zone with
  | none => s
  | some z =>
    let s := closeVisit z s
    if s.label.round = .stopping then endRound true s else visitZones (standbyZones s.label) s

/-- R136: a round starts. -/
def startRound (s : State) : State :=
  let s := s.setLabel { s.label with
    number := (s.label.number + 1) % 256, zones := Vector.replicate 16 .standby, visited := 0, round := .running }
  visitZones (standbyZones s.label) s

/-- Whether the current zone is WAITING. -/
def zoneWaiting (l : LabelState) : Bool :=
  match l.zone with
  | some z => decide (l.zones[z] = .waiting)
  | none => false

/-- Whether the current zone is QUEUEING. -/
def zoneQueueing (l : LabelState) : Bool :=
  match l.zone with
  | some z => decide (l.zones[z] = .queueing)
  | none => false

/-- R144: a visit with an empty awaited set ends with ZONE_DONE while its zone is WAITING. -/
def visitDone (s : State) : State :=
  match s.label.zone with
  | none => s
  | some z =>
    if zoneWaiting s.label = true ∧ s.label.awaited = [] then
      endVisit (arise (.zoneDone s.label.number z s.label.sent s.label.shown s.label.timedOut) s)
    else s

/-- R144: an item's entry has left SENDING or the table; an awaited item leaves the awaited set, counted as shown when
its entry became SHOWN, and the visit may end. -/
def leaveAwaited (item : Nat) (becameShown : Bool) (s : State) : State :=
  if s.label.awaited.contains item then
    visitDone (s.setLabel { s.label with
      awaited := s.label.awaited.filter (fun i => decide (i ≠ item))
      shown := if becameShown then s.label.shown + 1 else s.label.shown })
  else s

/-- R124: an entry becomes SHOWN, with its PRICE_SHOWN report. -/
def becomeShown (item : Nat) (s : State) : State :=
  let s := updateEntry item (fun e => { e with state := .shown, epochSeen := false }) s
  match findEntry s item with
  | some e => leaveAwaited item true (arise (.priceShown e.item e.newPrice e.zone e.attempts) s)
  | none => s

/-- R137, R139: whether the watch table holds an entry that is STAGED, has exit marker NONE and lies in an enabled zone. -/
def workExists (s : State) : Bool :=
  s.price.table.any (fun e => decide (e.state = .staged) && decide (e.exit = .none) && zoneEnabled s.label e.zone)

/-! ### Work records (R142, R143, R146) -/

/-- The capacity of the label queue (R146). -/
def labelCapacity (s : State) : Nat := ringCapacity s.guard.windows .labelQueue

/-- R142: whether a visit item is current, with what the record carries for it. -/
def currentItem (s : State) (z : Fin 16) (item : Nat) : Option (Nat × Nat × Nat) :=
  match findEntry s item with
  | some e =>
    if e.state = .staged ∧ e.zone = z ∧ e.exit = .none ∧ 1 ≤ e.facings.val then some (e.item, e.newPrice, e.facings.val)
    else none
  | none => none

/-- R142: an item that is left out; one that is STAGED with a facings count of 0 is made SHOWN. -/
def leaveOut (item : Nat) (s : State) : State :=
  match findEntry s item with
  | some e => if e.state = .staged ∧ e.facings.val = 0 then becomeShown item s else s
  | none => s

/-- R142: the walk over the visit list from its first unwritten item, which takes up to `room` items. It answers the
list with what was walked marked written, the items taken in order, and the state after the items left out. -/
def walk (z : Fin 16) : List VisitItem → Nat → State → List VisitItem × List (Nat × Nat × Nat) × State
  | [], _, s => ([], [], s)
  | v :: rest, room, s =>
    if v.written = true then
      let (l, taken, s') := walk z rest room s
      (v :: l, taken, s')
    else
      match room with
      | 0 => (v :: rest, [], s)
      | room' + 1 =>
        match currentItem s z v.item with
        | some x =>
          let (l, taken, s') := walk z rest room' s
          ({ v with written := true } :: l, x :: taken, s')
        | none =>
          let (l, taken, s') := walk z rest room (leaveOut v.item s)
          ({ v with written := true } :: l, taken, s')

/-- R143: no unwritten item is left: the zone becomes WAITING with the timeout count set; with nothing awaited the visit
ends at once. -/
def startWaiting (z : Fin 16) (s : State) : State :=
  let s := setZone z .waiting s
  visitDone (s.setLabel { s.label with timeout := s.label.settings.timeout })

/-- R142: whether the Label Sequencer may issue a work record. -/
def canIssueRecord (s : State) : Bool :=
  zoneQueueing s.label && decide (s.label.writing = none) && decide (s.mem.slots.labelSequencer = .empty) &&
    !s.mem.hold && !ringFull s.label.producer s.label.consumer (labelCapacity s)

/-- WORK_RECORD_ISSUE (R142). -/
def execWorkRecordIssue (s : State) : Host.Outcome State Fault Refusal :=
  match s.label.zone, roleWindow s.guard.windows .labelQueue with
  | some z, some w =>
    if canIssueRecord s then
      let (l, taken, s) := walk z s.label.visit Config.recordItems s
      let s := s.setLabel { s.label with visit := l }
      if taken = [] then
        .next (if l.all (fun v => v.written) then startWaiting z s else s)
      else
        let record := workLine s.label.phase s.label.number z s.label.recordNo taken
        .next (issueAccess .labelSequencer
          { kind := .write, addr := w.lineAddr s.label.producer, mask := fullMask, data := record }
          (s.setLabel { s.label with writing := some ⟨taken.map (fun x => (x.1, x.2.1)), true, true⟩ }))
    else .next s
  | _, _ => .next s

/-- R143: an item of a completed record is checked again; if its entry still stands for the price written it goes from
STAGED to SENDING and is awaited. -/
def sendItem (z : Fin 16) (item price : Nat) (s : State) : State :=
  match findEntry s item with
  | some e =>
    if e.state = .staged ∧ e.zone = z ∧ e.exit = .none ∧ e.newPrice = price then
      let s := updateEntry item (fun e => { e with state := .sending, attempts := min (e.attempts + 1) 15 }) s
      s.setLabel { s.label with awaited := s.label.awaited ++ [item], sent := s.label.sent + 1 }
    else s
  | none => s

/-- R143: the producer index advances by one; the queue phase changes if the index goes back to 0. -/
def advanceLabel (s : State) : State :=
  let p := ringNext s.label.producer (labelCapacity s)
  s.setLabel { s.label with producer := p, phase := if p = 0 then !s.label.phase else s.label.phase }

/-- R143, R146, R149: what the completion of a work record's write does. -/
def workWritten (w : WorkWrite) (s : State) : State :=
  let s := s.setLabel { s.label with writing := none }
  let s := if w.inRing then advanceLabel s else s
  match w.live, s.label.zone with
  | true, some z =>
    let s := s.setLabel { s.label with recordNo := (s.label.recordNo + 1) % 256 }
    let s := w.items.foldl (fun s x => sendItem z x.1 x.2 s) s
    if s.label.visit.any (fun v => !v.written) then s else startWaiting z s
  | _, _ => s

/-- The granted work record write completes (R143); `beyond` as its grant found it (R14). -/
def completeWorkRecord (beyond : Bool) (s : State) : State :=
  match grantedAccess s.mem .labelSequencer, s.label.writing with
  | some a, some w => workWritten w (releaseSlot .labelSequencer (storeAccess beyond a s))
  | _, _ => s

/-- WORK_RECORD_COMPLETE (R143). -/
def execWorkRecordComplete (s : State) : Host.Outcome State Fault Refusal := .next (completeWorkRecord false s)

/-! ### Time (R137, R139, R145) -/

/-- R137: the trigger made by the Time Base starts a round when its conditions hold, otherwise it is ignored. A trigger
that no tick has made is no event. -/
def roundTrigger (s : State) : State :=
  if s.time.triggerDue = 0 then s
  else
    let s := s.setTime { s.time with triggerDue := s.time.triggerDue - 1 }
    if s.label.settings.trigger = .timebase ∧ s.label.round = .idle ∧ s.mem.hold = false ∧
        (roleWindow s.guard.windows .labelQueue).isSome = true ∧ workExists s = true then startRound s
    else s

/-- ROUND_TRIGGER (R137). -/
def execRoundTrigger (s : State) : Host.Outcome State Fault Refusal := .next (roundTrigger s)

/-- R139, R145, R150: the Label Sequencer on a period boundary: outside the hold, the timeout count of a WAITING zone is
lowered by one, and a resting round starts its successor where work exists. Expiry is the row ZONE_TIMEOUT. -/
def labelBoundary (s : State) : State :=
  if s.mem.hold then s
  else if zoneWaiting s.label then s.setLabel { s.label with timeout := s.label.timeout - 1 }
  else if s.label.round = .running ∧ s.label.zone = none ∧ workExists s = true then startRound s
  else s

/-- R145: an awaited item at expiry: FAILED at the attempt limit, else STAGED with its acknowledged set kept. -/
def timeOutItem (s : State) (item : Nat) : State :=
  match findEntry s item with
  | some e =>
    let s := s.setLabel { s.label with timedOut := s.label.timedOut + 1 }
    if s.label.settings.limit ≤ e.attempts then
      arise (.priceFailed e.item e.newPrice e.zone e.attempts (ackedCount e.acked))
        (updateEntry item (fun e => { e with state := .failed }) s)
    else updateEntry item (fun e => { e with state := .staged }) s
  | none => s

/-- R145: the awaited items in table order. -/
def awaitedInOrder (s : State) : List Nat :=
  (s.price.table.filter (fun e => s.label.awaited.contains e.item)).map (fun e => e.item)

/-- R145: whether the visit has timed out. -/
def visitExpired (l : LabelState) : Bool := zoneWaiting l && decide (l.timeout = 0)

/-- R145: the visit times out. -/
def expireVisit (s : State) : State :=
  let s := (awaitedInOrder s).foldl timeOutItem s
  visitDone (s.setLabel { s.label with awaited := [] })

/-- R145: a visit whose timeout count has reached 0 times out. -/
def zoneTimeout (s : State) : State := if visitExpired s.label then expireVisit s else s

/-- ZONE_TIMEOUT (R145): the timeout count of the WAITING zone has reached 0. -/
def execZoneTimeout (s : State) : Host.Outcome State Fault Refusal := .next (zoneTimeout s)

/-! ### The label queue and acknowledgements (R147, R148) -/

/-- R147: a LABEL-class read of the slot that the consumer index names advances it, unless the queue is empty. -/
def observeLabelRead (addr : Nat) (s : State) : State :=
  match roleWindow s.guard.windows .labelQueue with
  | some w =>
    if s.label.producer ≠ s.label.consumer ∧ addr = w.lineAddr s.label.consumer then
      s.setLabel { s.label with consumer := ringNext s.label.consumer (labelCapacity s) }
    else s
  | none => s

/-- R148: whether an acknowledgement is taken for an entry. -/
def ackTaken (a : AckFields) (e : WatchEntry) : Bool :=
  a.ok && (decide (e.state = .sending) || decide (e.state = .staged)) && decide (a.price = e.newPrice) &&
    decide (a.facing < e.facings.val)

/-- R148: an acknowledgement is judged against the watch table. -/
def takeAck (a : AckFields) (s : State) : State :=
  match findEntry s a.item with
  | some e =>
    if ackTaken a e then
      let s := updateEntry a.item (fun e => { e with acked := e.acked ||| BitVec.ofNat 16 (2 ^ a.facing) }) s
      match findEntry s a.item with
      | some e' => if allAcked e' then becomeShown a.item s else s
      | none => s
    else s
  | none => s

/-- ACKNOWLEDGEMENT (R148): the line is taken or ignored, and passes. -/
def execAcknowledgement (t : Fin 64) (s : State) : Host.Outcome State Fault Refusal :=
  match turnLine t s with
  | some (_, k, l, .ack) => .next (passTurn t k (takeAck (readAck l.data) (activate t s)))
  | _ => .next s

/-! ### Link reset (R149) and ring reset (R146) -/

/-- R149: an entry of the awaited set returns from SENDING to STAGED. -/
def unsend (s : State) (item : Nat) : State :=
  updateEntry item (fun e => if e.state = .sending then { e with state := .staged } else e) s

/-- R149: a work record write waiting in the slot is given up; one already granted completes and moves no entry. One that
the power-fail hold has abandoned is given up too: DESIGN CHOICE, log entry 25. -/
def dropRecord (s : State) : State :=
  match s.mem.slots.labelSequencer with
  | .granted _ => s.setLabel { s.label with writing := s.label.writing.map (fun w => { w with live := false }) }
  | _ =>
    (s.setMem { s.mem with slots := s.mem.slots.put .labelSequencer .empty
                           abandoned := s.mem.abandoned.put .labelSequencer none }).setLabel
      { s.label with writing := none }

/-- R149: a link reset ends the round. -/
def labelLinkReset (s : State) : State :=
  let s :=
    if s.label.round = .idle then s
    else
      let s := s.label.awaited.foldl unsend s
      if s.label.zone.isSome then arise (.roundDone s.label.number s.label.visited true) s else s
  let s := dropRecord s
  s.setLabel { s.label with round := .idle, zone := none, visit := [], awaited := [] }

/-- R146: the Label Sequencer is told that the LABEL_QUEUE window was set, moved or disabled. -/
def resetLabelRing (s : State) : State :=
  s.setLabel { s.label with
    producer := 0, consumer := 0, phase := true, writing := s.label.writing.map (fun w => { w with inRing := false }) }

end Sys2Proof.Machine
end

