-- ==== Sys2Proof/Machine/PriceWatch.lean ====
section
/-! DEFINITION. The Price Watch (Chapter 7): the capture queue and the comparison (R112 to R120), the watch table and its
departures (R123, R127 to R130), and the till view (R125). -/

namespace Sys2Proof.Machine

open Sys2Proof

/-! ### Departure from the table -/

/-- An entry leaves the table and withdrawal order; `report` is the report its departure makes; an awaited item leaves
the awaited set (R144). That the report comes before those of the visit it ends is a DESIGN CHOICE (log entry 24). -/
def removeEntry (item : Nat) (report : ReportBody) (s : State) : State :=
  let s := s.setPrice { s.price with
    table := s.price.table.filter (fun e => decide (e.item ≠ item))
    withdrawals := s.price.withdrawals.filter (fun i => decide (i ≠ item)) }
  leaveAwaited item false (arise report s)

/-- R120, R130, R123: an entry leaves with PRICE_WITHDRAWN. -/
def withdrawEntry (e : WatchEntry) (writtenBack : Bool) (s : State) : State :=
  removeEntry e.item (.priceWithdrawn e.item e.oldPrice writtenBack) s

/-- An item leaves withdrawal order (R116, R119). -/
def leaveWithdrawals (item : Nat) (s : State) : State :=
  s.setPrice { s.price with withdrawals := s.price.withdrawals.filter (fun i => decide (i ≠ item)) }

/-! ### The comparison (R115 to R119) -/

/-- R116: the line is being given to another item: the old item's entry takes the exit marker AFTER_WRITE. -/
def reassign (oldItem addr : Nat) (s : State) : State :=
  match findEntry s oldItem with
  | some e =>
    match e.exit with
    | .afterWrite _ => s
    | _ => leaveWithdrawals oldItem (updateEntry oldItem (fun e => { e with exit := .afterWrite addr }) s)
  | none => s

/-- R117: the entry after the copy of zone, facings, policy and line, before any change of state to SHOWN. -/
def copiedEntry (e : WatchEntry) (n : PriceFields) (addr : Nat) : WatchEntry :=
  let zoneChanged : Bool := decide (e.zone ≠ n.zone)
  let acked := (if zoneChanged then 0 else e.acked) &&& facingSet n.facings
  let base := { e with
    zone := n.zone, facings := n.facings, policy := n.policy, line := addr, acked := acked
    exit := match e.exit with | .afterWrite _ => .none | x => x }
  match e.state with
  | .sending => { base with state := if zoneChanged then .staged else .sending }
  | .shown => if allAcked base then base else { base with state := .staged, epochSeen := false }
  | _ => base

/-- R117: same item, same price. -/
def copyPrice (e : WatchEntry) (n : PriceFields) (addr : Nat) (s : State) : State :=
  let e' := copiedEntry e n addr
  let left : Bool := decide (e.state = .sending) && decide (e'.state ≠ .sending)
  let s := updateEntry e.item (fun _ => e') s
  let s := if left then s.setLabel { s.label with awaited := s.label.awaited.filter (fun i => decide (i ≠ e.item)) } else s
  let s := if (e'.state = .staged ∨ e'.state = .sending) ∧ allAcked e' = true then becomeShown e.item s else s
  if left then visitDone s else s

/-- R118: a new price for an item with no entry: it stages a new entry, or is discarded when the table is full. The
answer says whether the held write is let go. -/
def stagePrice (o n : PriceFields) (addr : Nat) (s : State) : Bool × State :=
  if priceInRange o.price = false ∨ priceInRange n.price = false then (true, s)
  else if s.price.table.length < Config.watchSize then
    let e : WatchEntry :=
      { item := n.item, line := addr, oldPrice := o.price, newPrice := n.price, zone := n.zone, facings := n.facings
        policy := n.policy, acked := 0, state := .staged, attempts := 0, epochSeen := false, exit := .none }
    let s := s.setPrice { s.price with table := s.price.table ++ [e] }
    let s := arise (.priceStaged e.item e.oldPrice e.newPrice e.zone e.facings none) s
    (true, if n.facings.val = 0 then becomeShown e.item s else s)
  else (false, s)

/-- R119: the restaged entry with its new price `w`. -/
def restagedEntry (e : WatchEntry) (w : Nat) : WatchEntry :=
  match e.state with
  | .shown => { e with oldPrice := e.newPrice, newPrice := w, acked := 0, epochSeen := false, state := .staged, attempts := 0, exit := .none }
  | .failed => { e with newPrice := w, acked := 0, state := .staged, attempts := 0, exit := .none }
  | _ => { e with newPrice := w, acked := 0, state := .staged, exit := .none }

/-- R119: a new price for an item with an entry. In every row the entry's exit marker is cleared, unless the row sets it,
and the entry leaves withdrawal order. That PRICE_STAGED comes before the reports of a visit that the restaging ends is a
DESIGN CHOICE (log entry 24). -/
def restagePrice (e : WatchEntry) (n : PriceFields) (addr : Nat) (s : State) : State :=
  if priceInRange n.price = false then s
  else
    let base := { e with
      line := addr, zone := n.zone, facings := n.facings, policy := n.policy, acked := e.acked &&& facingSet n.facings }
    if e.state = .shown ∧ n.price = e.newPrice then
      leaveWithdrawals e.item (updateEntry e.item (fun _ => { base with exit := .none }) s)
    else if e.state ≠ .shown ∧ n.price = e.oldPrice then
      leaveWithdrawals e.item (updateEntry e.item (fun _ => { base with exit := .afterWrite addr }) s)
    else
      let e' := restagedEntry base n.price
      let s := leaveWithdrawals e.item (updateEntry e.item (fun _ => e') s)
      let s := arise (.priceStaged e'.item e'.oldPrice e'.newPrice e'.zone e'.facings (some e.state)) s
      if e.state = .sending then leaveAwaited e.item false s else s

/-- R115: the comparison of the old line with the new line of a held write to a DRAM line. The answer says whether the
held write is let go; it is not when the table is full (R118). -/
def comparePrice (old new : Line) (addr : Nat) (s : State) : Bool × State :=
  let o := readPrice old
  let n := readPrice new
  if o.item ≠ n.item then (true, reassign o.item addr s)
  else
    match findEntry s n.item with
    | some e => (true, if o.price = n.price then copyPrice e n addr s else restagePrice e n addr s)
    | none => if o.price = n.price then (true, s) else stagePrice o n addr s

/-! ### The capture queue (R112 to R114, R120) -/

/-- PRICE_WRITE_CAPTURE (R112): the line enters the capture queue at its tail as WAITING and is held; a later line of
its request takes effect at once. -/
def execPriceWriteCapture (t : Fin 64) (s : State) : Host.Outcome State Fault Refusal :=
  match turnLine t s with
  | some (_, k, l, .capture) =>
    match l.verdict with
    | some (.pass addr _ _ _) =>
      let s := activate t s
      let s := updateRequest t (fun r => Request.onLine k (fun l => { l with stage := .held }) { r with captureReserved := r.captureReserved - 1 }) s
      let s := s.setPrice { s.price with queue := s.price.queue ++ [⟨some ⟨t, k⟩, addr, l.data, .waiting⟩] }
      .next (runRequest t s)
    | _ => .next s
  | _ => .next s

/-- The first line of the capture queue in a state. -/
def firstCapture (q : List CaptureLine) (st : CaptureStage) : Option CaptureLine := q.find? (fun c => decide (c.stage = st))

/-- R114: whether a RELEASED line of the queue targets a DRAM line. -/
def releasedAt (q : List CaptureLine) (addr : Nat) : Bool :=
  q.any (fun c => decide (c.stage = .released) && decide (c.addr = addr))

/-- R114: the capture candidate, if it is eligible. -/
def captureCandidate (p : PriceState) : Option CaptureLine :=
  match firstCapture p.queue .waiting with
  | some c =>
    if p.queue.any (fun d => decide (d.stage = .reading)) then none
    else if releasedAt p.queue c.addr then none
    else if p.table.any (fun e => decide (e.exit = .withdraw) && decide (e.line = c.addr)) then none
    else some c
  | none => none

/-- R114: the withdrawal candidate, if it is eligible: the entry first in withdrawal order. -/
def withdrawalCandidate (p : PriceState) : Option WatchEntry :=
  match p.withdrawals with
  | [] => none
  | item :: _ =>
    match p.table.find? (fun e => decide (e.item = item)) with
    | some e => if releasedAt p.queue e.line then none else some e
    | none => none

/-- R114: whether the Price Watch may issue an access. -/
def priceIdle (s : State) : Bool := decide (s.price.access = .idle) && decide (s.mem.slots.priceWatch = .empty)

/-- The first WAITING line of the queue marked READING. -/
def markReading : List CaptureLine → List CaptureLine
  | [] => []
  | c :: rest => if c.stage = .waiting then { c with stage := .reading } :: rest else c :: markReading rest

/-- An inserted read of a DRAM line. -/
def readAccess (addr : Nat) : Access := { kind := .read, addr := addr, mask := 0, data := 0 }

/-- CAPTURE_READ_ISSUE (R114): the oldest WAITING line's capture read is issued when it is eligible and, with a
withdrawal eligible too, when a withdrawal was issued last. None is issued during the hold (R122). -/
def execCaptureReadIssue (s : State) : Host.Outcome State Fault Refusal :=
  match captureCandidate s.price with
  | some c =>
    if priceIdle s = true ∧ s.mem.hold = false ∧
        ((withdrawalCandidate s.price).isNone = true ∨ s.price.lastIssue = .withdrawal) then
      .next (issueAccess .priceWatch (readAccess c.addr)
        (s.setPrice { s.price with queue := markReading s.price.queue, access := .captureRead, lastIssue := .capture }))
    else .next s
  | none => .next s

/-- CHECK_READ_ISSUE (R130): the check read of the first withdrawal is issued when it is eligible and, with a capture
eligible too, when a capture was issued last. -/
def execCheckReadIssue (s : State) : Host.Outcome State Fault Refusal :=
  match withdrawalCandidate s.price with
  | some e =>
    if priceIdle s = true ∧
        ((captureCandidate s.price).isNone = true ∨ s.mem.hold = true ∨ s.price.lastIssue = .capture) then
      .next (issueAccess .priceWatch (readAccess e.line)
        (s.setPrice { s.price with access := .checkRead e.item, lastIssue := .withdrawal, dropAtCheck := false }))
    else .next s
  | none => .next s

/-- The queue with its READING line in another state. -/
def markReleased (q : List CaptureLine) : List CaptureLine :=
  q.map (fun c => if c.stage = .reading then { c with stage := .released } else c)

/-- R120: a held write is let go: its line is handed to the Memory Port and becomes RELEASED. -/
def letGo (c : CaptureLine) (s : State) : State :=
  let s := s.setPrice { s.price with queue := markReleased s.price.queue }
  match c.owner with
  | some o => handLine o.txn o.idx none true s
  | none => s

/-- R118: a held line is discarded with WATCH_FULL and leaves the queue. -/
def discardHeld (c : CaptureLine) (s : State) : State :=
  let s := s.setPrice { s.price with queue := s.price.queue.filter (fun d => decide (d.stage ≠ .reading)) }
  match c.owner with
  | some o => recordRefusal o.txn o.idx .watchFull s
  | none => s

/-- R115: what the completion of the capture read does; a capture whose line a link reset removed does nothing (R121). -/
def captured (old : Line) (s : State) : State :=
  let s := s.setPrice { s.price with access := .idle }
  match firstCapture s.price.queue .reading with
  | some c =>
    let (go, s) := comparePrice old c.data c.addr s
    if go then letGo c s else discardHeld c s
  | none => s

/-- The granted capture read completes (R115); `beyond` as its grant found it (R14). That the fill bytes of a read out of
range are compared as any other old line is a DESIGN CHOICE (log entry 29). -/
def completeCapture (beyond : Bool) (s : State) : State :=
  match grantedAccess s.mem .priceWatch, s.price.access with
  | some a, .captureRead => captured (accessData beyond s.mem a) (releaseSlot .priceWatch s)
  | _, _ => s

/-- CAPTURE_READ_COMPLETE (R115). -/
def execCaptureReadComplete (s : State) : Host.Outcome State Fault Refusal := .next (completeCapture false s)

/-! ### Withdrawal (R130) -/

/-- R130: the price write-back, whose mask selects bytes 4 to 7 (section 12.3). -/
def writeBackAccess (e : WatchEntry) : Access :=
  { kind := .write, addr := e.line, mask := fieldMask 4 4, data := putField 0 4 4 e.oldPrice }

/-- R130 step 2, R123: the decision when the check read has completed. -/
def checked (item : Nat) (line : Line) (s : State) : State :=
  let drop := s.price.dropAtCheck
  let s := s.setPrice { s.price with access := .idle, dropAtCheck := false }
  match findEntry s item with
  | none => s
  | some e =>
    if drop = true ∨ (readPrice line).item ≠ item then withdrawEntry e false s
    else issueAccess .priceWatch (writeBackAccess e) (s.setPrice { s.price with access := .writeBack item })

/-- The granted check read completes (R130); `beyond` as its grant found it (R14). That the fill bytes of a read out of range
are compared as any other line is a DESIGN CHOICE (log entry 29). -/
def completeCheck (beyond : Bool) (s : State) : State :=
  match grantedAccess s.mem .priceWatch, s.price.access with
  | some a, .checkRead item => checked item (accessData beyond s.mem a) (releaseSlot .priceWatch s)
  | _, _ => s

/-- CHECK_READ_COMPLETE (R130). -/
def execCheckReadComplete (s : State) : Host.Outcome State Fault Refusal := .next (completeCheck false s)

/-- R130 step 3: the write-back is complete. -/
def writtenBack (item : Nat) (s : State) : State :=
  let s := s.setPrice { s.price with access := .idle }
  match findEntry s item with
  | some e => withdrawEntry e true s
  | none => s

/-- The granted write-back completes (R130); `beyond` as its grant found it (R14). That one out of range, which stores
nothing, ends the withdrawal with the written-back marker set is a DESIGN CHOICE (log entry 29). -/
def completeWriteBack (beyond : Bool) (s : State) : State :=
  match grantedAccess s.mem .priceWatch, s.price.access with
  | some a, .writeBack item => writtenBack item (releaseSlot .priceWatch (storeAccess beyond a s))
  | _, _ => s

/-- WRITE_BACK_COMPLETE (R130). -/
def execWriteBackComplete (s : State) : Host.Outcome State Fault Refusal := .next (completeWriteBack false s)

/-! ### The released write completes (R120) -/

/-- R120: the released write to a DRAM line is complete: the line leaves the capture queue, and an entry that waited for
it with AFTER_WRITE leaves the table. -/
def releasedDone (addr : Nat) (s : State) : State :=
  let s := s.setPrice { s.price with
    queue := s.price.queue.filter (fun c => !(decide (c.stage = .released) && decide (c.addr = addr))) }
  match s.price.table.find? (fun e => decide (e.exit = .afterWrite addr)) with
  | some e => withdrawEntry e false s
  | none => s

/-! ### The epoch boundary (R127) -/

/-- R127: whether an entry is removed by an epoch boundary. -/
def retires (e : WatchEntry) : Bool := decide (e.state = .shown) && e.epochSeen && decide (e.exit = .none)

/-- R127: both passes, in table order. -/
def epochPass (s : State) : State :=
  let gone := s.price.table.filter retires
  let s := gone.foldl (fun s e => removeEntry e.item (.priceEffective e.item e.oldPrice e.newPrice false) s) s
  s.setPrice { s.price with table := s.price.table.map (fun e =>
    if e.state = .shown ∧ e.exit = .none then { e with epochSeen := true } else e) }

/-- R127: the epoch boundary made by the Time Base reaches the Price Watch. A boundary that no tick has made is no
event. -/
def epochBoundary (s : State) : State :=
  if s.time.epochDue = 0 then s else epochPass (s.setTime { s.time with epochDue := s.time.epochDue - 1 })

/-- EPOCH_BOUNDARY (R127). -/
def execEpochBoundary (s : State) : Host.Outcome State Fault Refusal := .next (epochBoundary s)

/-! ### The till view (R125) -/

/-- R125: the data delivered for a line of the PRICE window in the SUBSTITUTED view. -/
def substitute (s : State) (l : Line) : Line :=
  match findEntry s (getField l 0 4) with
  | some e => putField (putField l 4 4 e.oldPrice) 11 1 1
  | none => putField l 11 1 0

/-! ### Link reset (R121) and a changed PRICE window (R123) -/

/-- R121: WAITING and READING lines leave the queue; a capture read not yet granted is given up, be it waiting in the slot
or abandoned by the power-fail hold (log entry 25). -/
def priceLinkReset (s : State) : State :=
  let s := s.setPrice { s.price with queue := (s.price.queue.filter (fun c => decide (c.stage = .released))).map (fun c => { c with owner := none }) }
  match s.price.access, s.mem.slots.priceWatch with
  | .captureRead, .granted _ => s
  | .captureRead, _ =>
    (s.setMem { s.mem with slots := s.mem.slots.put .priceWatch .empty
                           abandoned := s.mem.abandoned.put .priceWatch none }).setPrice { s.price with access := .idle }
  | _, _ => s

/-- R123: one entry whose line lies outside the changed PRICE window. -/
def dropOutside (s : State) (e : WatchEntry) : State :=
  match s.price.access with
  | .checkRead item => if item = e.item then s.setPrice { s.price with dropAtCheck := true } else withdrawEntry e false s
  | .writeBack item => if item = e.item then s else withdrawEntry e false s
  | _ => withdrawEntry e false s

/-- R123: the Price Watch is told by a configuration load that the PRICE window was set, moved or disabled. -/
def priceWindowChanged (s : State) : State :=
  match roleWindow s.guard.windows .price with
  | some w => (s.price.table.filter (fun e => !(w.coversDram e.line))).foldl dropOutside s
  | none => s

end Sys2Proof.Machine
end

