-- ==== Sys2Proof/Machine/ReportWriter.lean ====
section
/-! DEFINITION. The Report Writer (sections 3.3 to 3.5): placement of the head of the pending queue into the report ring
(R47, R49, R50), and the ring after a change of the REPORT window (R51). -/

namespace Sys2Proof.Machine

open Sys2Proof

/-- The capacity of the report ring (R46). -/
def reportCapacity (s : State) : Nat := ringCapacity s.guard.windows .report

/-- R49: whether the Report Writer may issue a placement. -/
def canPlace (s : State) : Bool :=
  decide (s.reports.placing = none) && decide (s.mem.slots.reportWriter = .empty) &&
    !ringFull s.reports.producer s.reports.consumer (reportCapacity s)

/-- R49, R51: the OVERFLOW_BEFORE marker of the record about to be issued. -/
def placementMarker (r : ReportState) : Bool := r.overflow || r.headMarked

/-- PLACEMENT_ISSUE (R49): the head report is formed into a record and issued to the slot of the producer index. -/
def execPlacementIssue (s : State) : Host.Outcome State Fault Refusal :=
  match s.reports.pending, roleWindow s.guard.windows .report with
  | r :: _, some w =>
    if canPlace s then
      let record := reportLine r s.reports.phase (placementMarker s.reports)
      .next (issueAccess .reportWriter
        { kind := .write, addr := w.lineAddr s.reports.producer, mask := fullMask, data := record }
        (s.setReports { s.reports with
          placing := some ⟨true⟩, overflow := false, headMarked := placementMarker s.reports }))
    else .next s
  | _, _ => .next s

/-- R47, R49: the ring after the write of its head report: the producer index advances and the phase changes if it went
back to 0. -/
def placed (capacity : Nat) (r : ReportState) : ReportState :=
  let p := ringNext r.producer capacity
  { r with
    placing := none, pending := r.pending.drop 1, headMarked := false, producer := p
    phase := if p = 0 then !r.phase else r.phase }

/-- The granted placement completes (R49, R51, R53); `beyond` as its grant found it (R14). -/
def completePlacement (beyond : Bool) (s : State) : State :=
  match grantedAccess s.mem .reportWriter, s.reports.placing with
  | some a, some p =>
    let s := releaseSlot .reportWriter (storeAccess beyond a s)
    if p.inRing then evalIrq (s.setReports (placed (reportCapacity s) s.reports))
    else s.setReports { s.reports with placing := none }
  | _, _ => s

/-- PLACEMENT_COMPLETE (R49). -/
def execPlacementComplete (s : State) : Host.Outcome State Fault Refusal := .next (completePlacement false s)

/-- R51, R46: the Report Writer is told that the REPORT window was set, moved or disabled. -/
def resetReportRing (s : State) : State :=
  evalIrq (s.setReports { s.reports with
    producer := 0, consumer := 0, phase := true, placing := s.reports.placing.map (fun _ => ⟨false⟩) })

end Sys2Proof.Machine
end

