-- ==== Sys2Proof/Machine/WindowTable.lean ====
section
/-! DEFINITION. The window table and its edits (sections 2.1 and 2.5): the three laws (R18), the checks of an edit (R34
to R36), the blocks that are told (R20), and the journal window record (R195). -/

namespace Sys2Proof.Machine

open Sys2Proof

/-! ### The laws of the table (R18, R35) -/

/-- Section 2.1.1: the minimum size of a role's window, in pages. -/
def Role.minPages : Role → Nat
  | .journalA => 2
  | .journalB => 2
  | _ => 1

/-- R35: the range check of an enabled window. -/
def Window.inRange (size : DramSize) (w : Window) : Bool :=
  decide (w.base ≤ Config.maxPage) && decide (w.limit ≤ Config.maxPage) && decide (w.base ≤ w.limit) &&
    decide (0 ≤ w.dramFirst) && decide ((w.dramLast + 1) * Config.pageBytes ≤ size.bytes) &&
    decide (w.base + w.role.minPages ≤ w.limit + 1)

/-- R18: two windows share a bus page. -/
def Window.sharesBus (v w : Window) : Bool := decide (v.base ≤ w.limit) && decide (w.base ≤ v.limit)

/-- R18: two windows hold the same role other than PLAIN. -/
def Window.sharesRole (v w : Window) : Bool := decide (v.role ≠ .plain) && decide (v.role = w.role)

/-- R18, R35: the DRAM ranges of two windows, one of them a role window, share a page. -/
def Window.aliases (v w : Window) : Bool :=
  (decide (v.role ≠ .plain) || decide (w.role ≠ .plain)) &&
    decide (v.dramFirst ≤ w.dramLast) && decide (w.dramFirst ≤ v.dramLast)

/-- R18: two enabled windows stand side by side under the three laws. -/
def Window.compatible (v w : Window) : Bool := !v.sharesBus w && !v.sharesRole w && !v.aliases w

/-- R18: the three laws of the window table. -/
def tableLaws (ws : Vector Window 16) : Bool :=
  sixteen.all (fun i => sixteen.all (fun j =>
    decide (i = j) || !ws[i].enabled || !ws[j].enabled || ws[i].compatible ws[j]))

/-- Whether some enabled entry at another index stands in a relation to a window. -/
def otherEntry (ws : Vector Window 16) (i : Fin 16) (f : Window → Bool) : Bool :=
  sixteen.any (fun j => decide (j ≠ i) && ws[j].enabled && f ws[j])

/-! ### Checks of SET_WINDOW (R34, R36) -/

/-- R36: whether a role is in use. -/
def roleInUse (s : State) : Role → Bool
  | .journalA => decide (s.journal.bankA.state ≠ .idle)
  | .journalB => decide (s.journal.bankB.state ≠ .idle)
  | .price => !s.price.table.isEmpty || !s.price.queue.isEmpty
  | .labelQueue => decide (s.label.round ≠ .idle)
  | _ => false

/-- R34: checks 2 to 6, the first refusal that applies. -/
def windowRefusal (s : State) (i : Fin 16) (w : Window) : Option RefusalCode :=
  let ws := s.guard.windows
  if ws[i].enabled = true ∧ roleInUse s ws[i].role = true then some .roleBusy
  else if w.enabled = false then none
  else if w.inRange s.mem.size = false then some .badRange
  else if otherEntry ws i w.sharesBus then some .overlap
  else if otherEntry ws i w.sharesRole then some .roleTaken
  else if otherEntry ws i w.aliases then some .alias_
  else none

/-! ### Telling the owners (R20) and the journal window record (R195) -/

/-- R195: where a window stands. -/
def Window.place (w : Window) : WindowPlace := { base := w.base, limit := w.limit, offset := w.offset }

/-- The place of the enabled window of a role. -/
def rolePlace (ws : Vector Window 16) (r : Role) : Option WindowPlace := (roleWindow ws r).map Window.place

/-- R20: whether the window of a role is set, moved or disabled between two tables. -/
def roleMoved (old new : Vector Window 16) (r : Role) : Bool := decide (rolePlace old r ≠ rolePlace new r)

/-- R20: the Report Writer and the Label Sequencer are told of a change from an old table; a configuration load also tells
the Price Watch, which drops the entries left outside (R123). -/
def tellOwners (old : Vector Window 16) (load : Bool) (s : State) : State :=
  let ws := s.guard.windows
  let s := if roleMoved old ws .report then resetReportRing s else s
  let s := if roleMoved old ws .labelQueue then resetLabelRing s else s
  if load = true ∧ roleMoved old ws .price = true then priceWindowChanged s else s

/-- R195: the journal window record is brought up to date. -/
def recordWindows (s : State) : State :=
  s.setRetained { s.retained with
    recordA := rolePlace s.guard.windows .journalA, recordB := rolePlace s.guard.windows .journalB }

/-- Whether an entry is an enabled window of a journal role. -/
def Window.isJournal (w : Window) : Bool := w.enabled && w.role.bank.isSome

/-- R24, R37: the content that is stored: in a journal role the write-protect flag mirrors the bank's state. -/
def storedWindow (j : JournalState) (w : Window) : Window :=
  match w.enabled, w.role.bank with
  | true, some bk => { w with writeProtect := (getBank j bk).state.protects }
  | _, _ => w

/-- R37: an accepted edit of one entry. -/
def placeWindow (i : Fin 16) (w : Window) (s : State) : State :=
  let old := s.guard.windows
  let w := storedWindow s.journal w
  let s := s.setGuard { s.guard with windows := vput old i w }
  let s := if old[i].isJournal || w.isJournal then recordWindows s else s
  tellOwners old false s

end Sys2Proof.Machine
end

