-- ==== Sys2Proof/Machine/ConfigLoader.lean ====
section
/-! DEFINITION. The Configuration Loader (Chapter 11): the image and its checks (R187), its application (R188), the
bootstrap results (R191), the loads from memory and from the EEPROM (R192 to R194). -/

namespace Sys2Proof.Machine

open Sys2Proof

/-! ### The image as bits (sections 11.1 and 12.6) -/

/-- The 2,048 bytes that an image can occupy. -/
abbrev ImageBits := BitVec 16384

/-- The little-endian number that the first `k` bytes of a list hold; a byte past the list reads FFh, the erased value
(log entry 10). -/
def bytesValue : List Byte → Nat → Nat
  | _, 0 => 0
  | [], k + 1 => 255 + 256 * bytesValue [] k
  | b :: rest, k + 1 => b.toNat + 256 * bytesValue rest k

/-- The image that the EEPROM's bytes hold. -/
def imageOfBytes (bytes : List Byte) : ImageBits := BitVec.ofNat 16384 (bytesValue bytes Config.imageMax)

/-- The number that lines hold, the first line lowest. -/
def linesValue : List Line → Nat
  | [] => 0
  | l :: rest => l.toNat + 2 ^ 512 * linesValue rest

/-- The image that the lines read from memory hold. -/
def imageOfLines (ls : List Line) : ImageBits := BitVec.ofNat 16384 (linesValue ls)

/-- The header fields of an image or of its first line. -/
def imageFormatOf {n : Nat} (b : BitVec n) : Nat := getField b 0 4
def imageLength {n : Nat} (b : BitVec n) : Nat := getField b 4 4

/-- R187: the header check on the length; format 1 occupies 640 bytes. -/
def lengthOk (format len : Nat) : Bool :=
  decide (len % Config.lineBytes = 0) && decide (Config.imageMin ≤ len) && decide (len ≤ Config.imageMax) &&
    (decide (format ≠ Config.imageFormat) || decide (Config.imageSize ≤ len))

/-- R187: the sum modulo 2^32 of the first `k` words of an image. -/
def imageSum (b : ImageBits) : Nat → Word32
  | 0 => 0
  | k + 1 => imageSum b k + getWord b (4 * k)

/-- An image whose fields have been read: the sections of section 11.1. -/
structure Image where
  size : DramSize
  fill : Byte
  threshold : Nat
  keys : Word32 × Word32
  classMap : Vector InitClass 16
  defaults : PerClass Rights
  views : PerClass PriceView
  period : PeriodSettings
  chainSeed : Word32
  schedule : Schedule
  guest : GuestSettings
  rounds : RoundSettings
  windows : Vector Window 16
deriving DecidableEq, Repr

/-- Section 2.2: the factory class defaults. -/
def factoryDefaults : PerClass Rights := ⟨.readWrite, .readWrite, .none, .none, .none, .none⟩

/-- R126: the factory price views. -/
def factoryViews : PerClass PriceView := ⟨.substituted, .substituted, .raw, .raw, .raw, .substituted⟩

/-- R66: the factory schedule. -/
def factorySchedule : Schedule := ⟨none, none, Config.factoryGrace, .carry⟩

/-- R152: the factory guest budget. -/
def factoryGuest : GuestSettings := ⟨.off, Config.factoryBudget, Config.factoryBudget, 0, 0⟩

/-- R133: the factory round settings. -/
def factoryRounds : RoundSettings := ⟨0xFFFF, .oneRound, .command, Config.factoryTimeout, Config.factoryAttempts⟩

/-- Section 12.6: whether byte 15 specifies a section; one left unspecified gives its factory value and is not read. -/
def section_ {α : Type} (b : ImageBits) (bit : Nat) (read : Option α) (factory : α) : Option α :=
  if (getByte b 15).getLsbD bit then read else some factory

/-- The window entries of an image, from the given indices, into a table. -/
def readWindows (b : ImageBits) : List (Fin 16) → Vector Window 16 → Option (Vector Window 16)
  | [], v => some v
  | i :: rest, v => (readWindow b (128 + 32 * i.val)).bind (fun w => readWindows b rest (vput v i w))

/-- R187, Windows: each enabled window is in range for the image's size, and together they keep the three laws. -/
def windowsOk (size : DramSize) (ws : Vector Window 16) : Bool :=
  sixteen.all (fun i => !ws[i].enabled || ws[i].inRange size) && tableLaws ws

/-- R187, Header and Check. -/
def headerOk (b : ImageBits) : Bool :=
  decide (imageFormatOf b = Config.imageFormat) && lengthOk (imageFormatOf b) (imageLength b) &&
    decide (imageSum b (imageLength b / 4) = 0)

/-- R187, Codes: the fields of an image, or none where a structural field holds an undefined code. Settings are
clamped. -/
def readImage (b : ImageBits) : Option Image := do
  let size ← DramSize.ofCode (getField b 12 1)
  let classMap ← readClassMap b 24 true
  let defaults ← section_ b 0 (readRights b 40) factoryDefaults
  let schedule ← section_ b 1 (readSchedule b 64) factorySchedule
  let guest ← section_ b 2 (readGuest b 76) factoryGuest
  let rounds ← section_ b 3 (readRounds b 84) factoryRounds
  let views ← section_ b 4 (readViews b 46) factoryViews
  let windows ← readWindows b sixteen (Vector.replicate 16 Window.disabled)
  return { size := size, fill := getByte b 13, threshold := clampThreshold (getField b 14 1)
           keys := (getWord b 16, getWord b 20), classMap := classMap, defaults := defaults, views := views
           period := clampPeriod (getField b 52 2) (getField b 54 2) (getField b 56 1) (getField b 57 1)
           chainSeed := getWord b 60, schedule := schedule, guest := guest, rounds := rounds, windows := windows }

/-- R187: a valid image, none for a bad one. -/
def parseImage (b : ImageBits) : Option Image :=
  if headerOk b then (readImage b).bind (fun i => if windowsOk i.size i.windows then some i else none) else none

/-- What a read of an image found: nothing, or an image of a format, valid or bad. -/
inductive Found where
  | absent
  | bad (format : Nat)
  | valid (image : Image) (format : Nat)
deriving DecidableEq, Repr

/-- The judgement of an image's bits (R187). -/
def judgeImage (b : ImageBits) : Found :=
  match parseImage b with
  | some i => .valid i (imageFormatOf b)
  | none => .bad (imageFormatOf b)

/-- R189 step 1: what the EEPROM read found. -/
def judgeEeprom : EepromRead → Found
  | .noAnswer => .absent
  | .answers bytes =>
    let b := imageOfBytes bytes
    if imageFormatOf b = 0xFFFFFFFF then .absent else judgeImage b

/-! ### Applying an image (R188) -/

/-- R188: whether a day is in progress. -/
def dayInProgress (s : State) : Bool :=
  decide (s.day.phase ≠ .noDay) || decide (s.journal.bankA.state ≠ .idle) || decide (s.journal.bankB.state ≠ .idle)

/-- R188: whether an image fails the conflict test. -/
def conflicts (i : Image) (s : State) : Bool :=
  dayInProgress s &&
    (decide (rolePlace i.windows .journalA ≠ s.retained.recordA) ||
      decide (rolePlace i.windows .journalB ≠ s.retained.recordB))

/-- R66, R165: the period and guest settings are staged by a load, and in force at once at start-up. -/
def applyTimed (i : Image) (atStart : Bool) (s : State) : State :=
  if atStart then
    (s.setTime { s.time with inForce := i.period, staged := none, schedule := i.schedule }).setGuest
      { s.guest with inForce := i.guest, staged := none }
  else
    (s.setTime { s.time with staged := some i.period, schedule := i.schedule }).setGuest
      { s.guest with staged := some i.guest }

/-- R30: an image from the EEPROM sets the lock to LOCKED and the bad-key count to 0. -/
def applyLock (fromEeprom : Bool) (g : GuardState) : GuardState :=
  if fromEeprom then { g with lock := .locked, badKeys := 0 } else g

/-- R188: an image that passed the conflict test is applied in one change. -/
def applyImage (i : Image) (atStart fromEeprom : Bool) (s : State) : State :=
  let old := s.guard.windows
  let s := s.setGuard (applyLock fromEeprom { s.guard with
    windows := i.windows, classMap := i.classMap, defaults := i.defaults, keys := some i.keys })
  let s := s.setMem { s.mem with size := i.size, fill := i.fill }
  let s := s.setJournal { s.journal with chainSeed := i.chainSeed }
  let s := recordWindows (applyBankWindow (applyBankWindow s .a) .b)
  let s := applyTimed i atStart s
  let s := s.setLabel { s.label with settings := i.rounds }
  let s := s.setReports { s.reports with threshold := i.threshold }
  let s := s.setPrice { s.price with views := i.views }
  let s := evalIrq (tellOwners old true s)
  s.setLoader { s.loader with running := true }

/-! ### Bootstrap results (R191) -/

/-- R191: a result arises: the result count gains one, and it becomes the pending result. -/
def postResult (o : LoadOrigin) (status : BootStatus) (refusal : Option RefusalCode)
    (outcome : Option (ConfigResult × Nat)) (s : State) : State :=
  let n := (s.loader.resultCount + 1) % 65536
  s.setLoader { s.loader with
    resultCount := n
    result := some { code := o.code, cookie := o.cookie, count := n, status := status, refusal := refusal, outcome := outcome } }

/-- The requests whose line at its turn waits to be taken as a bootstrap command. -/
def bootstrapWaiters (s : State) : List (Fin 64) :=
  (s.link.requests.map (fun r => r.txn)).filter (fun t =>
    match turnLine t s with
    | some (_, _, _, .bootstrap) => true
    | _ => false)

/-- The load of an image from the bootstrap page ends (R192). Once the part is RUNNING, a line that waited to be taken
as a bootstrap command takes effect as plain data (R191, log entry 8). The format number that the result line carries with
ABSENT is 0, and with a first read out of range that of the fill bytes received: DESIGN CHOICE, log entry 28. -/
def endBootstrap (o : LoadOrigin) (fromEeprom : Bool) (f : Found) (s : State) : State :=
  let s := s.setLoader { s.loader with load := .idle }
  match f with
  | .absent => postResult o .refused (some .configBad) (some (.absent, 0)) s
  | .bad format => postResult o .refused (some .configBad) (some (.bad, format)) s
  | .valid i format =>
    if conflicts i s then postResult o .refused (some .configConflict) (some (.valid, format)) s
    else
      let waiters := bootstrapWaiters s
      let s := arise (.start .valid format) (applyImage i false fromEeprom s)
      waiters.foldl (fun s t => runRequest t s) (postResult o .done none (some (.valid, format)) s)

/-! ### Reload of a running part (R193) -/

/-- R193 step 2: whether the state does not admit a reload. -/
def reloadBarred (s : State) : Bool :=
  decide (s.day.phase = .closing) || decide (s.day.phase = .switching) || decide (s.label.round ≠ .idle) ||
    [Bank.a, Bank.b].any (fun bk => decide (s.day.openBank ≠ some bk) && decide ((getBank s.journal bk).state ≠ .idle))

/-- R193: the price test: whether applying an image would set, move or disable the PRICE window in use. -/
def failsPriceTest (i : Image) (s : State) : Bool :=
  roleMoved s.guard.windows i.windows .price && roleInUse s .price

/-- R193: the load from the EEPROM of a running part ends. -/
def endReload (f : Found) (s : State) : State :=
  let s := s.setLoader { s.loader with load := .idle }
  match f with
  | .absent => arise (.start .absent 0) s
  | .bad format => arise (.start .bad format) s
  | .valid i format =>
    if reloadBarred s || conflicts i s || failsPriceTest i s then arise (.start .bad format) s
    else arise (.start .valid format) (applyImage i false true s)

/-- EEPROM_READ_COMPLETE (R192, R193): the EEPROM read of a load ends. -/
def execEepromReadComplete (e : EepromRead) (s : State) : Host.Outcome State Fault Refusal :=
  match s.loader.load with
  | .readingEeprom o => .next (if o.bootstrap then endBootstrap o true (judgeEeprom e) s else endReload (judgeEeprom e) s)
  | _ => .next s

/-! ### The load from memory (R192) -/

/-- R192: the next line of the image is read, unless a pending result has first use of the slot (R191). -/
def readNext (s : State) : State :=
  match s.loader.load with
  | .readingMemory _ next _ _ =>
    if s.loader.result = none ∧ s.loader.access = .idle ∧ s.mem.slots.configLoader = .empty then
      issueAccess .configLoader (readAccess next) (s.setLoader { s.loader with access := .imageRead })
    else s
  | _ => s

/-- R192: one line of the image has been read. -/
def imageLine (o : LoadOrigin) (next : Nat) (lines : List Line) (expected : Option Nat) (l : Line) (s : State) : State :=
  let lines := lines ++ [l]
  let first := lines.headD 0
  let expected := expected.getD (imageLength first)
  if lengthOk (imageFormatOf first) expected = false then endBootstrap o false (.bad (imageFormatOf first)) s
  else if expected ≤ lines.length * Config.lineBytes then endBootstrap o false (judgeImage (imageOfLines lines)) s
  else readNext (s.setLoader { s.loader with load := .readingMemory o (next + Config.lineBytes) lines (some expected) })

/-- The granted image read completes (R192); a read that its grant found out of range (`beyond`, R14) makes the image
bad. The format number of a first read out of range is that of the fill bytes: DESIGN CHOICE, log entry 28. -/
def completeImageRead (beyond : Bool) (s : State) : State :=
  match grantedAccess s.mem .configLoader, s.loader.access, s.loader.load with
  | some a, .imageRead, .readingMemory o next lines expected =>
    let l := accessData beyond s.mem a
    let s := releaseSlot .configLoader s
    let s := s.setLoader { s.loader with access := .idle }
    if beyond then endBootstrap o false (.bad (imageFormatOf (lines.headD l))) s else imageLine o next lines expected l s
  | _, _, _ => s

/-- IMAGE_READ_COMPLETE (R192). -/
def execImageReadComplete (s : State) : Host.Outcome State Fault Refusal := .next (completeImageRead false s)

/-- RESULT_LINE_ISSUE (R191): the pending result is issued to the result line. -/
def execResultLineIssue (s : State) : Host.Outcome State Fault Refusal :=
  match s.loader.result with
  | some r =>
    if s.loader.access = .idle ∧ s.mem.slots.configLoader = .empty then
      .next (issueAccess .configLoader
        { kind := .write, addr := Config.resultLine, mask := fullMask, data := resultLine r }
        (s.setLoader { s.loader with result := none, access := .resultWrite }))
    else .next s
  | none => .next s

/-- The granted result line write completes (R191); `beyond` as its grant found it (R14). -/
def completeResultLine (beyond : Bool) (s : State) : State :=
  match grantedAccess s.mem .configLoader, s.loader.access with
  | some a, .resultWrite =>
    let s := releaseSlot .configLoader (storeAccess beyond a s)
    readNext (s.setLoader { s.loader with access := .idle })
  | _, _ => s

/-- RESULT_LINE_WRITTEN (R191). -/
def execResultLineWritten (s : State) : Host.Outcome State Fault Refusal := .next (completeResultLine false s)

/-! ### Bootstrap commands (R191, R192) -/

/-- R192: a bootstrap LOAD_CONFIG or RELOAD_CONFIG is judged; an accepted one begins its load. -/
def judgeLoad (o : LoadOrigin) (load : Load) (badArg : Bool) (s : State) : State :=
  if s.loader.load ≠ .idle then postResult o .refused (some .busy) none s
  else if badArg then postResult o .refused (some .badArg) none s
  else
    let s := postResult o .accepted none none s
    s.setLoader { s.loader with load := load }

/-- R192: the address of the line that contains a bus address. -/
def lineOf (addr : Nat) : Nat := addr / Config.lineBytes * Config.lineBytes

/-- The origin of a load begun by a control record. -/
def originOf (bootstrap : Bool) (l : Line) : LoadOrigin :=
  { bootstrap := bootstrap, code := recordCode l, cookie := recordCookie l }

end Sys2Proof.Machine
end

