-- ==== Sys2Proof/Machine/JournalEngine.lean ====
section
/-! DEFINITION. The Journal Engine (Chapter 5): judging and taking an initiator entry (R70 to R76, R84 to R87), its
commit (R91, R92), and the entries the part writes (R88, R89). -/

namespace Sys2Proof.Machine

open Sys2Proof

/-! ### Judging an initiator entry (R70, R72) -/

/-- The length of a bank, the lines of its window (R68). -/
def bankLength (s : State) (bk : Bank) : Nat :=
  match roleWindow s.guard.windows bk.role with
  | some w => w.nLines
  | none => 0

/-- R70: the bank of the order in hand, if any. -/
def PartWrite.bank : PartWrite → Option Bank
  | .idle => none
  | .draining o => some o.bank
  | .writing o _ => some o.bank

/-- R70, R168: whether a bank can take initiator entries at all. While its DAY_OPEN waits to be written an OPEN bank has
its cursor at 0 and takes none. -/
def bankAdmits (s : State) (bk : Bank) : Bool :=
  let r := getBank s.journal bk
  decide (s.day.phase ≠ .switching) && decide (s.journal.partWrite.bank ≠ some bk) &&
    ((decide (r.state = .open) && decide (r.cursor ≠ 0)) || decide (r.state = .closing))

/-- R70, R72: the first check that an initiator entry fails, none when it is accepted. -/
def entryFailure (s : State) (bk : Bank) (index : Nat) (mask : Mask) (e : EntryFields) : Option Cause :=
  let r := getBank s.journal bk
  if bankAdmits s bk = false then some .switching
  else if index ≠ r.cursor then some .appendOrder
  else if mask ≠ fullMask then some .format
  else if 32 ≤ e.till ∨ e.kind = .part then some .format
  else if bankLength s bk < r.cursor + Config.reservedLines + 1 then some .bankFull
  else if r.state = .closing ∧ e.kind = .txnOpen then some .closing
  else none

/-- R74: the first BANK_FULL refusal in a bank sets its marker and makes one report. -/
def markFull (bk : Bank) (s : State) : State :=
  let r := getBank s.journal bk
  if r.fullMarker then s
  else arise (.bankFull bk r.dayNumber r.cursor) (setBank bk { r with fullMarker := true } s)

/-- R72, R74: an initiator entry is refused. The BANK_FULL report comes before what the recording of the refusal makes
(DESIGN CHOICE, log entry 7). -/
def refuseEntry (t : Fin 64) (k : Nat) (bk : Bank) (cause : Cause) (s : State) : State :=
  recordRefusal t k cause (if cause = .bankFull then markFull bk s else s)

/-! ### Taking an initiator entry (R75) -/

/-- R75, R92: an entry of a till is accepted in a bank at its cursor. The answer holds the filled line and the copies of
what the entry changed. -/
def acceptEntry (bk : Bank) (till : Fin 32) (l : Line) (e : EntryFields) (s : State) : Line × EntryCommit × State :=
  let r := getBank s.journal bk
  let h := handleEntry s.price.table e till s.journal.contexts[till] r.totals
  let filled := fillEntry l h r.cursor r.running
  let chain := getWord filled 56
  let r' := { r with
    cursor := r.cursor + 1, lastIndex := some r.cursor, running := chain, inFlight := r.inFlight + 1, totals := h.totals }
  (filled,
   { bank := bk, cursor := r.cursor + 1, lastIndex := some r.cursor, running := chain, totals := h.totals, till := till
     context := h.context, index := r.cursor, seq := e.seq, kind := e.kindCode, flags := h.flags },
   setBank bk r' (setContext till h.context s))

/-- R8, R75: the accepted line passes with its filled data and carries its copies to its commit; the lines after it take
effect. The end test follows an entry accepted into the closing bank (R173). -/
def passEntry (t : Fin 64) (k : Nat) (filled : Line) (c : EntryCommit) (s : State) : State :=
  let s := if (getBank s.journal c.bank).state = .closing then endTest s else s
  let s := updateLine t k (fun l => { l with data := filled }) s
  runRequest t (handLine t k (some c) false s)

/-- JOURNAL_ENTRY (R70, R72, R75). -/
def execJournalEntry (t : Fin 64) (s : State) : Host.Outcome State Fault Refusal :=
  match turnLine t s with
  | some (_, k, l, .journal bk) =>
    match l.verdict with
    | some (.pass _ _ _ index) =>
      let s := activate t s
      let e := readEntry l.data
      match entryFailure s bk index l.mask e, index32 e.till with
      | none, some till =>
        let (filled, c, s) := acceptEntry bk till l.data e s
        .next (passEntry t k filled c s)
      | some cause, _ => .next (runRequest t (refuseEntry t k bk cause s))
      | none, none => .next s
    | _ => .next s
  | _ => .next s

/-! ### Commit (R91, R92) -/

/-- R91: the report of a committed entry that carries a warning flag. -/
def reportFlagged (bk : Bank) (index till seq kind : Nat) (flags : Word32) (s : State) : State :=
  if hasWarning flags then arise (.entryFlagged bk index till seq kind flags) s else s

/-- R92: an accepted entry's write has completed: its copies go into the retained store, the in-flight count falls, and
its flags are reported. -/
def commitEntry (c : EntryCommit) (s : State) : State :=
  let s := setRetained c.bank { cursor := c.cursor, lastIndex := c.lastIndex, running := c.running, totals := c.totals } s
  let s := s.setRetained { s.retained with contexts := vput s.retained.contexts c.till c.context }
  let r := getBank s.journal c.bank
  let s := setBank c.bank { r with inFlight := r.inFlight - 1 } s
  reportFlagged c.bank c.index c.till.val c.seq c.kind c.flags s

/-! ### Entries the part writes (R88, R89) -/

/-- PART_WRITE_ISSUE (R88): with the bank drained and the slot EMPTY, the entry is formed and issued. -/
def execPartWriteIssue (s : State) : Host.Outcome State Fault Refusal :=
  match s.journal.partWrite with
  | .draining o =>
    match roleWindow s.guard.windows o.bank.role with
    | some w =>
      if (getBank s.journal o.bank).inFlight = 0 ∧ s.mem.slots.journalEngine = .empty then
        let entry := partLine s.journal o
        .next (issueAccess .journalEngine
          { kind := .write, addr := w.lineAddr (getBank s.journal o.bank).cursor, mask := fullMask, data := entry }
          (s.setJournal { s.journal with partWrite := .writing o entry }))
      else .next s
    | none => .next s
  | _ => .next s

/-- R89, R106, R108: what the commit of a part-written entry does to its bank's day totals. That a TXN_RESUME with OVERFLOW
adds to the flagged-entry count, as R106 says of every part-written entry, where R108 lets a TXN_RESUME change the store
entry count alone, is a DESIGN CHOICE (log entry 27). -/
def partTotals (o : PartOrder) (flags : Word32) (d : DayTotals) : DayTotals :=
  let d := { d with store := { d.store with
    entries := if o.kind = .dayOpen then 1 else countAdd d.store.entries 1
    flagged := if hasWarning flags then countAdd d.store.flagged 1 else d.store.flagged } }
  if o.kind = .txnSuspend then d.onTill o.till (fun x => { x with suspended := countAdd x.suspended 1 }) else d

/-- R88, R92: the part-written entry commits in the working state and in the retained store. -/
def commitPart (o : PartOrder) (entry : Line) (s : State) : State :=
  let r := getBank s.journal o.bank
  let flags := getWord entry 32
  let s := setBank o.bank { r with
    lastIndex := some r.cursor, cursor := r.cursor + 1, running := getWord entry 56
    totals := partTotals o flags r.totals } s
  let s := retainBank o.bank (s.setJournal { s.journal with partWrite := .idle })
  orderCommitted o (reportFlagged o.bank r.cursor (getField entry 1 1) 0 o.kind.code flags s)

/-- The granted part write completes (R88); `beyond` as its grant found it (R14). -/
def completePartWrite (beyond : Bool) (s : State) : State :=
  match grantedAccess s.mem .journalEngine, s.journal.partWrite with
  | some a, .writing o entry => commitPart o entry (releaseSlot .journalEngine (storeAccess beyond a s))
  | _, _ => s

/-- PART_WRITE_COMMIT (R88). -/
def execPartWriteCommit (s : State) : Host.Outcome State Fault Refusal := .next (completePartWrite false s)

end Sys2Proof.Machine
end

