-- ==== Sys2Proof/Machine/Control.lean ====
section
/-! DEFINITION. The Control Decoder (section 3.1): taking a control record (R40 to R44), the edit lock's judgement (R32),
the reply (R41, R42), and the meaning of each command. A command's owner is a function from the record's line and the
state to the state after it and the refusal it answers, none when it is carried out. -/

namespace Sys2Proof.Machine

open Sys2Proof

/-- What an owner makes of a command: the state after it, and the refusal code or none. -/
abbrev Owner := Line → State → State × Option RefusalCode

/-! ### Taking and answering (R41, R42, R44) -/

/-- R41: a command carried out is answered CMD_DONE. -/
def replyDone (l : Line) (s : State) : State := arise (.cmdDone (recordCode l) (recordCookie l)) s

/-- R41, R44: a refused command is counted and answered CMD_REFUSED. -/
def replyRefused (l : Line) (c : RefusalCode) (s : State) : State :=
  arise (.cmdRefused (recordCode l) (recordCookie l) c)
    (s.setDecoder { s.decoder with refused := (s.decoder.refused + 1) % 4294967296 })

/-- R32: the lock after any control record is taken. -/
def LockState.relock : LockState → LockState
  | .open => .locked
  | x => x

/-- R32, R44: a control record is taken: it is counted, and an OPEN lock returns to LOCKED. -/
def countTaken (s : State) : State :=
  (s.setDecoder { s.decoder with taken := (s.decoder.taken + 1) % 4294967296 }).setGuard
    { s.guard with lock := s.guard.lock.relock }

/-- R32: the refusal of a protected command by the lock as it stood when the record was taken. -/
def lockRefusal (lock : LockState) (code : Nat) : Option RefusalCode :=
  if codeProtected code then
    match lock with
    | .open => none
    | .locked => some .locked
    | .barred => some .barred
  else none

/-- R41, R42: a control record is taken, judged by the lock, carried out by its owner and answered. -/
def runCommand (owner : Owner) (l : Line) (s : State) : State :=
  let lock := s.guard.lock
  let s := countTaken s
  match lockRefusal lock (recordCode l) with
  | some c => replyRefused l c s
  | none =>
    match owner l s with
    | (s, none) => replyDone l s
    | (s, some c) => replyRefused l c s

/-- R191: a bootstrap command other than the two loads is refused. -/
def refuseBoot (c : RefusalCode) (l : Line) (s : State) : State := postResult (originOf true l) .refused (some c) none s

/-- R8, R40, R191: the control record at its turn of a request, where its code satisfies a test, is taken by `control` in
the control window and by `boot` on the bootstrap page, and its line passes. -/
def takeRecord (t : Fin 64) (test : Nat → Bool) (control boot : Line → State → State) (s : State) : State :=
  match turnLine t s with
  | some (_, k, l, .control) => if test (recordCode l.data) then passTurn t k (control l.data (activate t s)) else s
  | some (_, k, l, .bootstrap) => if test (recordCode l.data) then passTurn t k (boot l.data (activate t s)) else s
  | _ => s

/-- A command of the control window, which the bootstrap page refuses with WRONG_STATE (R191). -/
def takeCommand (t : Fin 64) (code : Nat) (owner : Owner) (s : State) : State :=
  takeRecord t (fun c => c == code) (runCommand owner) (refuseBoot .wrongState) s

/-! ### Report Writer -/

/-- R52. -/
def ownAckReports : Owner := fun l s =>
  let i := getField l 4 2
  let cap := reportCapacity s
  if cap = 0 then (s, some .wrongState)
  else if i < cap ∧ unconsumed i s.reports.consumer cap ≤ unconsumed s.reports.producer s.reports.consumer cap then
    (evalIrq (s.setReports { s.reports with consumer := i }), none)
  else (s, some .badArg)

/-- ACK_REPORTS (R52). -/
def execAckReports (t : Fin 64) (s : State) : Host.Outcome State Fault Refusal :=
  .next (takeCommand t 0x0001 ownAckReports s)

/-- R54. -/
def ownSetIrqThreshold : Owner := fun l s =>
  (evalIrq (s.setReports { s.reports with threshold := clampThreshold (getField l 4 1) }), none)

/-- SET_IRQ_THRESHOLD (R54). -/
def execSetIrqThreshold (t : Fin 64) (s : State) : Host.Outcome State Fault Refusal :=
  .next (takeCommand t 0x0002 ownSetIrqThreshold s)

/-- R45: the values of a STATUS report as they stand. -/
def statusInfo (s : State) : StatusInfo :=
  { lock := s.guard.lock, badKeys := s.guard.badKeys, logCount := s.guard.log.length, size := s.mem.size
    dayPhase := s.day.phase
    stateA := s.journal.bankA.state, dayA := s.journal.bankA.dayNumber
    stateB := s.journal.bankB.state, dayB := s.journal.bankB.dayNumber
    clock := s.time.clock, seconds := s.time.seconds
    period := s.time.inForce.p, e := s.time.inForce.e, n := s.time.inForce.n
    watchCount := s.price.table.length, captureCount := s.price.queue.length
    round := s.label.round, roundNumber := s.label.number
    guestMode := s.guest.inForce.mode, latch := s.guest.latch, usage := s.guest.usage
    deferralCount := s.guest.queue.length
    producer := s.reports.producer, consumer := s.reports.consumer, phase := s.reports.phase
    capacity := reportCapacity s
    pendingCount := s.reports.pending.length, overflow := s.reports.overflow, threshold := s.reports.threshold
    taken := s.decoder.taken, refused := s.decoder.refused }

/-- R45. -/
def ownQueryStatus : Owner := fun _ s => (arise (.status (statusInfo s)) s, none)

/-- QUERY_STATUS (R45). -/
def execQueryStatus (t : Fin 64) (s : State) : Host.Outcome State Fault Refusal :=
  .next (takeCommand t 0x0003 ownQueryStatus s)

/-! ### Window Guard -/

/-- R31: the lock and bad-key count after a wrong UNLOCK. -/
def badKey (g : GuardState) : GuardState :=
  { g with badKeys := g.badKeys + 1, lock := if Config.badKeyLimit ≤ g.badKeys + 1 then .barred else g.lock }

/-- R31: UNLOCK is judged from the state that R32 left; while UNCONFIGURED there is no key pair to equal. -/
def ownUnlock : Owner := fun l s =>
  if s.guard.lock = .barred then (s, some .barred)
  else if s.guard.keys = some (getWord l 4, getWord l 8) then
    (s.setGuard { s.guard with lock := .open, badKeys := 0 }, none)
  else (s.setGuard (badKey s.guard), some .badKey)

/-- UNLOCK (R31). -/
def execUnlock (t : Fin 64) (s : State) : Host.Outcome State Fault Refusal :=
  .next (takeCommand t 0x0010 ownUnlock s)

/-- R34 to R37. -/
def ownSetWindow : Owner := fun l s =>
  match index16 (getField l 4 1), readWindow l 8 with
  | some i, some w =>
    match windowRefusal s i w with
    | some c => (s, some c)
    | none => (placeWindow i w s, none)
  | _, _ => (s, some .badArg)

/-- SET_WINDOW (R34). -/
def execSetWindow (t : Fin 64) (s : State) : Host.Outcome State Fault Refusal :=
  .next (takeCommand t 0x0011 ownSetWindow s)

/-- R38. -/
def ownSetClassMap : Owner := fun l s =>
  match readClassMap l 4 false with
  | some m => (s.setGuard { s.guard with classMap := m }, none)
  | none => (s, some .badArg)

/-- SET_CLASS_MAP (R38). -/
def execSetClassMap (t : Fin 64) (s : State) : Host.Outcome State Fault Refusal :=
  .next (takeCommand t 0x0012 ownSetClassMap s)

/-- R39. -/
def ownSetClassDefaults : Owner := fun l s =>
  match readRights l 4 with
  | some r => (s.setGuard { s.guard with defaults := r }, none)
  | none => (s, some .badArg)

/-- SET_CLASS_DEFAULTS (R39). -/
def execSetClassDefaults (t : Fin 64) (s : State) : Host.Outcome State Fault Refusal :=
  .next (takeCommand t 0x0013 ownSetClassDefaults s)

/-- R28. -/
def ownDumpGuardLog : Owner := fun _ s => (s.guard.log.foldl (fun s e => arise (.guard e true) s) s, none)

/-- DUMP_GUARD_LOG (R28). -/
def execDumpGuardLog (t : Fin 64) (s : State) : Host.Outcome State Fault Refusal :=
  .next (takeCommand t 0x0014 ownDumpGuardLog s)

/-- R29. -/
def ownClearGuardLog : Owner := fun _ s => (s.setGuard { s.guard with log := [] }, none)

/-- CLEAR_GUARD_LOG (R29). -/
def execClearGuardLog (t : Fin 64) (s : State) : Host.Outcome State Fault Refusal :=
  .next (takeCommand t 0x0015 ownClearGuardLog s)

/-! ### Time Base -/

/-- R60. -/
def ownSetTimebase : Owner := fun l s =>
  (s.setTime { s.time with
    staged := some (clampPeriod (getField l 4 2) (getField l 6 2) (getField l 8 1) (getField l 9 1)) }, none)

/-- SET_TIMEBASE (R60). -/
def execSetTimebase (t : Fin 64) (s : State) : Host.Outcome State Fault Refusal :=
  .next (takeCommand t 0x0020 ownSetTimebase s)

/-- R62. -/
def ownSetClock : Owner := fun l s =>
  (s.setTime { s.time with seconds := min (getField l 4 4) (Config.daySeconds - 1), millis := 0, clock := .set }, none)

/-- SET_CLOCK (R62). -/
def execSetClock (t : Fin 64) (s : State) : Host.Outcome State Fault Refusal :=
  .next (takeCommand t 0x0021 ownSetClock s)

/-- R63. -/
def ownSetSchedule : Owner := fun l s =>
  match readSchedule l 4 with
  | some x => (s.setTime { s.time with schedule := x }, none)
  | none => (s, some .badArg)

/-- SET_SCHEDULE (R63). -/
def execSetSchedule (t : Fin 64) (s : State) : Host.Outcome State Fault Refusal :=
  .next (takeCommand t 0x0022 ownSetSchedule s)

/-! ### Journal Engine -/

/-- R110: the scope code of the store is FFh. -/
def ownQueryTotals : Owner := fun l s =>
  match Bank.ofCode (getField l 4 1) with
  | none => (s, some .badArg)
  | some bk =>
    let d := (getBank s.journal bk).totals
    if getField l 5 1 = 255 then (arise (.totalsStore bk d.store) s, none)
    else
      match index32 (getField l 5 1) with
      | some till => (arise (.totalsTill bk till d.tills[till]) s, none)
      | none => (s, some .badArg)

/-- QUERY_TOTALS (R110). -/
def execQueryTotals (t : Fin 64) (s : State) : Host.Outcome State Fault Refusal :=
  .next (takeCommand t 0x0030 ownQueryTotals s)

/-! ### Price Watch -/

/-- R126. -/
def ownSetPriceView : Owner := fun l s =>
  match InitClass.ofCode (getField l 4 1), PriceView.ofCode (getField l 5 1) with
  | some c, some v => (s.setPrice { s.price with views := s.price.views.put c v }, none)
  | _, _ => (s, some .badArg)

/-- SET_PRICE_VIEW (R126). -/
def execSetPriceView (t : Fin 64) (s : State) : Host.Outcome State Fault Refusal :=
  .next (takeCommand t 0x0040 ownSetPriceView s)

/-- R128. R42 puts the Price Watch's PRICE_EFFECTIVE before the reply. That the ZONE_DONE and ROUND_DONE of a visit which
the removal ends come before the reply too is a DESIGN CHOICE (log entry 26). -/
def ownForceEffective : Owner := fun l s =>
  match findEntry s (getField l 4 4) with
  | none => (s, some .notFound)
  | some e =>
    if e.exit = .none then (removeEntry e.item (.priceEffective e.item e.oldPrice e.newPrice true) s, none)
    else (s, some .wrongState)

/-- FORCE_EFFECTIVE (R128). -/
def execForceEffective (t : Fin 64) (s : State) : Host.Outcome State Fault Refusal :=
  .next (takeCommand t 0x0041 ownForceEffective s)

/-- R129: an accepted withdrawal joins the end of withdrawal order. -/
def beginWithdrawal (item : Nat) (s : State) : State :=
  let s := updateEntry item (fun e => { e with exit := .withdraw }) s
  s.setPrice { s.price with withdrawals := s.price.withdrawals ++ [item] }

/-- R129. -/
def ownWithdrawPrice : Owner := fun l s =>
  match findEntry s (getField l 4 4) with
  | none => (s, some .notFound)
  | some e =>
    match e.exit with
    | .none => (beginWithdrawal e.item s, none)
    | .withdraw => (s, some .busy)
    | .afterWrite _ => (s, some .wrongState)

/-- WITHDRAW_PRICE (R129). -/
def execWithdrawPrice (t : Fin 64) (s : State) : Host.Outcome State Fault Refusal :=
  .next (takeCommand t 0x0042 ownWithdrawPrice s)

/-- R131: the entry of an item with its position in table order, from position `k` on. -/
def entryAt (item k : Nat) : List WatchEntry → Option (WatchEntry × Nat)
  | [] => none
  | e :: rest => if e.item = item then some (e, k) else entryAt item (k + 1) rest

/-- R131. -/
def ownQueryWatch : Owner := fun l s =>
  (arise (.watch (getField l 4 4) (entryAt (getField l 4 4) 0 s.price.table)) s, none)

/-- QUERY_WATCH (R131). -/
def execQueryWatch (t : Fin 64) (s : State) : Host.Outcome State Fault Refusal :=
  .next (takeCommand t 0x0043 ownQueryWatch s)

/-! ### Label Sequencer -/

/-- R134. -/
def ownSetRounds : Owner := fun l s =>
  if s.label.round ≠ .idle then (s, some .busy)
  else
    match readRounds l 4 with
    | some r => (s.setLabel { s.label with settings := r }, none)
    | none => (s, some .badArg)

/-- SET_ROUNDS (R134). -/
def execSetRounds (t : Fin 64) (s : State) : Host.Outcome State Fault Refusal :=
  .next (takeCommand t 0x0050 ownSetRounds s)

/-- R136. -/
def ownStartRound : Owner := fun _ s =>
  if s.label.settings.trigger = .timebase then (s, some .wrongState)
  else if s.label.round ≠ .idle then (s, some .busy)
  else if (roleWindow s.guard.windows .labelQueue).isNone then (s, some .notFound)
  else (startRound s, none)

/-- START_ROUND (R136). -/
def execStartRound (t : Fin 64) (s : State) : Host.Outcome State Fault Refusal :=
  .next (takeCommand t 0x0051 ownStartRound s)

/-- R140. -/
def ownStopRound : Owner := fun _ s =>
  match s.label.round, s.label.zone with
  | .running, some _ => (s.setLabel { s.label with round := .stopping }, none)
  | .running, none => (s.setLabel { s.label with round := .idle }, none)
  | _, _ => (s, none)

/-- STOP_ROUND (R140). -/
def execStopRound (t : Fin 64) (s : State) : Host.Outcome State Fault Refusal :=
  .next (takeCommand t 0x0052 ownStopRound s)

/-! ### Guest Budget -/

/-- R153. -/
def ownSetGuestBudget : Owner := fun l s =>
  match readGuest l 4 with
  | some g => (s.setGuest { s.guest with staged := some g }, none)
  | none => (s, some .badArg)

/-- SET_GUEST_BUDGET (R153). -/
def execSetGuestBudget (t : Fin 64) (s : State) : Host.Outcome State Fault Refusal :=
  .next (takeCommand t 0x0060 ownSetGuestBudget s)

/-- R163. -/
def ownClearGuestLatch : Owner := fun _ s =>
  if s.guest.latch = none then (s, none)
  else (arise (.guestCleared s.guest.usage) (s.setGuest { s.guest with latch := none }), none)

/-- CLEAR_GUEST_LATCH (R163). -/
def execClearGuestLatch (t : Fin 64) (s : State) : Host.Outcome State Fault Refusal :=
  .next (takeCommand t 0x0061 ownClearGuestLatch s)

/-! ### Day Controller -/

/-- R168: the seed of a bank opened by OPEN_DAY (R69). -/
def openSeed (j : JournalState) : Word32 := j.carried.getD j.chainSeed

/-- R168. -/
def ownOpenDay : Owner := fun l s =>
  match Bank.ofCode (getField l 4 1) with
  | none => (s, some .badArg)
  | some bk =>
    if s.day.phase ≠ .noDay then (s, some .wrongState)
    else if s.journal.bankA.state ≠ .idle ∨ s.journal.bankB.state ≠ .idle then (s, some .wrongState)
    else if hasJournalWindow s .a = false ∨ hasJournalWindow s .b = false then (s, some .notFound)
    else
      let s := openBank bk (openSeed s.journal) (getField l 6 2) s
      (s.setDay { s.day with phase := .dayOpen }, none)

/-- OPEN_DAY (R168). -/
def execOpenDay (t : Fin 64) (s : State) : Host.Outcome State Fault Refusal :=
  .next (takeCommand t 0x0070 ownOpenDay s)

/-- R170: in DAY_OPEN a close of the open bank passes its three tests or is refused. -/
def closeOpenBank (grace : Nat) (mode : CarryMode) (s : State) : State × Option RefusalCode :=
  match s.day.openBank with
  | none => (s, some .wrongState)
  | some bk =>
    match closeFailure s bk with
    | some c => (s, some c)
    | none => (acceptClose bk grace mode false s, none)

/-- R170. -/
def ownCloseDay : Owner := fun l s =>
  match CarryMode.ofCode (getField l 6 1) with
  | none => (s, some .badArg)
  | some mode =>
    match s.day.phase with
    | .noDay => (s, some .wrongState)
    | .closing => (s, some .busy)
    | .switching => (s, some .busy)
    | .dayOpen => closeOpenBank (min (getField l 4 2) Config.maxGrace) mode s

/-- CLOSE_DAY (R170). -/
def execCloseDay (t : Fin 64) (s : State) : Host.Outcome State Fault Refusal :=
  .next (takeCommand t 0x0071 ownCloseDay s)

/-- R172. -/
def ownCloseNow : Owner := fun _ s =>
  if s.day.phase = .closing then (endTest (s.setDay { s.day with grace := 0 }), none) else (s, some .wrongState)

/-- CLOSE_NOW (R172). -/
def execCloseNow (t : Fin 64) (s : State) : Host.Outcome State Fault Refusal :=
  .next (takeCommand t 0x0072 ownCloseNow s)

/-- R178. -/
def ownExportBegin : Owner := fun l s =>
  match Bank.ofCode (getField l 4 1) with
  | none => (s, some .badArg)
  | some bk =>
    if (getBank s.journal bk).state ≠ .closed then (s, some .wrongState)
    else
      match roleWindow s.guard.windows bk.role with
      | none => (s, some .notFound)
      | some w => (beginExport bk w s, none)

/-- EXPORT_BEGIN (R178). -/
def execExportBegin (t : Fin 64) (s : State) : Host.Outcome State Fault Refusal :=
  .next (takeCommand t 0x0073 ownExportBegin s)

/-- R182. -/
def ownExportComplete : Owner := fun l s =>
  match Bank.ofCode (getField l 4 1) with
  | none => (s, some .badArg)
  | some bk =>
    match (getBank s.journal bk).state with
    | .verified => (completeExport bk s, none)
    | .exporting => (s, some .notVerified)
    | _ => (s, some .wrongState)

/-- EXPORT_COMPLETE (R182). -/
def execExportComplete (t : Fin 64) (s : State) : Host.Outcome State Fault Refusal :=
  .next (takeCommand t 0x0074 ownExportComplete s)

/-- R183. -/
def ownExportAbort : Owner := fun l s =>
  match Bank.ofCode (getField l 4 1) with
  | none => (s, some .badArg)
  | some bk =>
    match (getBank s.journal bk).state with
    | .verified => (endExport bk .closed s, none)
    | .exporting => (endExport bk .closed s, none)
    | _ => (s, some .wrongState)

/-- EXPORT_ABORT (R183). -/
def execExportAbort (t : Fin 64) (s : State) : Host.Outcome State Fault Refusal :=
  .next (takeCommand t 0x0075 ownExportAbort s)

/-! ### Configuration Loader -/

/-- R193: RELOAD_CONFIG from the control window. -/
def ownReloadConfig : Owner := fun l s =>
  if s.loader.load ≠ .idle then (s, some .busy)
  else if reloadBarred s then (s, some .wrongState)
  else (s.setLoader { s.loader with load := .readingEeprom (originOf false l) }, none)

/-- R192: RELOAD_CONFIG from the bootstrap page. -/
def bootReload (l : Line) (s : State) : State := judgeLoad (originOf true l) (.readingEeprom (originOf true l)) false s

/-- RELOAD_CONFIG (R193; R192 from the bootstrap page). -/
def execReloadConfig (t : Fin 64) (s : State) : Host.Outcome State Fault Refusal :=
  .next (takeRecord t (fun c => c == 0x0080) (runCommand ownReloadConfig) bootReload s)

/-- R41: LOAD_CONFIG is a bootstrap-page command and is refused in the control window. -/
def ownLoadConfig : Owner := fun _ s => (s, some .wrongState)

/-- R192: LOAD_CONFIG from the bootstrap page. -/
def bootLoad (l : Line) (s : State) : State :=
  judgeLoad (originOf true l) (.readingMemory (originOf true l) (lineOf (getField l 4 4)) [] none)
    (decide (Config.bootstrapLimit ≤ getField l 4 4)) s

/-- LOAD_CONFIG (R192; R41 from the control window). -/
def execLoadConfig (t : Fin 64) (s : State) : Host.Outcome State Fault Refusal :=
  .next (takeRecord t (fun c => c == 0x0081) (runCommand ownLoadConfig) bootLoad s)

/-! ### An undefined code -/

/-- R41: a record whose code is not defined is refused. -/
def ownUnknown : Owner := fun _ s => (s, some .unknownCommand)

/-- UNKNOWN_COMMAND (R41; R191 from the bootstrap page). -/
def execUnknownCommand (t : Fin 64) (s : State) : Host.Outcome State Fault Refusal :=
  .next (takeRecord t (fun c => !codeDefined c) (runCommand ownUnknown) (refuseBoot .unknownCommand) s)

end Sys2Proof.Machine
end

