-- ==== Sys2Proof/Machine/MemoryPort.lean ====
section
/-! DEFINITION. The Memory Port (section 1.3): the grant of the DRAM port (R15), the completion of passed writes and reads
(R12), and the read-side stages (R13). -/

namespace Sys2Proof.Machine

open Sys2Proof

/-! ### Grants (R14, R15) -/

/-- R14: the sources in cyclic order, starting after one. -/
def Source.after : Source → List Source
  | .reportWriter => [.journalEngine, .priceWatch, .labelSequencer, .configLoader, .reportWriter]
  | .journalEngine => [.priceWatch, .labelSequencer, .configLoader, .reportWriter, .journalEngine]
  | .priceWatch => [.labelSequencer, .configLoader, .reportWriter, .journalEngine, .priceWatch]
  | .labelSequencer => [.configLoader, .reportWriter, .journalEngine, .priceWatch, .labelSequencer]
  | .configLoader => [.reportWriter, .journalEngine, .priceWatch, .labelSequencer, .configLoader]

/-- R15: a WAITING slot counts one more grant to a passed line, up to 8. -/
def Slot.waitMore : Slot → Slot
  | .waiting a n => .waiting a (min (n + 1) Config.maxWait)
  | x => x

/-- R15: a WAITING slot at a wait count of 8. -/
def Slot.isUrgent : Slot → Bool
  | .waiting _ n => decide (Config.maxWait ≤ n)
  | _ => false

/-- R15: the next inserted access to grant, with its source. -/
def nextInserted (m : MemState) : Option (Source × Access) :=
  m.lastGranted.after.findSome? (fun src =>
    match m.slots.get src with
    | .waiting a _ => some (src, a)
    | _ => none)

/-- R14: an access of a source that its grant found out of range completes, and the source is told. Only R192 says what a
source does then: that every other source goes on as at any completion is a DESIGN CHOICE (log entry 29). -/
def completeBeyond (src : Source) (s : State) : State :=
  match src with
  | .reportWriter => completePlacement true s
  | .journalEngine => completePartWrite true s
  | .priceWatch =>
    match s.price.access with
    | .captureRead => completeCapture true s
    | .checkRead _ => completeCheck true s
    | .writeBack _ => completeWriteBack true s
    | .idle => s
  | .labelSequencer => completeWorkRecord true s
  | .configLoader =>
    match s.loader.access with
    | .imageRead => completeImageRead true s
    | .resultWrite => completeResultLine true s
    | .idle => s

/-- R14, R15: an inserted access is granted; one out of range completes when granted. -/
def grantInserted (src : Source) (a : Access) (s : State) : State :=
  let s := s.setMem { s.mem with
    port := .inserted src, slots := s.mem.slots.put src (.granted a), lastGranted := src }
  if outOfRange s.mem a then completeBeyond src s else s

/-- R15: the passed line at the head of the queue is granted. -/
def grantPassed (p : PassedLine) (rest : List PassedLine) (s : State) : State :=
  s.setMem { s.mem with port := .passed p, queue := rest, slots := s.mem.slots.map Slot.waitMore }

/-- R15: the next grant. -/
def grant (s : State) : State :=
  match s.mem.queue, nextInserted s.mem with
  | [], none => s
  | [], some (src, a) => grantInserted src a s
  | p :: rest, none => grantPassed p rest s
  | p :: rest, some (src, a) =>
    if s.mem.slots.toList.any Slot.isUrgent then grantInserted src a s else grantPassed p rest s

/-- DRAM_GRANT (R15): the port is IDLE, something waits, and no hold is in force (R17). -/
def execDramGrant (s : State) : Host.Outcome State Fault Refusal :=
  .next (if s.mem.port = .idle ∧ s.mem.hold = false then grant s else s)

/-! ### Completion of a passed line (R12, R13) -/

/-- R92: the commit that a journal entry's write carries. -/
def commitCarried (c : Option EntryCommit) (s : State) : State :=
  match c with
  | some x => commitEntry x s
  | none => s

/-- R3, R16: the outcome GOOD is recorded, unless the line's request was dropped. -/
def recordGood (o : Option LineRef) (d : Line) (s : State) : State :=
  match o with
  | some x => setOutcome x.txn x.idx .good d s
  | none => s

/-- R12: a passed write completes: the bytes its mask selects are in DRAM. -/
def completeWrite (p : PassedLine) (s : State) : State :=
  let s := portIdle (s.setMem { s.mem with dram := Memory.writeLine s.mem.dram p.addr p.mask p.data })
  let s := commitCarried p.commit (recordGood p.owner 0 s)
  if p.released then releasedDone p.addr s else s

/-- PASSED_WRITE_COMPLETE (R12). -/
def execPassedWriteComplete (s : State) : Host.Outcome State Fault Refusal :=
  match s.mem.port with
  | .passed p => .next (if p.kind = .write then completeWrite p s else s)
  | _ => .next s

/-- R13: the data delivered for a read of a window of a role by a request with a view. -/
def readView (role : Role) (view : PriceView) (l : Line) (s : State) : Line :=
  if role = .price ∧ view = .substituted then substitute s l else l

/-- R13: the delivered data is shown to the observers. -/
def observeRead (cls : InitClass) (role : Role) (addr index : Nat) (l : Line) (s : State) : State :=
  match cls, role, role.bank with
  | .label, .labelQueue, _ => observeLabelRead addr s
  | .wan, _, some bk => observeExport bk index l s
  | _, _, _ => s

/-- R12, R13: a passed read completes; the data of a dropped request is discarded (R16). -/
def completeRead (p : PassedLine) (s : State) : State :=
  let l := Memory.readLine s.mem.dram p.addr
  let s := portIdle s
  match p.owner with
  | none => s
  | some o =>
    match findRequest s o.txn with
    | none => s
    | some r =>
      match (r.lines[o.idx]?).bind (fun x => x.verdict) with
      | some (.pass addr _ role index) =>
        let d := readView role r.view l s
        setOutcome o.txn o.idx .good d (observeRead r.cls role addr index d s)
      | _ => s

/-- PASSED_READ_COMPLETE (R12, R13). -/
def execPassedReadComplete (s : State) : Host.Outcome State Fault Refusal :=
  match s.mem.port with
  | .passed p => .next (if p.kind = .read then completeRead p s else s)
  | _ => .next s

end Sys2Proof.Machine
end

