-- ==== Sys2Proof/Machine/Resets.lean ====
section
/-! DEFINITION. What comes from outside the request path: the link reset (R16, R30, R121, R149, R164), the power-fail
hold (R17, R197), the start-up (R189, R196) and the loss of the backup supply (R195). -/

namespace Sys2Proof.Machine

open Sys2Proof

/-! ### Link reset (R16) -/

/-- R16: a line in the passed-line queue after its request is dropped: a write stays and is recorded nowhere. -/
def PassedLine.orphaned (p : PassedLine) : PassedLine := { p with owner := none }

/-- R16: the access in progress completes; a passed line's completion is recorded nowhere. -/
def Port.orphaned : Port → Port
  | .passed p => .passed p.orphaned
  | x => x

/-- R16: the Memory Port and the Link Port: the table is emptied, read lines leave the queue, write lines stay. -/
def dropRequests (s : State) : State :=
  let s := s.setMem { s.mem with
    port := s.mem.port.orphaned
    queue := (s.mem.queue.filter (fun p => decide (p.kind = .write))).map PassedLine.orphaned }
  s.setLink { s.link with requests := [] }

/-- LINK_RESET (R16): requests are dropped, held price lines and the deferral queue are emptied (R121, R164), the round
ends (R149), and an OPEN lock is LOCKED (R30). -/
def execLinkReset (s : State) : Host.Outcome State Fault Refusal :=
  let s := dropRequests s
  let s := s.setGuard { s.guard with lock := match s.guard.lock with | .open => .locked | x => x }
  let s := s.setGuest { s.guest with queue := [] }
  .next (labelLinkReset (priceLinkReset s))

/-! ### Power-fail hold (R17, R197) -/

/-- R17: the requests that the beginning of a hold answers RETRY. That the answers are sent in the order in which the
requests were taken is a DESIGN CHOICE (log entry 21). -/
def unstarted (s : State) : List (Fin 64) :=
  (s.link.requests.filter (fun r => decide (r.progress ≠ .active))).map (fun r => r.txn)

/-- R17: the access that the hold abandons. -/
def Slot.abandon : Slot → Option Access
  | .waiting a _ => some a
  | _ => none

/-- R17: a slot once the hold has begun. -/
def Slot.cleared : Slot → Slot
  | .waiting _ _ => .empty
  | x => x

/-- R17: the Memory Port at the beginning of the hold. -/
def holdMem (m : MemState) : MemState :=
  { m with
    hold := true, selfRefresh := decide (m.port = .idle)
    abandoned := m.slots.map Slot.abandon, slots := m.slots.map Slot.cleared }

/-- POWER_FAIL_HOLD_BEGIN (R17, R197). -/
def execPowerFailHoldBegin (s : State) : Host.Outcome State Fault Refusal :=
  if s.mem.hold then .next s
  else
    let s := (unstarted s).foldl (fun s t => answerRetry t s) s
    .next (s.setMem (holdMem s.mem))

/-- R17: an abandoned access is issued again. -/
def reissued (slot : Slot) : Option Access → Slot
  | some a => .waiting a 0
  | none => slot

/-- R17: the Memory Port at the end of the hold. -/
def resumeMem (m : MemState) : MemState :=
  { m with
    hold := false, selfRefresh := false, abandoned := ⟨none, none, none, none, none⟩
    slots := ⟨reissued m.slots.reportWriter m.abandoned.reportWriter,
      reissued m.slots.journalEngine m.abandoned.journalEngine,
      reissued m.slots.priceWatch m.abandoned.priceWatch,
      reissued m.slots.labelSequencer m.abandoned.labelSequencer,
      reissued m.slots.configLoader m.abandoned.configLoader⟩ }

/-- POWER_FAIL_HOLD_END (R17, R197). -/
def execPowerFailHoldEnd (s : State) : Host.Outcome State Fault Refusal :=
  if s.mem.hold then .next (s.setMem (resumeMem s.mem)) else .next s

/-! ### Start-up (R189, R196) -/

/-- R196: whether the retained store is valid. -/
def retainedValid (r : RetainedState) : Bool := !r.lost && r.checkAgrees

/-- R93: a bank record taken from the retained store. -/
def restoreBank (r : BankRecord) (k : RetainedBank) : BankRecord :=
  { r with cursor := k.cursor, lastIndex := k.lastIndex, running := k.running, totals := k.totals, inFlight := 0 }

/-- R132: a watch entry taken from the retained store. -/
def restoreEntry (e : WatchEntry) : WatchEntry :=
  { e with
    exit := match e.exit with | .afterWrite _ => .none | x => x
    state := match e.state with | .sending => .staged | x => x }

/-- R166: the Day Controller's state taken from the retained store. -/
def restoreDay (d : DayState) : DayState := { d with deferred := none, retryDue := false, ordered := false }

/-- R93, R132, R166, R196: the start-up values with the retained state of `s` taken into the blocks. -/
def takeRetained (s fresh : State) : State :=
  let fresh := fresh.setJournal { fresh.journal with
    bankA := restoreBank s.journal.bankA s.retained.bankA
    bankB := restoreBank s.journal.bankB s.retained.bankB
    contexts := s.retained.contexts, carried := s.journal.carried }
  let fresh := fresh.setPrice { fresh.price with
    table := s.price.table.map restoreEntry, withdrawals := s.price.withdrawals }
  (fresh.setDay (restoreDay s.day)).setRetained s.retained

/-- R189: every block at its start-up value, before the image and the reports. DRAM keeps its contents (log entry 11);
the completions already sent stand, and each request that arrives meanwhile is answered RETRY. -/
def startBase (arrivals : List (Fin 64)) (s : State) : State :=
  let r := State.reset
  let r := r.setMem { r.mem with dram := s.mem.dram }
  let r := r.setLink { r.link with completions := s.link.completions ++ arrivals.map (fun t => ⟨t, .retry⟩) }
  let r := r.setReports { r.reports with pending := [] }
  (r.setFree s.free).setPending s.pending

/-- R189 step 3: the image is applied, unless it is absent, bad or in conflict. The answer holds the result and the format
number of the START report. -/
def startImage (f : Found) (s : State) : ConfigResult × Nat × State :=
  match f with
  | .absent => (.absent, 0, s)
  | .bad format => (.bad, format, s)
  | .valid i format => if conflicts i s then (.bad, format, s) else (.valid, format, applyImage i true true s)

/-- R197: the hold as PFAIL_N stands when the start-up ends. -/
def startHold (pfail : Bool) (s : State) : State := s.setMem { s.mem with hold := pfail, selfRefresh := pfail }

/-- R189: the whole start-up. -/
def startUp (eeprom : EepromRead) (pfail : Bool) (arrivals : List (Fin 64)) (s : State) : State :=
  let valid := retainedValid s.retained
  let base := startBase arrivals s
  let base := if valid then takeRetained s base else base
  let (result, format, s) := startImage (judgeEeprom eeprom) base
  let s := arise (.start result format) s
  let s := if valid then s else arise .retainLost s
  startHold pfail (endTest s)

/-- START_UP (R189). -/
def execStartUp (eeprom : EepromRead) (pfail : Bool) (arrivals : List (Fin 64)) (s : State) :
    Host.Outcome State Fault Refusal := .next (startUp eeprom pfail arrivals s)

/-! ### The backup supply (R195) -/

/-- RETAINED_SUPPLY_LOST (R195): VDD_RET falls below its level and the lost marker is set. -/
def execRetainedSupplyLost (s : State) : Host.Outcome State Fault Refusal :=
  .next (s.setRetained { s.retained with lost := true })

end Sys2Proof.Machine
end

