-- ==== Sys2Proof/Machine/TimeBase.lean ====
section
/-! DEFINITION. The Time Base (Chapter 4): the period boundary (R57), the compare event (R58), the second event with its
matches (R61, R64), and what the block does when no command waits: the events already made by a tick are handed to
their consumers, and time passes by one microsecond of the reference clock (log entry 2). -/

namespace Sys2Proof.Machine

open Sys2Proof

/-! ### The period side (R56 to R58) -/

/-- R57: the three steps of a period boundary in the Time Base. -/
def boundaryTime (t : TimeState) : TimeState :=
  let ends := t.epochCount + 1 ≥ t.inForce.e
  let t1 := { t with
    counter := 0, epochCount := if ends then 0 else t.epochCount + 1
    epochDue := if ends then t.epochDue + 1 else t.epochDue }
  let t2 := match t1.staged with
    | some x => { t1 with inForce := x, staged := none, epochCount := 0, roundCount := 0 }
    | none => t1
  if t2.inForce.c = 0 then { t2 with compareDue := t2.compareDue + 1 } else t2

/-- R57, R65: a period boundary, and the blocks that take it. R65 and R48 set no order between the Guest Budget and the
Label Sequencer: that the Guest Budget takes it first, its reports first, is a DESIGN CHOICE (log entry 2). -/
def periodBoundary (s : State) : State := labelBoundary (guestBoundary (s.setTime (boundaryTime s.time)))

/-- PERIOD_BOUNDARY (R56, R57): the period counter goes past P - 1. -/
def execPeriodBoundary (s : State) : Host.Outcome State Fault Refusal := .next (periodBoundary s)

/-- R58: one compare event: the round count advances, and every N-th is a round trigger. -/
def countCompare (t : TimeState) : TimeState :=
  if t.roundCount + 1 ≥ t.inForce.n then { t with roundCount := 0, triggerDue := t.triggerDue + 1 }
  else { t with roundCount := t.roundCount + 1 }

/-- R58: the compare event that a tick has made, or, where the counter stands below the compare value, the one that the
tick which sets it to that value makes (log entry 2). -/
def compareEvent (s : State) : State :=
  let t := s.time
  if 0 < t.compareDue then s.setTime (countCompare { t with compareDue := t.compareDue - 1 })
  else if t.counter < t.inForce.c then s.setTime (countCompare { t with counter := t.inForce.c })
  else s

/-- COMPARE_EVENT (R58). -/
def execCompareEvent (s : State) : Host.Outcome State Fault Refusal := .next (compareEvent s)

/-! ### The store clock (R61, R64) -/

/-- R61: the seconds of day advance. -/
def nextSecond (t : TimeState) : TimeState := { t with millis := 0, seconds := (t.seconds + 1) % Config.daySeconds }

/-- R64: whether a scheduled time matches the second just begun. -/
def matchesAt (t : TimeState) (at_ : Option Nat) : Bool := decide (t.clock = .set) && decide (at_ = some t.seconds)

/-- R64: the matches of a second event reach the Day Controller. Where both arise, their order is a free value (log
entry 5). -/
def giveMatches (s : State) : State :=
  match matchesAt s.time s.time.schedule.closeAt, matchesAt s.time s.time.schedule.exportEnd with
  | true, true =>
    let s' := s.setFree (s.free + 1)
    if Config.exportFirst s.free then timedClose (exportDeadline s') else exportDeadline (timedClose s')
  | true, false => timedClose s
  | false, true => exportDeadline s
  | false, false => s

/-- R173: the second event of a close in progress. A grace that this event brings to 0 while some till is IN_TXN leaves
the end test to the row GRACE_EXPIRY (log entry 2). -/
def graceSecond (s : State) : State :=
  let s' := lowerGrace s
  if s'.day.grace = 0 ∧ 0 < s.day.grace then (if suspendSet s'.journal = [] then endTest s' else s') else endTest s'

/-- R61, R64, R171, R173: a second event, with its matches, the retry count of a deferred close that was pending before it,
and the grace of a close that was in progress before it. -/
def secondEvent (s : State) : State :=
  let closing := decide (s.day.phase = .closing)
  let s := giveMatches (countDeferred (s.setTime (nextSecond s.time)))
  if closing then graceSecond s else s

/-- SECOND_EVENT (R61): the millisecond count goes past 999. -/
def execSecondEvent (s : State) : Host.Outcome State Fault Refusal := .next (secondEvent s)

/-! ### Time passing (R56, R61, R154) -/

/-- R61: a tick adds one to the millisecond count. -/
def clockTick (s : State) : State :=
  if s.time.millis ≥ 999 then secondEvent s else s.setTime { s.time with millis := s.time.millis + 1 }

/-- R56, R58: a tick advances the period counter. -/
def periodTick (s : State) : State :=
  let t := s.time
  if t.counter + 1 ≥ t.inForce.p then periodBoundary s
  else
    let t' := { t with counter := t.counter + 1 }
    s.setTime (if t'.counter = t.inForce.c then { t' with compareDue := t.compareDue + 1 } else t')

/-- One microsecond of the reference clock: the pacing timer counts (R154, R157), and each thousandth is a tick (R56). That
the release the timer makes comes before the second event and the period boundary of the same microsecond is a DESIGN CHOICE
(log entry 2). -/
def microsecond (s : State) : State :=
  let s := pacingCheck (pacingCount 1 s)
  if s.time.micros ≥ 999 then periodTick (clockTick (s.setTime { s.time with micros := 0 }))
  else s.setTime { s.time with micros := s.time.micros + 1 }

/-- The block with no command waiting: an event already made is handed to its consumer, else time passes. -/
def idle (s : State) : State :=
  if 0 < s.time.compareDue then compareEvent s
  else if 0 < s.time.triggerDue then roundTrigger s
  else if 0 < s.time.epochDue then epochBoundary s
  else if visitExpired s.label then zoneTimeout s
  else if s.day.phase = .closing ∧ s.day.grace = 0 then graceExpiry s
  else if s.day.retryDue then deferredRetry s
  else microsecond s

end Sys2Proof.Machine
end

