-- ==== Sys2Proof/Machine/Dispatch.lean ====
section
/-! DEFINITION. One arm per command, each one direct call of its meaning. -/

namespace Sys2Proof.Machine

open Sys2Proof

def exec (i : Instr) (s : State) : Host.Outcome State Fault Refusal :=
  match i with
  | .request r => Sys2Proof.Machine.execRequest r s
  | .requestStart txn => Sys2Proof.Machine.execRequestStart txn s
  | .journalEntry txn => Sys2Proof.Machine.execJournalEntry txn s
  | .priceWriteCapture txn => Sys2Proof.Machine.execPriceWriteCapture txn s
  | .acknowledgement txn => Sys2Proof.Machine.execAcknowledgement txn s
  | .dramGrant => Sys2Proof.Machine.execDramGrant s
  | .passedWriteComplete => Sys2Proof.Machine.execPassedWriteComplete s
  | .passedReadComplete => Sys2Proof.Machine.execPassedReadComplete s
  | .placementIssue => Sys2Proof.Machine.execPlacementIssue s
  | .placementComplete => Sys2Proof.Machine.execPlacementComplete s
  | .captureReadIssue => Sys2Proof.Machine.execCaptureReadIssue s
  | .captureReadComplete => Sys2Proof.Machine.execCaptureReadComplete s
  | .checkReadIssue => Sys2Proof.Machine.execCheckReadIssue s
  | .checkReadComplete => Sys2Proof.Machine.execCheckReadComplete s
  | .writeBackComplete => Sys2Proof.Machine.execWriteBackComplete s
  | .periodBoundary => Sys2Proof.Machine.execPeriodBoundary s
  | .compareEvent => Sys2Proof.Machine.execCompareEvent s
  | .roundTrigger => Sys2Proof.Machine.execRoundTrigger s
  | .epochBoundary => Sys2Proof.Machine.execEpochBoundary s
  | .secondEvent => Sys2Proof.Machine.execSecondEvent s
  | .graceExpiry => Sys2Proof.Machine.execGraceExpiry s
  | .deferredCloseRetry => Sys2Proof.Machine.execDeferredCloseRetry s
  | .pacingExpiry => Sys2Proof.Machine.execPacingExpiry s
  | .dayOpenOrder => Sys2Proof.Machine.execDayOpenOrder s
  | .switchOrder => Sys2Proof.Machine.execSwitchOrder s
  | .partWriteIssue => Sys2Proof.Machine.execPartWriteIssue s
  | .partWriteCommit => Sys2Proof.Machine.execPartWriteCommit s
  | .workRecordIssue => Sys2Proof.Machine.execWorkRecordIssue s
  | .workRecordComplete => Sys2Proof.Machine.execWorkRecordComplete s
  | .zoneTimeout => Sys2Proof.Machine.execZoneTimeout s
  | .imageReadComplete => Sys2Proof.Machine.execImageReadComplete s
  | .eepromReadComplete eeprom => Sys2Proof.Machine.execEepromReadComplete eeprom s
  | .resultLineIssue => Sys2Proof.Machine.execResultLineIssue s
  | .resultLineWritten => Sys2Proof.Machine.execResultLineWritten s
  | .linkReset => Sys2Proof.Machine.execLinkReset s
  | .powerFailHoldBegin => Sys2Proof.Machine.execPowerFailHoldBegin s
  | .powerFailHoldEnd => Sys2Proof.Machine.execPowerFailHoldEnd s
  | .startUp eeprom pfail arrivals => Sys2Proof.Machine.execStartUp eeprom pfail arrivals s
  | .ackReports txn => Sys2Proof.Machine.execAckReports txn s
  | .setIrqThreshold txn => Sys2Proof.Machine.execSetIrqThreshold txn s
  | .queryStatus txn => Sys2Proof.Machine.execQueryStatus txn s
  | .unlock txn => Sys2Proof.Machine.execUnlock txn s
  | .setWindow txn => Sys2Proof.Machine.execSetWindow txn s
  | .setClassMap txn => Sys2Proof.Machine.execSetClassMap txn s
  | .setClassDefaults txn => Sys2Proof.Machine.execSetClassDefaults txn s
  | .dumpGuardLog txn => Sys2Proof.Machine.execDumpGuardLog txn s
  | .clearGuardLog txn => Sys2Proof.Machine.execClearGuardLog txn s
  | .setTimebase txn => Sys2Proof.Machine.execSetTimebase txn s
  | .setClock txn => Sys2Proof.Machine.execSetClock txn s
  | .setSchedule txn => Sys2Proof.Machine.execSetSchedule txn s
  | .queryTotals txn => Sys2Proof.Machine.execQueryTotals txn s
  | .setPriceView txn => Sys2Proof.Machine.execSetPriceView txn s
  | .forceEffective txn => Sys2Proof.Machine.execForceEffective txn s
  | .withdrawPrice txn => Sys2Proof.Machine.execWithdrawPrice txn s
  | .queryWatch txn => Sys2Proof.Machine.execQueryWatch txn s
  | .setRounds txn => Sys2Proof.Machine.execSetRounds txn s
  | .startRound txn => Sys2Proof.Machine.execStartRound txn s
  | .stopRound txn => Sys2Proof.Machine.execStopRound txn s
  | .setGuestBudget txn => Sys2Proof.Machine.execSetGuestBudget txn s
  | .clearGuestLatch txn => Sys2Proof.Machine.execClearGuestLatch txn s
  | .openDay txn => Sys2Proof.Machine.execOpenDay txn s
  | .closeDay txn => Sys2Proof.Machine.execCloseDay txn s
  | .closeNow txn => Sys2Proof.Machine.execCloseNow txn s
  | .exportBegin txn => Sys2Proof.Machine.execExportBegin txn s
  | .exportComplete txn => Sys2Proof.Machine.execExportComplete txn s
  | .exportAbort txn => Sys2Proof.Machine.execExportAbort txn s
  | .reloadConfig txn => Sys2Proof.Machine.execReloadConfig txn s
  | .loadConfig txn => Sys2Proof.Machine.execLoadConfig txn s
  | .unknownCommand txn => Sys2Proof.Machine.execUnknownCommand txn s
  | .retainedSupplyLost => Sys2Proof.Machine.execRetainedSupplyLost s

end Sys2Proof.Machine
end

