-- ==== Sys2Proof/Safety.lean ====
section
/-! DEFINITION. The terms in which claims about the JH640 are made: the invariants that every step keeps, and what the
passing of one line, with the lines of its request that follow it, may change. -/

namespace Sys2Proof.Safety

open Sys2Proof Sys2Proof.Machine

/-! ### Invariants -/

/-- The DRAM keeps its canonical form: addresses strictly rising, no cell equal to what an unlisted address reads as. -/
def MemoryCanonical (s : State) : Prop := Memory.wf s.mem.dram = true

/-- A wait count is from 0 to 8 (R14). -/
def CountBounded : Slot → Prop
  | .waiting _ n => n ≤ 8
  | _ => True

/-- R2: at most 32 outstanding requests. R26: at most 8 guard log entries. R48: at most 16 pending reports. R123: at most
256 watch entries. R113: at most 4 lines in the capture queue. R158: at most 16 deferred requests. R12: at most 128 lines
in the passed-line queue. R14: wait counts of 0 to 8. -/
def Bounded (s : State) : Prop :=
  s.link.requests.length ≤ 32 ∧ s.guard.log.length ≤ 8 ∧ s.reports.pending.length ≤ 16 ∧ s.price.table.length ≤ 256 ∧
    s.price.queue.length ≤ 4 ∧ s.guest.queue.length ≤ 16 ∧ s.mem.queue.length ≤ 128 ∧
    ∀ src, CountBounded (s.mem.slots.get src)

/-- R12, R16: the passed lines, the one at the port first. -/
def passedLines (m : MemState) : List PassedLine :=
  match m.port with
  | .passed p => p :: m.queue
  | _ => m.queue

/-- Line `o.idx` of the outstanding request `o.txn` is PENDING and at a stage. -/
def LineAt (s : State) (o : LineRef) (stage : LineStage) : Prop :=
  ∃ r ∈ s.link.requests, r.txn = o.txn ∧ ∃ l, r.lines[o.idx]? = some l ∧ l.outcome = .pending ∧ l.stage = stage

/-- R6: the lines of a started request that have yet to enter the capture queue. -/
def capturesDue (r : Request) : Nat :=
  (r.lines.filter (fun l =>
    decide (l.outcome = .pending ∧ l.stage = .awaitsTurn) && decide (handlerOf true r l = some .capture))).length

/-- What keeps the queues of lines within their bounds. R1: at most 128 lines are counted, and a passed line that has lost
its request is a write. R12: each other passed line is a line of an outstanding request that was handed over once. R7: the
lines of a request that is not ACTIVE await their turn. R6: a started request holds a place for each capture to come, the
places of the capture queue are 4 and those of the deferral queue 16. R112: each line held for a capture is held once. -/
structure LinesTracked (s : State) : Prop where
  counted : (s.link.requests.map (fun r => r.lines.length)).sum +
    ((passedLines s.mem).filter (fun p => decide (p.kind = .write ∧ p.owner = none))).length ≤ 128
  orphans : ∀ p ∈ s.mem.queue, p.owner = none → p.kind = .write
  handed : ∀ p ∈ passedLines s.mem, ∀ o, p.owner = some o → LineAt s o .handed
  handedOnce : ((passedLines s.mem).filterMap (fun p => p.owner)).Nodup
  awaiting : ∀ r ∈ s.link.requests, r.progress ≠ .active → ∀ l ∈ r.lines, l.stage = .awaitsTurn
  captures : ∀ r ∈ s.link.requests, r.progress ≠ .queued → capturesDue r ≤ r.captureReserved
  capturePlaces : s.price.queue.length + (s.link.requests.map (fun r => r.captureReserved)).sum ≤ 4
  deferralPlaces : s.guest.queue.length + (s.link.requests.filter (fun r => r.deferralReserved)).length ≤ 16
  held : ∀ c ∈ s.price.queue, c.stage ≠ .released → ∃ o, c.owner = some o ∧ LineAt s o .held
  heldOnce : ((s.price.queue.filter (fun c => decide (c.stage ≠ .released))).filterMap (fun c => c.owner)).Nodup

/-- R123: no two watch entries have the same item code. -/
def ItemsDistinct (s : State) : Prop := (s.price.table.map (fun e => e.item)).Nodup

/-- R18: the three laws of the window table. -/
def TableLaws (s : State) : Prop := tableLaws s.guard.windows = true

/-- R24: the write-protect flag of an enabled journal window is off while its bank is OPEN or CLOSING and on otherwise. -/
def ProtectMirrors (s : State) : Prop :=
  ∀ (i : Fin 16) (bk : Bank), s.guard.windows[i].enabled = true → s.guard.windows[i].role = bk.role →
    s.guard.windows[i].writeProtect =
      match (getBank s.journal bk).state with
      | .open => false
      | .closing => false
      | _ => true

/-- R18 and R24 together. -/
def WindowsSound (s : State) : Prop := TableLaws s ∧ ProtectMirrors s

/-! ### What the lines of a request that follow a command may change -/

/-- The guard log and the pending queue after refusals are recorded one after another (R27). -/
def logAll (es : List GuardEntry) (s : State) : State := es.foldl (fun x e => logRefusal e x) s

/-- `LinesPass u s`: from `u` to `s` nothing changed but the outstanding requests and their completions, the DRAM port and
the passed-line queue, and what recorded refusals did to the guard log and the pending queue. This is what handing a line
to the Memory Port and letting the later lines of its request take effect may do (R7, R8, R10). -/
structure LinesPass (u s : State) : Prop where
  decoder : s.decoder = u.decoder
  time : s.time = u.time
  journal : s.journal = u.journal
  price : s.price = u.price
  label : s.label = u.label
  guest : s.guest = u.guest
  day : s.day = u.day
  loader : s.loader = u.loader
  retained : s.retained = u.retained
  free : s.free = u.free
  pending : s.pending = u.pending
  mem : s.mem = { u.mem with port := s.mem.port, queue := s.mem.queue }
  logged : ∃ es, s.guard = (logAll es u).guard ∧ s.reports = (logAll es u).reports

/-- A write line that has been handed to the Memory Port: it stands in the passed-line queue or at the port (R12). -/
def HandedOver (t : Fin 64) (k : Nat) (addr : Nat) (mask : Mask) (data : Line) (m : MemState) : Prop :=
  ∃ p : PassedLine, p.owner = some ⟨t, k⟩ ∧ p.kind = .write ∧ p.addr = addr ∧ p.mask = mask ∧ p.data = data ∧
    (m.port = .passed p ∨ p ∈ m.queue)

/-! ### Commands written as control records -/

/-- Line `k` of a started request is at its turn, and a stage-4 handler receives it (R7, R8). -/
def AtTurn (s : State) (t : Fin 64) (k : Nat) (l : ReqLine) (h : Handler) : Prop := ∃ r, turnLine t s = some (r, k, l, h)

/-- R32, R44: a control record has been taken: the taken count gained one, and an OPEN lock is LOCKED. -/
def recordTaken (s : State) : State :=
  { s with
    decoder := { s.decoder with taken := (s.decoder.taken + 1) % 4294967296 }
    guard := { s.guard with lock := if s.guard.lock = .open then .locked else s.guard.lock } }

/-- R48: a report has arisen: it stands, stamped, at the tail of the pending queue, or was dropped. -/
def reported (b : ReportBody) (s : State) : State :=
  if s.reports.pending.length < 16 then
    { s with reports := { s.reports with
      pending := s.reports.pending ++ [⟨s.time.seconds, s.time.millis, s.time.clock, b⟩] } }
  else { s with reports := { s.reports with overflow := true } }

/-- R44: a record has been answered CMD_REFUSED. -/
def refusedCounted (s : State) : State :=
  { s with decoder := { s.decoder with refused := (s.decoder.refused + 1) % 4294967296 } }

/-- R41: a record's answer, none for CMD_DONE and a refusal code for CMD_REFUSED. -/
def answered (l : Line) (a : Option RefusalCode) (s : State) : State :=
  match a with
  | none => reported (.cmdDone (recordCode l) (recordCookie l)) s
  | some c => reported (.cmdRefused (recordCode l) (recordCookie l) c) (refusedCounted s)

/-- The line of a command has passed: it was handed to the Memory Port unchanged (R40), and from `u` to `s` only the lines
after it have acted. -/
def RecordPasses (t : Fin 64) (k : Nat) (l : ReqLine) (u s : State) : Prop :=
  LinesPass u s ∧ ∃ addr w role i, l.verdict = some (.pass addr w role i) ∧ HandedOver t k addr l.mask l.data s.mem

/-- A command that the lock lets pass and whose conditions hold is carried out with an effect and answered CMD_DONE, its
owner's reports before the reply (R41, R42). -/
def CarriesOut (c : Fin 64 → Instr) (code : Nat) (cond : Line → State → Prop) (effect : Line → State → State) : Prop :=
  ∀ t s k l, AtTurn s t k l .control → recordCode l.data = code → (codeProtected code = true → s.guard.lock = .open) →
    cond l.data s →
    ∃ s', exec (c t) s = .next s' ∧ RecordPasses t k l (answered l.data none (effect l.data (recordTaken s))) s'

/-- A command that the lock lets pass and whose conditions hold is refused with a code, changing nothing but what `effect`
says, the counts and the lock (R41). -/
def Refuses (c : Fin 64 → Instr) (code : Nat) (cond : Line → State → Prop) (rc : RefusalCode)
    (effect : Line → State → State) : Prop :=
  ∀ t s k l, AtTurn s t k l .control → recordCode l.data = code → (codeProtected code = true → s.guard.lock = .open) →
    cond l.data s →
    ∃ s', exec (c t) s = .next s' ∧ RecordPasses t k l (answered l.data (some rc) (effect l.data (recordTaken s))) s'

/-- The constructors of the control records with their command codes (section 12.4). -/
def controlCommands : List ((Fin 64 → Instr) × Nat) :=
  [(.ackReports, 0x0001), (.setIrqThreshold, 0x0002), (.queryStatus, 0x0003), (.unlock, 0x0010), (.setWindow, 0x0011),
   (.setClassMap, 0x0012), (.setClassDefaults, 0x0013), (.dumpGuardLog, 0x0014), (.clearGuardLog, 0x0015),
   (.setTimebase, 0x0020), (.setClock, 0x0021), (.setSchedule, 0x0022), (.queryTotals, 0x0030), (.setPriceView, 0x0040),
   (.forceEffective, 0x0041), (.withdrawPrice, 0x0042), (.queryWatch, 0x0043), (.setRounds, 0x0050), (.startRound, 0x0051),
   (.stopRound, 0x0052), (.setGuestBudget, 0x0060), (.clearGuestLatch, 0x0061), (.openDay, 0x0070), (.closeDay, 0x0071),
   (.closeNow, 0x0072), (.exportBegin, 0x0073), (.exportComplete, 0x0074), (.exportAbort, 0x0075)]

/-- The protected commands (section 2.4). -/
def protectedCommands : List ((Fin 64 → Instr) × Nat) :=
  [(.setWindow, 0x0011), (.setClassMap, 0x0012), (.setClassDefaults, 0x0013), (.setPriceView, 0x0040), (.reloadConfig, 0x0080)]


/-! ### Times, transaction numbers -/

/-- No event made by a tick waits for its consumer, no visit has timed out, no close waits for its end test at a grace of
0, and no retry of a deferred close is due (log entry 2). -/
def NothingDue (s : State) : Prop :=
  s.time.compareDue = 0 ∧ s.time.triggerDue = 0 ∧ s.time.epochDue = 0 ∧ s.day.retryDue = false ∧
    (s.day.phase = .closing → 0 < s.day.grace) ∧
    (∀ z, s.label.zone = some z → s.label.zones[z] = .waiting → 0 < s.label.timeout)

/-- R1: no two outstanding requests have the same transaction number. -/
def TxnsDistinct (s : State) : Prop := (s.link.requests.map (fun r => r.txn)).Nodup

/-! ### Accesses at the DRAM port -/

/-- A write to DRAM is in progress at the port, and command `c` is its completion: a passed line (R12), or an inserted
access whose source waits for it (R14). -/
def WriteAtPort (c : Instr) (s : State) (addr : Nat) (mask : Mask) (data : Line) : Prop :=
  (c = .passedWriteComplete ∧
    ∃ p, s.mem.port = .passed p ∧ p.kind = .write ∧ p.addr = addr ∧ p.mask = mask ∧ p.data = data) ∨
  (∃ src, s.mem.port = .inserted src ∧ s.mem.slots.get src = .granted ⟨.write, addr, mask, data⟩ ∧
    ((c = .placementComplete ∧ src = .reportWriter ∧ s.reports.placing ≠ none) ∨
      (c = .partWriteCommit ∧ src = .journalEngine ∧ ∃ o e, s.journal.partWrite = .writing o e) ∨
      (c = .writeBackComplete ∧ src = .priceWatch ∧ ∃ i, s.price.access = .writeBack i) ∨
      (c = .workRecordComplete ∧ src = .labelSequencer ∧ s.label.writing ≠ none) ∨
      (c = .resultLineWritten ∧ src = .configLoader ∧ s.loader.access = .resultWrite)))

/-- An inserted access of a source is in progress at the port (R14). -/
def InsertedAtPort (s : State) (src : Source) (a : Access) : Prop :=
  s.mem.port = .inserted src ∧ s.mem.slots.get src = .granted a

/-- The port after the access in progress has completed; during the power-fail hold the DRAM goes into self-refresh
(R12, R17). -/
def idlePort (m : MemState) : MemState := { m with port := .idle, selfRefresh := m.selfRefresh || m.hold }

/-- The port and the slot after an inserted access has completed (R14). -/
def freedSlot (src : Source) (m : MemState) : MemState := { idlePort m with slots := m.slots.put src .empty }

/-- The read of a one-line request is in progress at the port (R12). -/
structure LoneReadAtPort (s : State) (t : Fin 64) (r : Request) (addr : Nat) (role : Role) (index : Nat) : Prop where
  port : ∃ p, s.mem.port = .passed p ∧ p.kind = .read ∧ p.addr = addr ∧ p.owner = some ⟨t, 0⟩
  entry : findRequest s t = some r
  kind : r.kind = .read
  line : ∃ l w, r.lines = [l] ∧ l.verdict = some (.pass addr w role index)

/-- R2, R13: the line of a one-line read is GOOD with this data: the completion is sent, the entry removed, the port
IDLE. -/
def loneReadDone (t : Fin 64) (d : Line) (s : State) : State :=
  { s with
    mem := idlePort s.mem
    link := { requests := s.link.requests.filter (fun q => decide (q.txn ≠ t))
              completions := s.link.completions ++ [⟨t, .taken [.good] [d]⟩] } }

/-- Two lines agree in every byte but those that a test names. -/
def AgreeExcept (d e : Line) (except : Nat → Prop) : Prop := ∀ j, j < 64 → ¬ except j → getByte d j = getByte e j

/-! ### Requests starting -/

/-- A QUEUED request at its turn: every request of its tag taken before it is settled (R5). -/
def AtStart (s : State) (t : Fin 64) (r : Request) : Prop :=
  findRequest s t = some r ∧ r.progress = .queued ∧ ∀ q ∈ earlierOfTag t r.tag s.link.requests, isSettled s q = true

/-- R6: the places that a judged request needs held are there: the capture queue has 4, the deferral queue 16. -/
def PlacesFree (s : State) (r : Request) : Prop :=
  s.price.queue.length + (s.link.requests.map (fun q => q.captureReserved)).sum + captureNeed r ≤ 4 ∧
    (deferralNeed r = true → s.guest.queue.length + (s.link.requests.filter (fun q => q.deferralReserved)).length < 16)

/-- The table with the entry of a transaction number replaced. -/
def entryReplaced (t : Fin 64) (r : Request) (s : State) : State :=
  { s with link := { s.link with requests := s.link.requests.map (fun q => if q.txn = t then r else q) } }

/-- R12: a line handed to the Memory Port is granted at once when nothing else waits, and joins the queue otherwise. -/
def handed (p : PassedLine) (s : State) : State :=
  if s.mem.port = .idle ∧ s.mem.queue = [] ∧ someWaiting s.mem = false ∧ s.mem.hold = false then
    { s with mem := { s.mem with port := .passed p } }
  else { s with mem := { s.mem with queue := s.mem.queue ++ [p] } }

/-- R2: a one-line request is answered TAKEN: its entry is removed. -/
def answeredTaken (t : Fin 64) (o : LineOutcome) (data : List Line) (s : State) : State :=
  { s with link := { requests := s.link.requests.filter (fun q => decide (q.txn ≠ t))
                     completions := s.link.completions ++ [⟨t, .taken [o] data⟩] } }

/-- R2, R3, R12, R16: line `o` of a write request has become GOOD: the completion is sent, and the entry removed, exactly
when no line is left PENDING. A line that has lost its request is recorded nowhere. -/
def writeGood (o : Option LineRef) (s : State) : State :=
  match o.bind (fun x => (findRequest s x.txn).map (fun r => (x, r))) with
  | none => s
  | some (x, r) =>
    let lines := r.lines.modify x.idx (fun l => { l with outcome := .good, delivered := 0 })
    if ∀ l ∈ lines, l.outcome ≠ .pending then
      { s with link :=
        { requests := s.link.requests.filter (fun q => decide (q.txn ≠ x.txn))
          completions := s.link.completions ++ [⟨x.txn, .taken (lines.map (fun l => l.outcome)) []⟩] } }
    else
      { s with link := { s.link with requests := s.link.requests.map (fun q => if q.txn = x.txn then
        { q with lines := q.lines.modify x.idx (fun l => { l with outcome := .good, delivered := 0 }) } else q) } }

/-- R3, R10: the outcome of a refused line of a one-line request, and what its completion carries: FILLED with fill bytes
for a read, DISCARDED for a write. -/
def refusedTaken (t : Fin 64) (kind : AccessKind) (s : State) : State :=
  match kind with
  | .read => answeredTaken t .filled [uniformLine s.mem.fill] s
  | .write => answeredTaken t .discarded [] s

/-- The log entry that a refused line makes (R10, R26). -/
def refusalOf (r : Request) (l : ReqLine) (cause : Cause) (w : Option (Fin 16)) : GuardEntry :=
  { tag := r.tag, cls := r.cls, bus := l.bus, kind := r.kind, cause := cause, window := w, count := 1 }

/-! ### Guest requests -/

/-- R9: every line of a request waits for stage 5. -/
def AllWait (r : Request) : Prop := r.lines ≠ [] ∧ ∀ l ∈ r.lines, l.outcome = .pending ∧ l.stage = .awaitsGuest

/-- The DRAM address that a verdict passes a line to, 0 for a line that is refused. -/
def addressOf (l : ReqLine) : Nat :=
  match l.verdict with
  | some (.pass addr _ _ _) => addr
  | _ => 0

/-- R12, R154: all lines of a request are handed to the Memory Port, in line order. -/
def allHanded (t : Fin 64) (r : Request) (s : State) : State :=
  r.lines.zipIdx.foldl (fun x q => handed
    { owner := some ⟨t, q.2⟩, kind := r.kind, addr := addressOf q.1, mask := q.1.mask, data := q.1.data, commit := none
      released := false } x) s

/-- R154: a request with these lines has been served: its lines are at the Memory Port, U has grown by their number, the
pacing timer is at 0, and no place is reserved for it. -/
def servedWhole (t : Fin 64) (r : Request) (s : State) : State :=
  allHanded t r (entryReplaced t { r with
      deferralReserved := false, lines := r.lines.map (fun l => { l with stage := .handed }) }
    { s with guest := { s.guest with usage := min (s.guest.usage + r.lines.length) 65535, timer := 0 } })

/-- R3, R10, R155, R162: all lines of a request have been refused with GUEST_LATCH, in line order, and its completion has
been sent. -/
def latchedWhole (t : Fin 64) (r : Request) (s : State) : State :=
  r.lines.foldl (fun x l => logRefusal (refusalOf r l .guestLatch (l.verdict.bind Verdict.window)) x)
    { s with link :=
      { requests := s.link.requests.filter (fun q => decide (q.txn ≠ t))
        completions := s.link.completions ++ [⟨t, match r.kind with
          | .read => .taken (r.lines.map (fun _ => .filled)) (r.lines.map (fun _ => uniformLine s.mem.fill))
          | .write => .taken (r.lines.map (fun _ => .discarded)) []⟩] } }

/-- R158: the deferral queue holds these entries, each beside its request, whose lines all wait. -/
def QueueIs (s : State) (xs : List (Deferred × Request)) : Prop :=
  s.guest.queue = xs.map (fun x => x.1) ∧ (xs.map (fun x => x.1.txn)).Nodup ∧
    ∀ x ∈ xs, findRequest s x.1.txn = some x.2 ∧ AllWait x.2

/-- R162: the latch has gone from CLEAR to SET: GUEST_LATCHED is reported, and the requests in the deferral queue have been
refused with GUEST_LATCH from head to tail. -/
def latchSet (cause : LatchCause) (xs : List (Deferred × Request)) (s : State) : State :=
  xs.foldl (fun y x => latchedWhole x.1.txn x.2 y)
    (reported (.guestLatched cause s.guest.usage s.guest.violations)
      { s with guest := { s.guest with latch := some cause, queue := [] } })

/-- R159: a request with the verdicts that the tables in force now give its lines. -/
def judgedAgain (s : State) (r : Request) : Request :=
  { r with lines := r.lines.map (fun l => { l with verdict := some (judgeLine s.guard s.mem.size r.cls r.kind l.bus) }) }

/-! ### Records the part writes (sections 12.1 to 12.5) -/

/-- R199: a record holds fields, each at an offset with a width in bytes, and 0 in every byte outside them. -/
def HoldsFields (l : Line) (fields : List (Nat × Nat × Nat)) : Prop :=
  (∀ f ∈ fields, getField l f.1 f.2.1 = f.2.2 % 256 ^ f.2.1) ∧
    ∀ j, j < 64 → (∀ f ∈ fields, ¬(f.1 ≤ j ∧ j < f.1 + f.2.1)) → getByte l j = 0

/-- A signed value of 8 bytes as the unsigned number its two's complement holds (R199). -/
def money (a : Acc) : Nat := (BitVec.ofInt 64 a.value).toNat

/-- 1 for a marker that is set, 0 for one that is clear (section 12.1). -/
def marker (b : Bool) : Nat := if b = true then 1 else 0

/-- Sections 3.5 and 12.5, R45, R55, R110, R131: the kind code of a report, and the fields of its payload, each with its
offset in the record and its width. -/
def reportContent : ReportBody → Nat × List (Nat × Nat × Nat)
  | .cmdDone code cookie => (0x01, [(8, 2, code), (10, 2, cookie)])
  | .cmdRefused code cookie r => (0x02, [(8, 2, code), (10, 2, cookie), (12, 1, r.code)])
  | .guard e dump => (0x03, [(8, 1, e.tag.val), (9, 1, e.cls.code), (10, 4, e.bus), (14, 1, kindCode e.kind),
      (15, 1, e.cause.code), (16, 1, match e.window with | some i => i.val | none => 0xFF), (17, 2, e.count),
      (19, 1, marker dump)])
  | .guestLatched c u v => (0x04, [(8, 1, c.code), (9, 2, u), (11, 2, v)])
  | .guestCleared u => (0x05, [(8, 2, u)])
  | .priceStaged i o n z f p => (0x06, [(8, 4, i), (12, 4, o), (16, 4, n), (20, 1, z.val), (21, 1, f.val),
      (22, 1, match p with | some st => st.code | none => 0xFF)])
  | .priceShown i n z a => (0x07, [(8, 4, i), (12, 4, n), (16, 1, z.val), (17, 1, a)])
  | .priceEffective i o n f => (0x08, [(8, 4, i), (12, 4, o), (16, 4, n), (20, 1, marker f)])
  | .priceFailed i n z a k => (0x09, [(8, 4, i), (12, 4, n), (16, 1, z.val), (17, 1, a), (18, 2, k)])
  | .priceWithdrawn i o w => (0x0A, [(8, 4, i), (12, 4, o), (16, 1, marker w)])
  | .zoneDone r z s h t => (0x0B, [(8, 1, r), (9, 1, z.val), (10, 2, s), (12, 2, h), (14, 2, t)])
  | .roundDone r v s => (0x0C, [(8, 1, r), (9, 1, v), (10, 1, marker s)])
  | .entryFlagged k i t q d f => (0x0D, [(8, 1, k.code), (9, 4, i), (13, 1, t), (14, 2, q), (16, 1, d), (17, 4, f.toNat)])
  | .bankFull k d c => (0x0E, [(8, 1, k.code), (9, 2, d), (11, 4, c)])
  | .dayOpened k d => (0x0F, [(8, 1, k.code), (9, 2, d)])
  | .dayClosing k d g m t => (0x10, [(8, 1, k.code), (9, 2, d), (11, 2, g), (13, 1, m.code), (14, 1, marker t)])
  | .dayClosed k o d c s m => (0x11, [(8, 1, k.code), (9, 1, o.code), (10, 2, d), (12, 4, c), (16, 1, s), (17, 1, m.code)])
  | .closeDeferred k st => (0x12, [(8, 1, k.code), (9, 1, st.code)])
  | .exportVerified k d n c => (0x13, [(8, 1, k.code), (9, 2, d), (11, 4, n), (15, 4, c.toNat)])
  | .exportMismatch k i c f => (0x14, [(8, 1, k.code), (9, 4, i), (13, 4, c.toNat), (17, 4, f.toNat)])
  | .exportLate k c => (0x15, [(8, 1, k.code), (9, 4, c)])
  | .start r f => (0x16, [(8, 1, r.code), (9, 4, f)])
  | .retainLost => (0x17, [])
  | .status i => (0x18, [(8, 1, i.lock.code), (9, 1, i.badKeys), (10, 1, i.logCount), (11, 1, i.size.code),
      (12, 1, i.dayPhase.code), (13, 1, i.stateA.code), (14, 2, i.dayA), (16, 1, i.stateB.code), (17, 2, i.dayB),
      (19, 1, i.clock.code), (20, 4, i.seconds), (24, 2, i.period), (26, 1, i.e), (27, 1, i.n), (28, 2, i.watchCount),
      (30, 1, i.captureCount), (31, 1, i.round.code), (32, 1, i.roundNumber), (33, 1, i.guestMode.code),
      (34, 1, match i.latch with | none => 0 | some .budget => 1 | some .guardFault => 2), (35, 2, i.usage),
      (37, 1, i.deferralCount), (38, 2, i.producer), (40, 2, i.consumer), (42, 1, marker i.phase), (43, 2, i.capacity),
      (45, 1, i.pendingCount), (46, 1, marker i.overflow), (47, 1, i.threshold), (48, 4, i.taken), (52, 4, i.refused)])
  | .totalsTill k t x => (0x19, [(8, 1, k.code), (9, 1, t.val), (10, 8, money x.sales), (18, 8, money x.returns),
      (26, 8, money x.voids), (34, 8, money x.net), (42, 4, x.txns), (46, 4, x.lines), (50, 4, x.abandoned),
      (54, 4, x.suspended),
      (58, 1, marker x.sales.marked + 2 * marker x.returns.marked + 4 * marker x.voids.marked + 8 * marker x.net.marked)])
  | .totalsStore k x => (0x19, [(8, 1, k.code), (9, 1, 0xFF), (10, 8, money x.net), (18, 4, x.entries), (22, 4, x.flagged),
      (26, 4, x.txns), (30, 1, marker x.net.marked)])
  | .watch i none => (0x1A, [(8, 4, i), (12, 1, 0)])
  | .watch i (some (e, pos)) => (0x1A, [(8, 4, i), (12, 1, 1), (13, 4, e.line), (17, 4, e.oldPrice), (21, 4, e.newPrice),
      (25, 1, e.zone.val), (26, 1, e.facings.val), (27, 1, e.policy.code), (28, 2, e.acked.toNat), (30, 1, e.state.code),
      (31, 1, e.attempts), (32, 1, marker e.epochSeen), (33, 1, e.exit.code), (34, 2, pos)])

/-- Section 12.5: the fields of a report record with its phase and OVERFLOW_BEFORE marker. -/
def reportFields (r : Report) (phase before : Bool) : List (Nat × Nat × Nat) :=
  [(0, 1, (reportContent r.body).1), (1, 1, marker phase + 2 * marker before + 4 * marker (decide (r.clock = .set))),
    (2, 2, r.millis), (4, 4, r.seconds)] ++ (reportContent r.body).2

/-- Section 12.3: the fields of a label work record. -/
def workFields (phase : Bool) (round : Nat) (zone : Fin 16) (recordNo : Nat) (items : List (Nat × Nat × Nat)) :
    List (Nat × Nat × Nat) :=
  [(0, 1, marker phase), (1, 1, round), (2, 1, zone.val), (3, 1, recordNo), (4, 1, items.length)] ++
    items.zipIdx.flatMap (fun x =>
      [(16 + 8 * x.2, 4, x.1.1), (20 + 8 * x.2, 3, x.1.2.1), (23 + 8 * x.2, 1, x.1.2.2)])

/-- Section 12.4: the fields of the bootstrap result line. -/
def resultFields (r : BootResult) : List (Nat × Nat × Nat) :=
  [(0, 2, r.code), (2, 2, r.cookie), (4, 2, r.count), (6, 1, r.status.code),
    (7, 1, match r.refusal with | some c => c.code | none => 0),
    (8, 1, match r.outcome with | some (c, _) => c.code | none => 0),
    (12, 4, match r.outcome with | some (_, f) => f | none => 0)]

/-- Section 12.1: the codes that records carry. -/
structure CodesAsListed : Prop where
  cls : [InitClass.cpu, .lan, .guest, .label, .wan, .other].map InitClass.code = [0, 1, 2, 3, 4, 5]
  bank : [Bank.a, .b].map Bank.code = [0, 1]
  bankState : [BankState.idle, .open, .closing, .closed, .exporting, .verified].map BankState.code = [0, 1, 2, 3, 4, 5]
  dayPhase : [DayPhase.noDay, .dayOpen, .closing, .switching].map DayPhase.code = [0, 1, 2, 3]
  carry : [CarryMode.carry, .drop].map CarryMode.code = [0, 1]
  guestMode : [GuestMode.off, .cycle, .latched].map GuestMode.code = [0, 1, 2]
  latchCause : [LatchCause.budget, .guardFault].map LatchCause.code = [0, 1]
  round : [RoundState.idle, .running, .stopping].map RoundState.code = [0, 1, 2]
  policy : [Policy.hold, .flag].map Policy.code = [0, 1]
  watchState : [WatchState.staged, .sending, .shown, .failed].map WatchState.code = [0, 1, 2, 3]
  exit : ∀ a, [ExitMarker.none, .afterWrite a, .withdraw].map ExitMarker.code = [0, 1, 2]
  lock : [LockState.locked, .open, .barred].map LockState.code = [0, 1, 2]
  clock : [ClockState.unset, .set].map ClockState.code = [0, 1]
  kind : [AccessKind.read, .write].map kindCode = [0, 1]
  config : [ConfigResult.valid, .absent, .bad].map ConfigResult.code = [0, 1, 2]
  status : [BootStatus.accepted, .done, .refused].map BootStatus.code = [0, 1, 2]
  size : [DramSize.m256, .m512, .g1, .g2, .g4].map DramSize.code = [0, 1, 2, 3, 4]
  cause : [Cause.noRight, .writeProtect, .outOfRange, .notJournalWriter, .appendOrder, .format, .bankFull, .closing,
    .switching, .watchFull, .guestLatch].map Cause.code = [1, 2, 3, 4, 5, 6, 7, 8, 9, 10, 11]
  refusal : [RefusalCode.locked, .badKey, .barred, .badArg, .overlap, .roleTaken, .roleBusy, .alias_, .busy, .wrongState,
    .notFound, .otherBankBusy, .notVerified, .unknownCommand, .configBad, .configConflict, .badRange].map RefusalCode.code =
      [1, 2, 3, 4, 5, 6, 7, 8, 9, 10, 11, 12, 13, 14, 15, 16, 17]

/-! ### Bootstrap commands -/

/-- R191: a bootstrap command has been answered with a status: the result count gained one, and the result is pending. -/
def bootAnswered (l : Line) (status : BootStatus) (refusal : Option RefusalCode) (s : State) : State :=
  { s with loader := { s.loader with
    resultCount := (s.loader.resultCount + 1) % 65536
    result := some
      { code := recordCode l, cookie := recordCookie l, count := (s.loader.resultCount + 1) % 65536
        status := status, refusal := refusal, outcome := none } } }

/-! ### Edits of the window table -/

/-- R35: the DRAM pages of two windows meet. -/
abbrev SharesDram (v w : Window) : Prop :=
  (v.base : Int) + v.offset ≤ w.limit + w.offset ∧ (w.base : Int) + w.offset ≤ v.limit + v.offset

/-- R35: an enabled window fails the range check. -/
abbrev FailsRange (size : DramSize) (w : Window) : Prop :=
  1048575 < w.base ∨ 1048575 < w.limit ∨ w.limit < w.base ∨ (w.base : Int) + w.offset < 0 ∨
    (size.bytes : Int) < ((w.limit : Int) + w.offset + 1) * 4096 ∨
    w.limit - w.base + 1 < (if w.role = .journalA ∨ w.role = .journalB then 2 else 1)

/-- R36: the role of a window is in use. -/
abbrev RoleBusy (s : State) (role : Role) : Prop :=
  (role = .journalA ∧ s.journal.bankA.state ≠ .idle) ∨ (role = .journalB ∧ s.journal.bankB.state ≠ .idle) ∨
    (role = .price ∧ (s.price.table ≠ [] ∨ s.price.queue ≠ [])) ∨ (role = .labelQueue ∧ s.label.round ≠ .idle)

/-- R34: some other enabled entry of the table satisfies a test. -/
def otherEnabled (s : State) (i : Fin 16) (p : Window → Bool) : Bool :=
  decide (∃ j : Fin 16, j ≠ i ∧ s.guard.windows[j].enabled = true ∧ p s.guard.windows[j] = true)

/-- R34: the first refusal of checks 2 to 6 that applies to an edit of entry `i`, none for one that is accepted. -/
def editRefusal (s : State) (i : Fin 16) (w : Window) : Option RefusalCode :=
  if s.guard.windows[i].enabled = true ∧ RoleBusy s s.guard.windows[i].role then some .roleBusy
  else if w.enabled = false then none
  else if FailsRange s.mem.size w then some .badRange
  else if otherEnabled s i (fun v => decide (v.base ≤ w.limit ∧ w.base ≤ v.limit)) then some .overlap
  else if w.role ≠ .plain ∧ otherEnabled s i (fun v => decide (v.role = w.role)) = true then some .roleTaken
  else if otherEnabled s i (fun v => decide ((v.role ≠ .plain ∨ w.role ≠ .plain) ∧ SharesDram v w)) then some .alias_
  else none

/-- R24, R37: the content that an accepted edit stores: in a journal role the write-protect flag is on unless the bank is
OPEN or CLOSING. -/
def contentStored (j : JournalState) (w : Window) : Window :=
  if w.enabled = true ∧ w.role = .journalA then
    { w with writeProtect := decide (j.bankA.state ≠ .open ∧ j.bankA.state ≠ .closing) }
  else if w.enabled = true ∧ w.role = .journalB then
    { w with writeProtect := decide (j.bankB.state ≠ .open ∧ j.bankB.state ≠ .closing) }
  else w

/-- R20, R37, R51, R146, R195: an accepted edit: the entry is replaced; where the old or the new entry is an enabled
journal window, the journal window record is brought up to date; where the window of REPORT or of LABEL_QUEUE is set, moved
or disabled, its ring starts afresh. -/
def entryEdited (i : Fin 16) (w : Window) (s : State) : State :=
  let ws := vput s.guard.windows i (contentStored s.journal w)
  let journal (v : Window) : Prop := v.enabled = true ∧ (v.role = .journalA ∨ v.role = .journalB)
  { s with
    guard := { s.guard with windows := ws }
    retained :=
      if journal s.guard.windows[i] ∨ journal w then
        { s.retained with recordA := rolePlace ws .journalA, recordB := rolePlace ws .journalB }
      else s.retained
    reports :=
      if rolePlace ws .report = rolePlace s.guard.windows .report then s.reports
      else { s.reports with
        producer := 0, consumer := 0, phase := true, irq := false, placing := s.reports.placing.map (fun _ => ⟨false⟩) }
    label :=
      if rolePlace ws .labelQueue = rolePlace s.guard.windows .labelQueue then s.label
      else { s.label with
        producer := 0, consumer := 0, phase := true
        writing := s.label.writing.map (fun x => { x with inRing := false }) } }

/-- R18: the three laws of the window table. -/
def LawsHold (ws : Vector Window 16) : Prop :=
  ∀ i j : Fin 16, i ≠ j → ws[i].enabled = true → ws[j].enabled = true →
    ¬(ws[i].base ≤ ws[j].limit ∧ ws[j].base ≤ ws[i].limit) ∧ ¬(ws[i].role ≠ .plain ∧ ws[i].role = ws[j].role) ∧
      ¬((ws[i].role ≠ .plain ∨ ws[j].role ≠ .plain) ∧ SharesDram ws[i] ws[j])

/-- R195: where the enabled window of a role stands, none where no enabled window holds the role. -/
def PlaceIs (ws : Vector Window 16) (role : Role) (p : Option WindowPlace) : Prop :=
  (∀ i : Fin 16, ws[i].enabled = true → ws[i].role = role → p = some ⟨ws[i].base, ws[i].limit, ws[i].offset⟩) ∧
    ((∀ i : Fin 16, ¬(ws[i].enabled = true ∧ ws[i].role = role)) → p = none)

/-! ### Configuration images (section 12.6) -/

/-- Sections 12.1 and 12.6: a yes/no byte. -/
def ByteIs {n : Nat} (b : BitVec n) (o : Nat) (x : Bool) : Prop := getField b o 1 = marker x

/-- Sections 12.1 and 12.6: the six rights, in class order. -/
def RightsAt {n : Nat} (b : BitVec n) (o : Nat) (r : PerClass Rights) : Prop :=
  ∀ c : InitClass, getField b (o + c.code) 1 =
    match r.get c with
    | .none => 0
    | .read => 1
    | .readWrite => 2

/-- Sections 12.1 and 12.6: the code of a role. -/
def roleCode : Role → Nat
  | .plain => 0 | .control => 1 | .report => 2 | .journalA => 3 | .journalB => 4 | .price => 5 | .labelQueue => 6
  | .labelAck => 7

/-- Section 12.6: the 32 bytes of a window entry. -/
structure WindowAt {n : Nat} (b : BitVec n) (o : Nat) (w : Window) : Prop where
  enabled : ByteIs b o w.enabled
  role : getField b (o + 1) 1 = roleCode w.role
  writeProtect : ByteIs b (o + 2) w.writeProtect
  base : w.base = getField b (o + 4) 4
  limit : w.limit = getField b (o + 8) 4
  offset : w.offset = getSigned b (o + 12) 4
  rights : RightsAt b (o + 16) w.rights

/-- R63, section 12.1: a scheduled time: FFFFFFFFh is DISABLED, and 86,399 is the highest time. -/
def timeOf (n : Nat) : Option Nat := if n = 0xFFFFFFFF then none else some (min n 86399)

/-- Section 12.6, R187: the length and the sum of an image of format 1, and the fields it gives, the settings clamped; a
section that byte 15 leaves unspecified takes its factory values (sections 2.2, 4.7, 7.4, 8.1 and 9.1). -/
structure ImageHolds (b : BitVec 16384) (i : Image) : Prop where
  format : getField b 0 4 = 1
  length : getField b 4 4 % 64 = 0 ∧ 640 ≤ getField b 4 4 ∧ getField b 4 4 ≤ 2048
  sum : (List.range (getField b 4 4 / 4)).foldl (fun a k => a + getWord b (4 * k)) 0 = 0
  size : getField b 12 1 = i.size.code
  fill : i.fill = getByte b 13
  threshold : i.threshold = max (getField b 14 1) 1
  keys : i.keys = (getWord b 16, getWord b 20)
  classMap : ∀ t : Fin 16, getField b (24 + t.val) 1 = i.classMap[t].code ∨
    (getField b (24 + t.val) 1 = 0xFF ∧ i.classMap[t] = .other)
  defaults : if (getByte b 15).getLsbD 0 = true then RightsAt b 40 i.defaults
    else i.defaults = ⟨.readWrite, .readWrite, .none, .none, .none, .none⟩
  views : if (getByte b 15).getLsbD 4 = true then
      ∀ c : InitClass, getField b (46 + c.code) 1 = match i.views.get c with | .substituted => 0 | .raw => 1
    else i.views = ⟨.substituted, .substituted, .raw, .raw, .raw, .substituted⟩
  period : i.period = { p := min (max (getField b 52 2) 10) 10000,
                        c := min (getField b 54 2) (min (max (getField b 52 2) 10) 10000 - 1),
                        e := min (max (getField b 56 1) 1) 64, n := min (max (getField b 57 1) 1) 16 }
  chainSeed : i.chainSeed = getWord b 60
  schedule : if (getByte b 15).getLsbD 1 = true then
      i.schedule.closeAt = timeOf (getField b 64 4) ∧ i.schedule.exportEnd = timeOf (getField b 68 4) ∧
        i.schedule.grace = min (getField b 72 2) 3600 ∧ getField b 74 1 = i.schedule.carry.code
    else i.schedule = ⟨none, none, 300, .carry⟩
  guest : if (getByte b 15).getLsbD 2 = true then
      getField b 76 1 = i.guest.mode.code ∧ i.guest.fault = getField b 77 1 ∧ i.guest.hard = getField b 78 2 ∧
        i.guest.soft = min (getField b 80 2) (getField b 78 2) ∧ i.guest.pace = min (getField b 82 2) 255
    else i.guest = ⟨.off, 65535, 65535, 0, 0⟩
  rounds : if (getByte b 15).getLsbD 3 = true then
      i.rounds.mask = b.extractLsb' (8 * 84) 16 ∧ getField b 86 1 = (if i.rounds.mode = .oneRound then 0 else 1) ∧
        getField b 87 1 = (if i.rounds.trigger = .command then 0 else 1) ∧ i.rounds.timeout = max (getField b 88 1) 1 ∧
        i.rounds.limit = min (max (getField b 89 1) 1) 15
    else i.rounds = ⟨0xFFFF, .oneRound, .command, 10, 3⟩
  windows : ∀ k : Fin 16, WindowAt b (128 + 32 * k.val) i.windows[k]
  ranges : ∀ k : Fin 16, i.windows[k].enabled = true → ¬FailsRange i.size i.windows[k]
  laws : LawsHold i.windows

/-- R24, R185, R188: the entry that a load puts in force for one of an image's: in a journal role the write-protect flag is
on unless the bank is OPEN or CLOSING, and the WAN rights are READ while the bank is EXPORTING or VERIFIED. -/
def windowApplied (j : JournalState) (w : Window) : Window :=
  let stored := contentStored j w
  if w.enabled = true ∧
      ((w.role = .journalA ∧ (j.bankA.state = .exporting ∨ j.bankA.state = .verified)) ∨
        (w.role = .journalB ∧ (j.bankB.state = .exporting ∨ j.bankB.state = .verified))) then
    { stored with rights := { stored.rights with wan := .read } }
  else stored

/-- R123: the watch entries whose price line lies outside the DRAM range of the enabled PRICE window of a table, none where
no enabled window holds the role. -/
def leftOutside (ws : Vector Window 16) (table : List WatchEntry) : List WatchEntry :=
  table.filter (fun e => decide (∃ k : Fin 16, ws[k].enabled = true ∧ ws[k].role = .price ∧
    ¬(((ws[k].base : Int) + ws[k].offset) * 4096 ≤ e.line ∧ (e.line : Int) < ((ws[k].limit : Int) + ws[k].offset + 1) * 4096)))

/-- R54, R66, R126, R133, R185, R188, R195: what the application of an image leaves of a state `u`, whatever began it. The
bank records stand as they are, the saved WAN rights with them. -/
structure ImageApplied (i : Image) (u s : State) : Prop where
  windows : ∀ k : Fin 16, s.guard.windows[k] = windowApplied u.journal i.windows[k]
  guard : s.guard = { u.guard with
    classMap := i.classMap, defaults := i.defaults, keys := some i.keys
    windows := s.guard.windows, lock := s.guard.lock, badKeys := s.guard.badKeys }
  mem : s.mem = { u.mem with size := i.size, fill := i.fill }
  journal : s.journal = { u.journal with chainSeed := i.chainSeed }
  schedule : s.time.schedule = i.schedule
  rounds : s.label.settings = i.rounds
  views : s.price.views = i.views
  threshold : s.reports.threshold = i.threshold
  places : s.retained = { u.retained with
    recordA := rolePlace i.windows .journalA, recordB := rolePlace i.windows .journalB }
  running : s.loader.running = true
  others : s.link = u.link ∧ s.decoder = u.decoder ∧ s.day = u.day ∧ s.free = u.free ∧ s.pending = u.pending

/-- A load of this kind is in progress. -/
def withLoad (load : Load) (s : State) : State := { s with loader := { s.loader with load := load } }

/-! ### Closes -/

/-- R170, R171, R173: a close of a bank has been accepted with this grace, carry mode and timed marker: the bank is
CLOSING, DAY_CLOSING is reported, and the switch begins at once when no till is IN_TXN or the grace is 0. -/
def closeBegun (bk : Bank) (grace : Nat) (mode : CarryMode) (timed : Bool) (s : State) : State :=
  let r := getBank s.journal bk
  let closing := updateRoleWindow bk.role (fun w => { w with writeProtect := false }) (setBank bk { r with state := .closing } s)
  { reported (.dayClosing bk r.dayNumber grace mode timed) closing with
    day := { s.day with
      phase := if grace = 0 ∨ ∀ t : Fin 32, s.journal.contexts[t].state = .idle then .switching else .closing
      closingBank := some bk, carry := mode, timed := timed, grace := grace, deferred := none, retryDue := false } }

/-! ### Journal entries -/

/-- R106: an entry with these flags has been counted in the store's entry and flagged-entry counts (R104). -/
def counted (flags : Word32) (d : DayTotals) : DayTotals :=
  { d with store := { d.store with
    entries := min (d.store.entries + 1) 4294967295
    flagged := if flags &&& 0x7FFF ≠ 0 then min (d.store.flagged + 1) 4294967295 else d.store.flagged } }

/-- R76: the distance of an entry's sequence from the till's last one. -/
def seqStep (e : EntryFields) (c : TillContext) : Nat := (e.seq + 65536 - c.lastSeq) % 65536

/-- R76: an entry that is taken in sequence, or that makes the till's sequence valid. -/
def InSequence (e : EntryFields) (c : TillContext) : Prop :=
  c.seqValid = false ∨ (1 ≤ seqStep e c ∧ seqStep e c ≤ 32767)

/-- R76, R106: an entry in sequence is handled: the sequence state follows it, SEQ_GAP joins the flags at a distance above
1, and the entry is counted. -/
def HandledAs (watch : List WatchEntry) (e : EntryFields) (t : Fin 32) (c : TillContext) (d : DayTotals)
    (amount : Option Int) (flags : Word32) (price : Option Nat) (context : TillContext) (totals : DayTotals) : Prop :=
  let all := flags ||| (if c.seqValid = true ∧ 2 ≤ seqStep e c then 0x1 else 0)
  handleEntry watch e t c d =
    { amount := amount, flags := all, price := price, context := { context with seqValid := true, lastSeq := e.seq }
      totals := counted all totals }

/-- R107, R108: the totals of one till changed. -/
def onTill (t : Fin 32) (f : TillTotals → TillTotals) (d : DayTotals) : DayTotals :=
  { d with tills := vput d.tills t (f d.tills[t]) }

/-- R86: the sum of the fourteen words in bytes 0 to 55. -/
def fourteenWords (l : Line) : Word32 := (List.range 14).foldl (fun a k => a + getWord l (4 * k)) 0

/-- R84, R85, R86: the line of an accepted entry, with the fields the part owns filled and every other byte as written. -/
structure Filled (written filled : Line) (h : Handling) (cursor : Nat) (prev : Word32) : Prop where
  amount : ∀ a, h.amount = some a → filled.extractLsb' 192 64 = BitVec.ofInt 64 a
  amountKept : h.amount = none → filled.extractLsb' 192 64 = written.extractLsb' 192 64
  price : ∀ p, h.price = some p → getWord filled 12 = BitVec.ofNat 32 p
  priceKept : h.price = none → getWord filled 12 = getWord written 12
  flags : getWord filled 32 = h.flags
  index : getWord filled 36 = BitVec.ofNat 32 cursor
  chain : getWord filled 56 = prev.rotateLeft 5 ^^^ fourteenWords filled
  others : AgreeExcept filled written
    (fun j => (12 ≤ j ∧ j < 16) ∨ (24 ≤ j ∧ j < 40) ∨ (56 ≤ j ∧ j < 60))

/-- R70: a bank takes initiator entries. -/
def Admits (s : State) (bk : Bank) : Prop :=
  s.day.phase ≠ .switching ∧ (∀ o, s.journal.partWrite = .draining o → o.bank ≠ bk) ∧
    (∀ o x, s.journal.partWrite = .writing o x → o.bank ≠ bk) ∧
    (((getBank s.journal bk).state = .open ∧ (getBank s.journal bk).cursor ≠ 0) ∨ (getBank s.journal bk).state = .closing)

/-- R68: the lines of a bank's window. -/
def linesOf (s : State) (bk : Bank) : Nat :=
  match roleWindow s.guard.windows bk.role with
  | some w => (w.limit - w.base + 1) * 64
  | none => 0

/-- R92: what an accepted entry carries to its commit. -/
def carried (bk : Bank) (till : Fin 32) (e : EntryFields) (h : Handling) (cursor : Nat) (chain : Word32) : EntryCommit :=
  { bank := bk, cursor := cursor + 1, lastIndex := some cursor, running := chain, totals := h.totals, till := till
    context := h.context, index := cursor, seq := e.seq, kind := e.kindCode, flags := h.flags }

/-- R75, R92: the working state after an entry of a till has been accepted in a bank. -/
def entryTaken (bk : Bank) (till : Fin 32) (h : Handling) (chain : Word32) (s : State) : State :=
  let b := getBank s.journal bk
  setBank bk { b with
      cursor := b.cursor + 1, lastIndex := some b.cursor, running := chain, inFlight := b.inFlight + 1, totals := h.totals }
    { s with journal := { s.journal with contexts := vput s.journal.contexts till h.context } }

/-- R92: the copies an entry carries are in the retained store, and its bank's in-flight count has fallen. -/
def entryCommitted (c : EntryCommit) (s : State) : State :=
  let b := getBank s.journal c.bank
  let kept := setRetained c.bank
    { cursor := c.cursor, lastIndex := c.lastIndex, running := c.running, totals := c.totals } s
  setBank c.bank { b with inFlight := b.inFlight - 1 }
    { kept with retained := { kept.retained with contexts := vput kept.retained.contexts c.till c.context } }

/-- R91: an entry that carries a warning flag is reported. -/
def flagReported (bk : Bank) (index till seq kind : Nat) (flags : Word32) (s : State) : State :=
  if flags &&& 0x7FFF ≠ 0 then reported (.entryFlagged bk index till seq kind flags) s else s

/-! ### Entries the part writes -/

/-- R89, section 12.2: what a part-written entry holds beside its kind, index, flags and chain. -/
structure PartHolds (j : JournalState) (o : PartOrder) (entry : Line) : Prop where
  sequence : getField entry 2 2 = 0
  sale : entry.extractLsb' 64 128 = 0
  note : getWord entry 60 = 0
  index : getWord entry 36 = BitVec.ofNat 32 (getBank j o.bank).cursor
  chain : getWord entry 56 = (getBank j o.bank).running.rotateLeft 5 ^^^ fourteenWords entry
  dayOpen : o.kind = .dayOpen → getField entry 0 1 = 6 ∧ getField entry 1 1 = 0 ∧ getWord entry 4 = 0 ∧
    entry.extractLsb' 192 64 = 0 ∧ getWord entry 32 = 0x10000 ∧ getField entry 40 1 = o.bank.code ∧
    entry.extractLsb' 336 16 = BitVec.ofNat 16 (getBank j o.bank).dayNumber
  txnSuspend : o.kind = .txnSuspend → getField entry 0 1 = 8 ∧ getField entry 1 1 = o.till.val ∧
    getWord entry 4 = BitVec.ofNat 32 j.contexts[o.till].txnNo ∧
    entry.extractLsb' 192 64 = BitVec.ofInt 64 j.contexts[o.till].total.value ∧
    getWord entry 32 = (if j.contexts[o.till].total.marked then 0x11000 else 0x10000) ∧
    entry.extractLsb' 320 16 = BitVec.ofNat 16 j.contexts[o.till].list.length ∧
    entry.extractLsb' 384 64 = BitVec.ofInt 64 j.contexts[o.till].tender.value
  dayClose : o.kind = .dayClose → getField entry 0 1 = 10 ∧ getField entry 1 1 = 0 ∧ getWord entry 4 = 0 ∧
    entry.extractLsb' 192 64 = BitVec.ofInt 64 (getBank j o.bank).totals.store.net.value ∧
    getWord entry 32 = (if (getBank j o.bank).totals.store.net.marked then 0x11000 else 0x10000) ∧
    entry.extractLsb' 336 16 = BitVec.ofNat 16 (getBank j o.bank).dayNumber ∧
    getWord entry 44 = BitVec.ofNat 32 (getBank j o.bank).totals.store.entries ∧
    getWord entry 48 = BitVec.ofNat 32 (getBank j o.bank).totals.store.txns
  txnResume : o.kind = .txnResume → getField entry 0 1 = 9 ∧ getField entry 1 1 = o.till.val ∧
    getWord entry 4 = BitVec.ofNat 32 j.contexts[o.till].txnNo ∧
    entry.extractLsb' 192 64 = BitVec.ofInt 64 j.contexts[o.till].total.value ∧
    getWord entry 32 = (if j.contexts[o.till].total.marked then 0x11000 else 0x10000) ∧
    entry.extractLsb' 320 16 = BitVec.ofNat 16 j.contexts[o.till].list.length

/-- R174: the tills whose contexts are IN_TXN, ascending. -/
def openTills (s : State) : List (Fin 32) := tills.filter (fun t => decide (s.journal.contexts[t].state = .inTxn))

/-- R174: the entry at a position of the switch list. -/
def AtPosition (s : State) (bk : Bank) (p : Nat) (o : PartOrder) : Prop :=
  (∃ t, (openTills s)[p]? = some t ∧ o = ⟨bk, .txnSuspend, t⟩) ∨
  (p = (openTills s).length ∧ o = ⟨bk, .dayClose, 0⟩) ∨
  (p = (openTills s).length + 1 ∧ o = ⟨bk.other, .dayOpen, 0⟩) ∨
  (s.day.carry = .carry ∧ ∃ q t, p = (openTills s).length + 2 + q ∧ (openTills s)[q]? = some t ∧
    o = ⟨bk.other, .txnResume, t⟩)

/-- R174: the length of the switch list. -/
def listLength (s : State) : Nat :=
  match s.day.carry with
  | .carry => 2 * (openTills s).length + 2
  | .drop => (openTills s).length + 2

/-- R88, R89, R91, R92: a part-written entry has committed, in the working state and in the retained store, and the order
state is IDLE. -/
def partCommitted (o : PartOrder) (entry : Line) (s : State) : State :=
  let b := getBank s.journal o.bank
  let flags := getWord entry 32
  let store := { (counted flags b.totals).store with
    entries := if o.kind = .dayOpen then 1 else (counted flags b.totals).store.entries }
  let tills := if o.kind = .txnSuspend then
      (onTill o.till (fun x => { x with suspended := min (x.suspended + 1) 4294967295 }) b.totals).tills
    else b.totals.tills
  let totals : DayTotals := { tills := tills, store := store }
  let kept : RetainedBank := { cursor := b.cursor + 1, lastIndex := some b.cursor, running := getWord entry 56, totals := totals }
  let banked := setBank o.bank
    { b with cursor := b.cursor + 1, lastIndex := some b.cursor, running := getWord entry 56, totals := totals } s
  let idle : State := { banked with
    journal := { banked.journal with partWrite := .idle }, day := { banked.day with ordered := false } }
  flagReported o.bank b.cursor (getField entry 1 1) 0 o.kind.code flags (setRetained o.bank kept idle)

/-! ### The capture queue -/

/-- R120: after its comparison a held price line has been let go: it is RELEASED, and is handed to the Memory Port. -/
def letGone (t : Fin 64) (r : Request) (l : ReqLine) (addr : Nat) (s : State) : State :=
  let queue := s.price.queue.map (fun c => if c.stage = .reading then { c with stage := .released } else c)
  handed
    { owner := some ⟨t, 0⟩, kind := r.kind, addr := addr, mask := l.mask, data := l.data, commit := none, released := true }
    (entryReplaced t { r with lines := [{ l with stage := .handed }] }
      { s with mem := freedSlot .priceWatch s.mem, price := { s.price with access := .idle, queue := queue } })

/-- R115: the capture read of a one-line price write of the CPU is in progress at the port, and returns the line `old`. -/
structure CaptureAtPort (s : State) (t : Fin 64) (r : Request) (l : ReqLine) (c : CaptureLine) (addr : Nat)
    (w : Option (Fin 16)) (old : Line) : Prop where
  port : ∃ a, InsertedAtPort s .priceWatch a ∧ old = Memory.readLine s.mem.dram a.addr
  access : s.price.access = .captureRead
  reading : s.price.queue.find? (fun x => decide (x.stage = .reading)) = some c
  owner : c.owner = some ⟨t, 0⟩
  entry : findRequest s t = some r
  txns : TxnsDistinct s
  write : r.kind = .write ∧ r.cls = .cpu
  line : r.lines = [l]
  verdict : ∃ role i, l.verdict = some (.pass addr w role i)

/-- The watch table with the entry of an item replaced, and the item gone from withdrawal order. -/
def restaged (e : WatchEntry) (s : State) : State :=
  { s with price := { s.price with
    table := s.price.table.map (fun x => if x.item = e.item then e else x)
    withdrawals := s.price.withdrawals.filter (fun i => decide (i ≠ e.item)) } }

/-- The watch table with the entry of an item replaced. -/
def entryPut (e : WatchEntry) (s : State) : State :=
  { s with price := { s.price with table := s.price.table.map (fun x => if x.item = e.item then e else x) } }

/-- The watch table without the entry of an item, which has also left withdrawal order. -/
def retired (item : Nat) (s : State) : State :=
  { s with price := { s.price with
    table := s.price.table.filter (fun x => decide (x.item ≠ item))
    withdrawals := s.price.withdrawals.filter (fun i => decide (i ≠ item)) } }

/-- The watch entry of an item. -/
def entryOf (s : State) (item : Nat) : Option WatchEntry := s.price.table.find? (fun e => decide (e.item = item))

/-! ### Visits -/

/-- R143: whether an item of a completed record still stands for the price that was written. -/
def stillStands (z : Fin 16) (x : Nat × Nat) (e : WatchEntry) : Bool :=
  decide (e.item = x.1 ∧ e.newPrice = x.2 ∧ e.state = .staged ∧ e.zone = z ∧ e.exit = .none)

/-- R142: an item of the visit of a zone is unwritten and current. -/
def isCurrent (s : State) (z : Fin 16) (v : VisitItem) : Bool :=
  !v.written && s.price.table.any (fun e =>
    decide (e.item = v.item ∧ e.state = .staged ∧ e.zone = z ∧ e.exit = .none ∧ e.facings ≠ 0))

/-- R142: the walk reaches position `j` of the visit list: fewer than six current items stand before it. -/
def walkReaches (s : State) (z : Fin 16) (j : Nat) : Bool :=
  decide (((s.label.visit.take j).filter (isCurrent s z)).length < 6)

/-- R142: the items the walk takes, in list order, with the entries it reads. -/
def walkTakes (s : State) (z : Fin 16) : List WatchEntry :=
  ((s.label.visit.filter (isCurrent s z)).take 6).filterMap (fun v => entryOf s v.item)

/-- R142: the entries that the walk makes SHOWN, in list order: STAGED, with no facing to acknowledge. -/
def walkShows (s : State) (z : Fin 16) : List WatchEntry :=
  ((s.label.visit.zipIdx.filter (fun x => !x.1.written && walkReaches s z x.2)).filterMap
    (fun x => entryOf s x.1.item)).filter (fun e => decide (e.state = .staged ∧ e.facings = 0))

/-- R142: the state after the walk: what it reached is marked written, and the entries with no facing left are SHOWN. -/
def walked (s : State) (z : Fin 16) : State :=
  { (walkShows s z).foldl (fun x e => reported (.priceShown e.item e.newPrice e.zone e.attempts) x) s with
    price := { s.price with table := s.price.table.map (fun e =>
      if e ∈ walkShows s z then { e with state := .shown, epochSeen := false } else e) }
    label := { s.label with
      visit := s.label.visit.zipIdx.map (fun x => { x.1 with written := x.1.written || walkReaches s z x.2 }) } }

/-- R148: an acknowledgement counts for an entry. -/
def Acknowledges (a : AckFields) (e : WatchEntry) : Prop :=
  a.ok = true ∧ (e.state = .sending ∨ e.state = .staged) ∧ a.price = e.newPrice ∧ a.facing < e.facings.val

/-- R124: every facing below the facings count is in an acknowledged set. -/
def FullyAcked (b : BitVec 16) (facings : Fin 16) : Prop := ∀ k, k < facings.val → b.getLsbD k = true

/-! ### Rows whose event is not made (log entry 9) -/

/-- No control record whose code satisfies a test stands at its turn in the request, in the control window or on the
bootstrap page. -/
def RecordAbsent (s : State) (t : Fin 64) (test : Nat → Prop) : Prop :=
  ∀ k l, AtTurn s t k l .control ∨ AtTurn s t k l .bootstrap → ¬test (recordCode l.data)

/-- R88: no order can be given: one is in hand, or no enabled window holds the bank's role. -/
def OrderBarred (s : State) (bk : Bank) : Prop :=
  s.day.ordered = true ∨ s.journal.partWrite ≠ .idle ∨ roleWindow s.guard.windows bk.role = none

/-- The state does not make the event of a row. An event from outside, a period boundary, a second event and the pacing
expiry are made by being sent (log entry 2). -/
def NotMade (c : Instr) (s : State) : Prop :=
  match c with
  | .request _ => False
  | .requestStart t => ∀ r, ¬AtStart s t r
  | .journalEntry t => ∀ k l bk, ¬AtTurn s t k l (.journal bk)
  | .priceWriteCapture t => ∀ k l, ¬AtTurn s t k l .capture
  | .acknowledgement t => ∀ k l, ¬AtTurn s t k l .ack
  | .dramGrant =>
    s.mem.port ≠ .idle ∨ s.mem.hold = true ∨ (s.mem.queue = [] ∧ ∀ src a n, s.mem.slots.get src ≠ .waiting a n)
  | .passedWriteComplete => ∀ p, s.mem.port = .passed p → p.kind ≠ .write
  | .passedReadComplete => ∀ p, s.mem.port = .passed p → p.kind ≠ .read
  | .placementIssue =>
    s.reports.pending = [] ∨ roleWindow s.guard.windows .report = none ∨ s.reports.placing ≠ none ∨
      s.mem.slots.reportWriter ≠ .empty ∨
      ringFull s.reports.producer s.reports.consumer (ringCapacity s.guard.windows .report) = true
  | .placementComplete => (∀ a, ¬InsertedAtPort s .reportWriter a) ∨ s.reports.placing = none
  | .captureReadIssue =>
    captureCandidate s.price = none ∨ s.price.access ≠ .idle ∨ s.mem.slots.priceWatch ≠ .empty ∨ s.mem.hold = true ∨
      (withdrawalCandidate s.price ≠ none ∧ s.price.lastIssue = .capture)
  | .captureReadComplete => (∀ a, ¬InsertedAtPort s .priceWatch a) ∨ s.price.access ≠ .captureRead
  | .checkReadIssue =>
    withdrawalCandidate s.price = none ∨ s.price.access ≠ .idle ∨ s.mem.slots.priceWatch ≠ .empty ∨
      (captureCandidate s.price ≠ none ∧ s.mem.hold = false ∧ s.price.lastIssue = .withdrawal)
  | .checkReadComplete => (∀ a, ¬InsertedAtPort s .priceWatch a) ∨ ∀ item, s.price.access ≠ .checkRead item
  | .writeBackComplete => (∀ a, ¬InsertedAtPort s .priceWatch a) ∨ ∀ item, s.price.access ≠ .writeBack item
  | .periodBoundary => False
  | .compareEvent => s.time.compareDue = 0 ∧ s.time.inForce.c ≤ s.time.counter
  | .roundTrigger => s.time.triggerDue = 0
  | .epochBoundary => s.time.epochDue = 0
  | .secondEvent => False
  | .graceExpiry => s.day.phase ≠ .closing ∨ 0 < s.day.grace
  | .deferredCloseRetry => s.day.retryDue = false
  | .pacingExpiry => False
  | .dayOpenOrder =>
    ∀ bk, s.day.phase = .dayOpen → s.day.openBank = some bk → (getBank s.journal bk).state = .open →
      (getBank s.journal bk).cursor = 0 → OrderBarred s bk
  | .switchOrder => ∀ o, s.day.phase = .switching → switchNext s = some o → OrderBarred s o.bank
  | .partWriteIssue =>
    ∀ o, s.journal.partWrite = .draining o →
      roleWindow s.guard.windows o.bank.role = none ∨ 0 < (getBank s.journal o.bank).inFlight ∨
        s.mem.slots.journalEngine ≠ .empty
  | .partWriteCommit => (∀ a, ¬InsertedAtPort s .journalEngine a) ∨ ∀ o e, s.journal.partWrite ≠ .writing o e
  | .workRecordIssue =>
    (∀ z, s.label.zone = some z → s.label.zones[z] ≠ .queueing) ∨ roleWindow s.guard.windows .labelQueue = none ∨
      s.label.writing ≠ none ∨ s.mem.slots.labelSequencer ≠ .empty ∨ s.mem.hold = true ∨
      ringFull s.label.producer s.label.consumer (ringCapacity s.guard.windows .labelQueue) = true
  | .workRecordComplete => (∀ a, ¬InsertedAtPort s .labelSequencer a) ∨ s.label.writing = none
  | .zoneTimeout => ∀ z, s.label.zone = some z → s.label.zones[z] = .waiting → 0 < s.label.timeout
  | .imageReadComplete =>
    (∀ a, ¬InsertedAtPort s .configLoader a) ∨ s.loader.access ≠ .imageRead ∨
      ∀ o next ls e, s.loader.load ≠ .readingMemory o next ls e
  | .eepromReadComplete _ => ∀ o, s.loader.load ≠ .readingEeprom o
  | .resultLineIssue => s.loader.result = none ∨ s.loader.access ≠ .idle ∨ s.mem.slots.configLoader ≠ .empty
  | .resultLineWritten => (∀ a, ¬InsertedAtPort s .configLoader a) ∨ s.loader.access ≠ .resultWrite
  | .linkReset => False
  | .powerFailHoldBegin => s.mem.hold = true
  | .powerFailHoldEnd => s.mem.hold = false
  | .startUp _ _ _ => False
  | .ackReports t => RecordAbsent s t (fun c => c = 0x0001)
  | .setIrqThreshold t => RecordAbsent s t (fun c => c = 0x0002)
  | .queryStatus t => RecordAbsent s t (fun c => c = 0x0003)
  | .unlock t => RecordAbsent s t (fun c => c = 0x0010)
  | .setWindow t => RecordAbsent s t (fun c => c = 0x0011)
  | .setClassMap t => RecordAbsent s t (fun c => c = 0x0012)
  | .setClassDefaults t => RecordAbsent s t (fun c => c = 0x0013)
  | .dumpGuardLog t => RecordAbsent s t (fun c => c = 0x0014)
  | .clearGuardLog t => RecordAbsent s t (fun c => c = 0x0015)
  | .setTimebase t => RecordAbsent s t (fun c => c = 0x0020)
  | .setClock t => RecordAbsent s t (fun c => c = 0x0021)
  | .setSchedule t => RecordAbsent s t (fun c => c = 0x0022)
  | .queryTotals t => RecordAbsent s t (fun c => c = 0x0030)
  | .setPriceView t => RecordAbsent s t (fun c => c = 0x0040)
  | .forceEffective t => RecordAbsent s t (fun c => c = 0x0041)
  | .withdrawPrice t => RecordAbsent s t (fun c => c = 0x0042)
  | .queryWatch t => RecordAbsent s t (fun c => c = 0x0043)
  | .setRounds t => RecordAbsent s t (fun c => c = 0x0050)
  | .startRound t => RecordAbsent s t (fun c => c = 0x0051)
  | .stopRound t => RecordAbsent s t (fun c => c = 0x0052)
  | .setGuestBudget t => RecordAbsent s t (fun c => c = 0x0060)
  | .clearGuestLatch t => RecordAbsent s t (fun c => c = 0x0061)
  | .openDay t => RecordAbsent s t (fun c => c = 0x0070)
  | .closeDay t => RecordAbsent s t (fun c => c = 0x0071)
  | .closeNow t => RecordAbsent s t (fun c => c = 0x0072)
  | .exportBegin t => RecordAbsent s t (fun c => c = 0x0073)
  | .exportComplete t => RecordAbsent s t (fun c => c = 0x0074)
  | .exportAbort t => RecordAbsent s t (fun c => c = 0x0075)
  | .reloadConfig t => RecordAbsent s t (fun c => c = 0x0080)
  | .loadConfig t => RecordAbsent s t (fun c => c = 0x0081)
  | .unknownCommand t => RecordAbsent s t (fun c => codeDefined c = false)
  | .retainedSupplyLost => False

end Sys2Proof.Safety
end

