-- ==== Sys2Proof/WellFormed.lean ====
section
/-! DEFINITION. Which commands the link can carry: a write request brings one mask and data per line and a read
request brings none (section 1.1). Every other bound of an operand is in its type. -/

namespace Sys2Proof

/-- The number of lines of a request, 1 to 4 (section 1.1: "the field holds 0 to 3"). -/
def LinkRequest.nLines (r : LinkRequest) : Nat := r.count.val + 1

/-- A write carries a mask and data for each line, a read carries none (section 1.1). -/
def LinkRequest.wellFormed (r : LinkRequest) : Bool :=
  match r.kind with
  | .write => r.lines.length == r.nLines
  | .read => r.lines.isEmpty

/-- A command that can stand in the queue. -/
def Instr.wellFormed : Instr → Bool
  | .request r => r.wellFormed
  | _ => true

end Sys2Proof
end

