-- ==== Sys2Proof/Certificates/Slice0/Obligations.lean ====
section
/-! DEFINITION. The statements for the provers. Each docstring names the rules of spec/ that the statement formalises, or
the log entry of the model's choice that it rests on. -/

open Sys2Proof Sys2Proof.Machine Sys2Proof.Safety

/-! ### The block as a whole -/

/-- The queue of waiting commands is first in, first out: a step runs the command at its front (the steps of
95_what_each_step_holds.md are "each whole and indivisible"). -/
def Obligations.StepRunsFrontCommand : Prop :=
  ∀ (c : Instr) (rest : List Instr) (s : State), s.pending = c :: rest → step s = exec c { s with pending := rest }

/-- THE MODEL'S CHOICE (log entry 2): with no command waiting and no event due, a step lets one microsecond of the
reference clock pass; each thousandth is a tick (section 4.1). -/
def Obligations.EmptyQueueLetsTimePass : Prop :=
  ∀ s : State, s.pending = [] → NothingDue s → s.guest.queue = [] →
    (s.time.micros < 999 →
      step s = .next { s with
        time := { s.time with micros := s.time.micros + 1 }
        guest := { s.guest with timer := min (s.guest.timer + 1) 255 } }) ∧
    (s.time.micros = 999 → s.time.millis < 999 → s.time.counter + 1 < s.time.inForce.p →
      step s = .next { s with
        time := { s.time with
          micros := 0, millis := s.time.millis + 1, counter := s.time.counter + 1
          compareDue := if s.time.counter + 1 = s.time.inForce.c then 1 else 0 }
        guest := { s.guest with timer := min (s.guest.timer + 1) 255 } })

/-- No command ends in a fault or a refusal. THE MODEL'S CHOICE (log entry 9): a row sent in a state that does not make its
event, row by row as `NotMade` says, changes nothing. -/
def Obligations.EveryCommandAnswersNextState : Prop :=
  (∀ (c : Instr) (s : State), ∃ s', exec c s = .next s') ∧ ∀ (c : Instr) (s : State), NotMade c s → exec c s = .next s

/-- The DRAM keeps its canonical form. -/
def Obligations.EveryStepKeepsMemoryCanonical : Prop :=
  ∀ s s' : State, MemoryCanonical s → step s = .next s' → MemoryCanonical s'

/-- R1, R2, R12, R14, R26, R48, R113, R123, R158: the tables and queues keep their bounds (`Bounded`), no two outstanding
requests have the same transaction number, no two watch entries the same item code, and every line that is held, handed
over or still to be captured is tracked (`LinesTracked`). -/
def Obligations.EveryStepKeepsBounds : Prop :=
  ∀ s s' : State, Bounded s ∧ TxnsDistinct s ∧ ItemsDistinct s ∧ LinesTracked s → step s = .next s' →
    Bounded s' ∧ TxnsDistinct s' ∧ ItemsDistinct s' ∧ LinesTracked s'

/-- R18, R24: the window table keeps its three laws, and the write-protect flag of each journal window mirrors the state
of its bank. -/
def Obligations.EveryStepKeepsWindowsSound : Prop :=
  ∀ s s' : State, WindowsSound s → step s = .next s' → WindowsSound s'

/-- The invariants hold after reset. -/
def Obligations.ResetMeetsInvariants : Prop :=
  MemoryCanonical State.reset ∧ Bounded State.reset ∧ TxnsDistinct State.reset ∧ ItemsDistinct State.reset ∧
    LinesTracked State.reset ∧ WindowsSound State.reset

/-- R3, R12, R14: no command but the six at whose end a write to DRAM completes changes DRAM. That START_UP is among the
others is the model's choice (log entry 11). -/
def Obligations.DramChangesOnlyWhereWritesComplete : Prop :=
  ∀ (c : Instr) (s s' : State), c ≠ .passedWriteComplete → c ≠ .placementComplete → c ≠ .writeBackComplete →
    c ≠ .partWriteCommit → c ≠ .workRecordComplete → c ≠ .resultLineWritten → exec c s = .next s' →
      s'.mem.dram = s.mem.dram

/-! ### Memory Port -/

/-- R12, R14: when a write completes, the bytes its mask selects are in DRAM, no other byte changes, and the port is
IDLE. -/
def Obligations.CompletedWriteStoresMaskedBytes : Prop :=
  ∀ (c : Instr) (s : State) (addr : Nat) (mask : Mask) (data : Line), MemoryCanonical s → WriteAtPort c s addr mask data →
    ∃ s', exec c s = .next s' ∧ s'.mem.port = .idle ∧
      ∀ x, Memory.read s'.mem.dram x =
        if addr ≤ x ∧ x < addr + 64 ∧ mask.getLsbD (x - addr) = true then data.extractLsb' (8 * (x - addr)) 8
        else Memory.read s.mem.dram x

/-- R2, R12, R13: a passed read that no block substitutes or observes is GOOD with the 64 bytes DRAM holds; the
completion is sent, with the statuses and data in line order, exactly when no line of the request is left PENDING. -/
def Obligations.PlainReadDeliversDram : Prop :=
  ∀ (s : State) (p : PassedLine) (t : Fin 64) (k : Nat) (r : Request) (l : ReqLine) (addr : Nat) (w : Option (Fin 16))
    (role : Role) (i : Nat),
    s.mem.port = .passed p → p.kind = .read → p.owner = some ⟨t, k⟩ → findRequest s t = some r → r.kind = .read →
    r.lines[k]? = some l → l.verdict = some (.pass addr w role i) → (role = .price → r.view = .raw) →
    ¬(r.cls = .label ∧ role = .labelQueue) → ¬(r.cls = .wan ∧ (role = .journalA ∨ role = .journalB)) →
    ∃ d : Line, (∀ j, j < 64 → d.extractLsb' (8 * j) 8 = Memory.read s.mem.dram (p.addr + j)) ∧
      ((∀ x ∈ r.lines.modify k (fun x => { x with outcome := .good, delivered := d }), x.outcome ≠ .pending) →
        exec .passedReadComplete s = .next { s with
          mem := idlePort s.mem
          link := { requests := s.link.requests.filter (fun q => decide (q.txn ≠ t))
                    completions := s.link.completions ++ [⟨t, .taken
                      ((r.lines.modify k (fun x => { x with outcome := .good, delivered := d })).map (fun x => x.outcome))
                      ((r.lines.modify k (fun x => { x with outcome := .good, delivered := d })).map
                        (fun x => x.delivered))⟩] } }) ∧
      ((∃ x ∈ r.lines.modify k (fun x => { x with outcome := .good, delivered := d }), x.outcome = .pending) →
        exec .passedReadComplete s = .next { s with
          mem := idlePort s.mem
          link := { s.link with requests := s.link.requests.map (fun q => if q.txn = t then
            { q with lines := q.lines.modify k (fun x => { x with outcome := .good, delivered := d }) } else q) } })

/-- R125: in the SUBSTITUTED view a read of the PRICE window delivers the old price of the item's watch entry with the
pending flag set, or the flag cleared where the item has none; every other byte is as DRAM holds it, and DRAM does not
change. -/
def Obligations.TillViewSubstitutesOldPrice : Prop :=
  ∀ (s : State) (t : Fin 64) (r : Request) (addr i : Nat), LoneReadAtPort s t r addr .price i → r.view = .substituted →
    ∃ d : Line, exec .passedReadComplete s = .next (loneReadDone t d s) ∧
      (∀ e, s.price.table.find? (fun e => decide (e.item = getField (Memory.readLine s.mem.dram addr) 0 4)) = some e →
        e.oldPrice ≤ 9999999 → getField d 4 4 = e.oldPrice ∧ getField d 11 1 = 1 ∧
          AgreeExcept d (Memory.readLine s.mem.dram addr) (fun j => j = 4 ∨ j = 5 ∨ j = 6 ∨ j = 7 ∨ j = 11)) ∧
      (s.price.table.find? (fun e => decide (e.item = getField (Memory.readLine s.mem.dram addr) 0 4)) = none →
        getField d 11 1 = 0 ∧ AgreeExcept d (Memory.readLine s.mem.dram addr) (fun j => j = 11))

/-- R147: a LABEL-class read of the slot the consumer index names advances it by one, modulo the capacity, unless the
queue is empty; a read of any other slot, and every read of an empty queue, advances nothing. -/
def Obligations.LabelReadAdvancesConsumer : Prop :=
  ∀ (s : State) (t : Fin 64) (r : Request) (addr i : Nat) (w : Window), LoneReadAtPort s t r addr .labelQueue i →
    r.cls = .label → roleWindow s.guard.windows .labelQueue = some w →
    (s.label.producer ≠ s.label.consumer ∧ addr = w.dramFirst.toNat * 4096 + s.label.consumer * 64 →
      exec .passedReadComplete s = .next (loneReadDone t (Memory.readLine s.mem.dram addr) { s with
        label := { s.label with consumer :=
          if s.label.consumer + 1 ≥ min ((w.limit - w.base + 1) * 64) 4096 then 0 else s.label.consumer + 1 } })) ∧
    (s.label.producer = s.label.consumer ∨ addr ≠ w.dramFirst.toNat * 4096 + s.label.consumer * 64 →
      exec .passedReadComplete s = .next (loneReadDone t (Memory.readLine s.mem.dram addr) s))

/-- R179, R180, R181: a WAN-class read of the line at the export cursor of an EXPORTING bank checks its chain: it
advances the export, verifies the bank at its last entry, or ends the export with EXPORT_MISMATCH; a read of another line
or of a bank in another state changes nothing. -/
def Obligations.ExportReadChecksChain : Prop :=
  ∀ (s : State) (t : Fin 64) (r : Request) (addr i : Nat) (bk : Bank), LoneReadAtPort s t r addr bk.role i →
    r.cls = .wan →
    ((getBank s.journal bk).state ≠ .exporting ∨ i ≠ (getBank s.journal bk).exportCursor →
      exec .passedReadComplete s = .next (loneReadDone t (Memory.readLine s.mem.dram addr) s)) ∧
    ((getBank s.journal bk).state = .exporting → i = (getBank s.journal bk).exportCursor →
      chainOf (getBank s.journal bk).exportChain (Memory.readLine s.mem.dram addr) =
        getWord (Memory.readLine s.mem.dram addr) 56 →
      ∀ last, (getBank s.journal bk).lastIndex = some last →
      (i < last → exec .passedReadComplete s = .next (loneReadDone t (Memory.readLine s.mem.dram addr)
        (setBank bk { getBank s.journal bk with
          exportChain := getWord (Memory.readLine s.mem.dram addr) 56, exportCursor := i + 1 } s))) ∧
      (last ≤ i → exec .passedReadComplete s = .next (loneReadDone t (Memory.readLine s.mem.dram addr)
        (reported (.exportVerified bk (getBank s.journal bk).dayNumber (i + 1)
          (getWord (Memory.readLine s.mem.dram addr) 56))
          (setBankState bk .verified (setBank bk { getBank s.journal bk with
            exportChain := getWord (Memory.readLine s.mem.dram addr) 56, exportCursor := i + 1 } s)))))) ∧
    ((getBank s.journal bk).state = .exporting → i = (getBank s.journal bk).exportCursor →
      chainOf (getBank s.journal bk).exportChain (Memory.readLine s.mem.dram addr) ≠
        getWord (Memory.readLine s.mem.dram addr) 56 →
      exec .passedReadComplete s = .next (loneReadDone t (Memory.readLine s.mem.dram addr)
        (setBankState bk .closed (setWanRights bk (getBank s.journal bk).savedWan
          (reported (.exportMismatch bk i (chainOf (getBank s.journal bk).exportChain (Memory.readLine s.mem.dram addr))
            (getWord (Memory.readLine s.mem.dram addr) 56)) s)))))

/-- R15, R17: a grant goes to the passed line at the head of the queue unless the queue is empty or some slot has waited
for 8; an inserted grant goes to the first WAITING slot in cyclic order after the source last granted. With the port BUSY,
with nothing waiting, and during the hold, none is made. -/
def Obligations.GrantFollowsQueueAndWaitCounts : Prop :=
  ∀ s : State,
    (s.mem.port ≠ .idle ∨ s.mem.hold = true ∨ (s.mem.queue = [] ∧ ∀ src a n, s.mem.slots.get src ≠ .waiting a n) →
      exec .dramGrant s = .next s) ∧
    (∀ p rest, s.mem.port = .idle → s.mem.hold = false → s.mem.queue = p :: rest →
      (∀ src a n, s.mem.slots.get src = .waiting a n → n < 8) →
      ∃ slots : PerSource Slot, exec .dramGrant s = .next { s with
          mem := { s.mem with port := .passed p, queue := rest, slots := slots } } ∧
        ∀ src, slots.get src = match s.mem.slots.get src with
          | .waiting a n => .waiting a (n + 1)
          | x => x) ∧
    (∀ src a n, s.mem.port = .idle → s.mem.hold = false →
      (s.mem.queue = [] ∨ ∃ x b, s.mem.slots.get x = .waiting b 8) → s.mem.slots.get src = .waiting a n →
      (∀ x, x ∈ s.mem.lastGranted.after.takeWhile (fun x => decide (x ≠ src)) → ∀ b m, s.mem.slots.get x ≠ .waiting b m) →
      a.addr < s.mem.size.bytes →
      exec .dramGrant s = .next { s with
        mem := { s.mem with port := .inserted src, slots := s.mem.slots.put src (.granted a), lastGranted := src } })

/-- R17, R197: at the beginning of the hold every QUEUED or JUDGED request is answered RETRY and removed, and every
WAITING slot is emptied, its access kept to be issued again; at its end those accesses are issued again with count 0. An
edge while the part is in the state it calls for changes nothing. THE MODEL'S CHOICE (log entry 21): the RETRY answers go
out in the order the requests were taken. -/
def Obligations.HoldAbandonsAndReissues : Prop :=
  ∀ s : State,
    (s.mem.hold = true → exec .powerFailHoldBegin s = .next s) ∧
    (s.mem.hold = false → exec .powerFailHoldEnd s = .next s) ∧
    (s.mem.hold = false → TxnsDistinct s → ∃ (slots : PerSource Slot) (kept : PerSource (Option Access)),
      exec .powerFailHoldBegin s = .next { s with
        link := { requests := s.link.requests.filter (fun r => decide (r.progress = .active))
                  completions := s.link.completions ++
                    (s.link.requests.filter (fun r => decide (r.progress ≠ .active))).map (fun r => ⟨r.txn, .retry⟩) }
        mem := { s.mem with
          hold := true, selfRefresh := decide (s.mem.port = .idle), slots := slots, abandoned := kept } } ∧
      ∀ src,
        (∀ a n, s.mem.slots.get src = .waiting a n → slots.get src = .empty ∧ kept.get src = some a) ∧
        ((∀ a n, s.mem.slots.get src ≠ .waiting a n) → slots.get src = s.mem.slots.get src ∧ kept.get src = none)) ∧
    (s.mem.hold = true → ∃ slots : PerSource Slot,
      exec .powerFailHoldEnd s = .next { s with
        mem := { s.mem with hold := false, selfRefresh := false, slots := slots, abandoned := ⟨none, none, none, none, none⟩ } } ∧
      ∀ src,
        (∀ a, s.mem.abandoned.get src = some a → slots.get src = .waiting a 0) ∧
        (s.mem.abandoned.get src = none → slots.get src = s.mem.slots.get src))

/-- R16, R30, R121, R149, R164: what a link reset drops, and what it keeps. -/
def Obligations.LinkResetDropsRequests : Prop :=
  ∀ s : State, ∃ s', exec .linkReset s = .next s' ∧
    s'.link = { s.link with requests := [] } ∧
    s'.guard = { s.guard with lock := if s.guard.lock = .open then .locked else s.guard.lock } ∧
    s'.guest = { s.guest with queue := [] } ∧
    s'.decoder = s.decoder ∧ s'.time = s.time ∧ s'.journal = s.journal ∧ s'.day = s.day ∧ s'.loader = s.loader ∧
    s'.retained = s.retained ∧
    s'.mem.dram = s.mem.dram ∧ s'.mem.size = s.mem.size ∧ s'.mem.fill = s.mem.fill ∧ s'.mem.hold = s.mem.hold ∧
    s'.mem.lastGranted = s.mem.lastGranted ∧
    s'.mem.queue = (s.mem.queue.filter (fun p => decide (p.kind = .write))).map (fun p => { p with owner := none }) ∧
    s'.mem.port = (match s.mem.port with
      | .passed p => .passed { p with owner := none }
      | x => x) ∧
    s'.mem.slots.reportWriter = s.mem.slots.reportWriter ∧ s'.mem.slots.journalEngine = s.mem.slots.journalEngine ∧
    s'.mem.slots.configLoader = s.mem.slots.configLoader ∧
    (∀ a n, s.mem.slots.labelSequencer = .waiting a n →
      s'.mem.slots.labelSequencer = .empty ∧ s'.label.writing = none) ∧
    (∀ a, s.mem.slots.labelSequencer = .granted a → s'.mem.slots.labelSequencer = .granted a) ∧
    (∀ a n, s.mem.slots.priceWatch = .waiting a n → s.price.access = .captureRead →
      s'.mem.slots.priceWatch = .empty ∧ s'.price.access = .idle) ∧
    (∀ a, s.mem.slots.priceWatch = .granted a ∨ s.price.access ≠ .captureRead →
      s'.mem.slots.priceWatch = s.mem.slots.priceWatch ∧ s'.price.access = s.price.access) ∧
    s'.price.queue = (s.price.queue.filter (fun c => decide (c.stage = .released))).map (fun c => { c with owner := none }) ∧
    s'.price.withdrawals = s.price.withdrawals ∧
    s'.price.table = s.price.table.map (fun e =>
      if e.item ∈ s.label.awaited ∧ e.state = .sending ∧ s.label.round ≠ .idle then { e with state := .staged } else e) ∧
    s'.label = { s.label with
      round := .idle, zone := none, visit := [], awaited := [], writing := s'.label.writing } ∧
    (s.label.round = .idle ∨ s.label.zone = none → s'.reports = s.reports) ∧
    (s.label.round ≠ .idle → s.label.zone ≠ none →
      s'.reports = (reported (.roundDone s.label.number s.label.visited true) s).reports)

/-! ### Link Port and Window Guard -/

/-- R1, R2: when an arriving request is answered RETRY, and the entry that a taken one is given. -/
def Obligations.RequestTakenOrAnsweredRetry : Prop :=
  ∀ (q : LinkRequest) (s : State), q.wellFormed = true →
    let dropped := fun p : PassedLine => decide (p.kind = .write ∧ p.owner = none)
    let lines := (s.link.requests.map (fun r => r.lines.length)).sum + (s.mem.queue.filter dropped).length +
      (match s.mem.port with | .passed p => if dropped p then 1 else 0 | _ => 0) + (q.count.val + 1)
    let refused := s.mem.hold = true ∨ 32 ≤ s.link.requests.length ∨ (∃ r ∈ s.link.requests, r.txn = q.txn) ∨ 128 < lines
    (refused → exec (.request q) s =
      .next { s with link := { s.link with completions := s.link.completions ++ [⟨q.txn, .retry⟩] } }) ∧
    (¬refused → ∃ r : Request, exec (.request q) s = .next { s with
        link := { s.link with requests := s.link.requests ++ [r] } } ∧
      r.txn = q.txn ∧ r.tag = q.tag ∧ r.kind = q.kind ∧ r.progress = .queued ∧ r.captureReserved = 0 ∧
      r.deferralReserved = false ∧ r.lines.length = q.count.val + 1 ∧
      ∀ (k : Nat) (l : ReqLine), r.lines[k]? = some l →
        l.bus = (q.addr.toNat / 64 * 64 + 64 * k) % 4294967296 ∧ l.verdict = none ∧ l.outcome = .pending ∧
        (q.kind = .write → ∃ w, q.lines[k]? = some w ∧ l.mask = w.mask ∧ l.data = w.data))

/-- R4, R5, R6, R7, R10, R126: a request that starts takes its class from the initiator map, its view from the price views
and the verdict of each line from the guard's tables and the installed size, and nothing else of it changes. Where the places it needs are not free it is answered RETRY; where its first line is for a stage-4 handler it is
JUDGED and waits; a lone line that passes is handed to the Memory Port, and a lone refused line is recorded. -/
def Obligations.RequestStartJudgesAndPasses : Prop :=
  ∀ (s : State) (t : Fin 64) (r : Request), AtStart s t r →
    (judgeRequest s r = { r with
      cls := s.guard.classMap[r.tag]
      view := s.price.views.get s.guard.classMap[r.tag]
      lines := r.lines.map (fun l => { l with
        verdict := some (judgeLine s.guard s.mem.size s.guard.classMap[r.tag] r.kind l.bus) }) }) ∧
    (¬PlacesFree s (judgeRequest s r) → exec (.requestStart t) s = .next { s with
      link := { requests := s.link.requests.filter (fun q => decide (q.txn ≠ t))
                completions := s.link.completions ++ [⟨t, .retry⟩] } }) ∧
    (PlacesFree s (judgeRequest s r) → ∀ l rest, (judgeRequest s r).lines = l :: rest → l.outcome = .pending →
      l.stage = .awaitsTurn → (handlerOf s.loader.running (judgeRequest s r) l).isSome = true →
      exec (.requestStart t) s = .next (entryReplaced t { judgeRequest s r with
        progress := .judged, captureReserved := captureNeed (judgeRequest s r)
        deferralReserved := deferralNeed (judgeRequest s r) } s)) ∧
    (PlacesFree s (judgeRequest s r) → s.guard.classMap[r.tag] ≠ .guest → ∀ l, (judgeRequest s r).lines = [l] →
      l.outcome = .pending → l.stage = .awaitsTurn → handlerOf s.loader.running (judgeRequest s r) l = none →
      (∀ addr w role i, l.verdict = some (.pass addr w role i) →
        exec (.requestStart t) s = .next (handed
          { owner := some ⟨t, 0⟩, kind := r.kind, addr := addr, mask := l.mask, data := l.data, commit := none
            released := false }
          (entryReplaced t { judgeRequest s r with
            progress := .active, lines := [{ l with stage := .handed }]
            captureReserved := captureNeed (judgeRequest s r)
            deferralReserved := deferralNeed (judgeRequest s r) } s))) ∧
      (∀ cause w, l.verdict = some (.refuse cause w) →
        exec (.requestStart t) s =
          .next (logRefusal (refusalOf (judgeRequest s r) l cause w) (refusedTaken t r.kind s))))

/-- R11, R19, R21, R22, R23: the verdict on a line, test by test, from the window that holds its bus page or from the class
default of a line in no window, where the window table keeps its three laws. -/
def Obligations.VerdictAppliesTestsInOrder : Prop :=
  ∀ (g : GuardState) (size : DramSize) (cls : InitClass) (kind : AccessKind) (bus : Nat), tableLaws g.windows = true →
    (∀ i : Fin 16, g.windows[i].enabled = true → g.windows[i].base ≤ bus / 4096 → bus / 4096 ≤ g.windows[i].limit →
      judgeLine g size cls kind bus =
        if ((bus / 4096 : Nat) : Int) + g.windows[i].offset < 0 ∨
            size.bytes ≤ (((bus / 4096 : Nat) : Int) + g.windows[i].offset).toNat * 4096 + bus % 4096 then
          .refuse .outOfRange (some i)
        else if kind = .write ∧ (g.windows[i].role = .journalA ∨ g.windows[i].role = .journalB) ∧ cls ≠ .cpu then
          .refuse .notJournalWriter (some i)
        else if g.windows[i].rights.get cls = .none ∨ (kind = .write ∧ g.windows[i].rights.get cls = .read) then
          .refuse .noRight (some i)
        else if kind = .write ∧ g.windows[i].writeProtect = true then .refuse .writeProtect (some i)
        else .pass ((((bus / 4096 : Nat) : Int) + g.windows[i].offset).toNat * 4096 + bus % 4096) (some i) g.windows[i].role
          ((bus / 4096 - g.windows[i].base) * 64 + bus % 4096 / 64)) ∧
    ((∀ i : Fin 16, ¬(g.windows[i].enabled = true ∧ g.windows[i].base ≤ bus / 4096 ∧ bus / 4096 ≤ g.windows[i].limit)) →
      (size.bytes ≤ bus → judgeLine g size cls kind bus = .refuse .outOfRange none) ∧
      (bus < size.bytes → ∀ i : Fin 16, g.windows[i].enabled = true → g.windows[i].role ≠ .plain →
        (g.windows[i].base : Int) + g.windows[i].offset ≤ ((bus / 4096 : Nat) : Int) →
        ((bus / 4096 : Nat) : Int) ≤ g.windows[i].limit + g.windows[i].offset →
        judgeLine g size cls kind bus = .refuse .noRight none) ∧
      (bus < size.bytes →
        (∀ i : Fin 16, g.windows[i].enabled = true → g.windows[i].role ≠ .plain →
          ¬((g.windows[i].base : Int) + g.windows[i].offset ≤ ((bus / 4096 : Nat) : Int) ∧
            ((bus / 4096 : Nat) : Int) ≤ g.windows[i].limit + g.windows[i].offset)) →
        judgeLine g size cls kind bus =
          if g.defaults.get cls = .none ∨ (kind = .write ∧ g.defaults.get cls = .read) then .refuse .noRight none
          else .pass bus none .plain 0))

/-- R9, R154, R155, R156, R157, R158, R162: the judgement of a GUEST request of `n` passing lines that starts. A SET latch
refuses it; behind an entry of its tag it FOLLOWs; under OFF it is served; above the hard budget it waits for the PERIOD
under CYCLE, and under LATCHED sets the latch, which refuses the deferral queue from head to tail and then the request; at
the soft budget it waits for the PACE, unless the queue is empty and the pacing timer has reached the pace; otherwise it is
served. R10, R161: a lone line that its verdict refuses counts a violation, and at the fault threshold sets the latch. -/
def Obligations.GuestRequestJudgedInOrder : Prop :=
  (∀ (s : State) (t : Fin 64) (r : Request),
    AtStart s t r → PlacesFree s (judgeRequest s r) → s.guard.classMap[r.tag] = .guest →
    1 ≤ r.lines.length → r.lines.length ≤ 4 →
    (∀ l ∈ (judgeRequest s r).lines, l.outcome = .pending ∧ l.stage = .awaitsTurn ∧
      ∃ addr w role i, l.verdict = some (.pass addr w role i)) →
    let started : Request := { judgeRequest s r with progress := .active, captureReserved := 0, deferralReserved := false }
    let waiting (s : State) : State := entryReplaced t
      { started with lines := started.lines.map (fun l => { l with stage := .awaitsGuest }) } s
    let n := r.lines.length
    let deferred (c : DeferCond) : State :=
      waiting { s with guest := { s.guest with queue := s.guest.queue ++ [⟨t, r.tag, n, c⟩] } }
    (s.guest.latch ≠ none → exec (.requestStart t) s = .next (latchedWhole t started s)) ∧
    (s.guest.latch = none → (∃ e ∈ s.guest.queue, e.tag = r.tag) → exec (.requestStart t) s = .next (deferred .follow)) ∧
    (s.guest.latch = none → (∀ e ∈ s.guest.queue, e.tag ≠ r.tag) →
      (s.guest.inForce.mode = .off → exec (.requestStart t) s = .next (servedWhole t started s)) ∧
      (s.guest.inForce.mode = .cycle → s.guest.inForce.hard < s.guest.usage + n →
        exec (.requestStart t) s = .next (deferred .period)) ∧
      (s.guest.inForce.mode = .latched → s.guest.inForce.hard < s.guest.usage + n →
        ∀ xs, QueueIs s xs → (∀ x ∈ xs, x.1.txn ≠ t) →
        exec (.requestStart t) s = .next (latchedWhole t started (latchSet .budget xs s))) ∧
      (s.guest.inForce.mode ≠ .off → s.guest.usage + n ≤ s.guest.inForce.hard →
        (s.guest.usage < s.guest.inForce.soft → exec (.requestStart t) s = .next (servedWhole t started s)) ∧
        (s.guest.inForce.soft ≤ s.guest.usage → s.guest.timer < s.guest.inForce.pace ∨ s.guest.queue ≠ [] →
          exec (.requestStart t) s = .next (deferred .pace)) ∧
        (s.guest.inForce.soft ≤ s.guest.usage → s.guest.inForce.pace ≤ s.guest.timer → s.guest.queue = [] →
          exec (.requestStart t) s = .next (servedWhole t started s))))) ∧
  ∀ (s : State) (t : Fin 64) (r : Request) (l : ReqLine) (cause : Cause) (w : Option (Fin 16)),
    AtStart s t r → PlacesFree s (judgeRequest s r) → s.guard.classMap[r.tag] = .guest →
    (judgeRequest s r).lines = [l] → l.outcome = .pending → l.stage = .awaitsTurn → l.verdict = some (.refuse cause w) →
    let violations := min (s.guest.violations + 1) 65535
    let refused : State := { logRefusal (refusalOf (judgeRequest s r) l cause w) (refusedTaken t r.kind s) with
      guest := { s.guest with violations := violations } }
    (s.guest.inForce.fault = 0 ∨ violations < s.guest.inForce.fault ∨ s.guest.latch ≠ none →
      exec (.requestStart t) s = .next refused) ∧
    (0 < s.guest.inForce.fault → s.guest.inForce.fault ≤ violations → s.guest.latch = none →
      ∀ xs, QueueIs s xs → (∀ x ∈ xs, x.1.txn ≠ t) →
      exec (.requestStart t) s = .next (latchSet .guardFault xs refused))

/-! ### Report Writer -/

/-- R14, R47, R49, R51, R53, R55, R199: with a report pending, a REPORT window enabled, the ring not full and the slot EMPTY, the head
report is issued to the slot of the producer index with the phase and the OVERFLOW_BEFORE marker, and the overflow flag is
cleared. When its write completes the head report leaves the queue, the producer index advances, the phase changes if it
went back to 0, and IRQ_N is re-evaluated; a placement whose ring was changed meanwhile leaves head and indices alone, and so
does one beyond the installed size, which stores nothing. A record holds the fields of section 12.5 and its report's
payload, coded as section 12.1 lists, and 0 in every other byte. -/
def Obligations.PlacementIssuedAndCompleted : Prop :=
  (∀ (s : State) (h : Report) (rest : List Report) (w : Window), s.reports.pending = h :: rest →
    roleWindow s.guard.windows .report = some w → s.reports.placing = none → s.mem.slots.reportWriter = .empty →
    (if s.reports.producer + 1 ≥ reportCapacity s then 0 else s.reports.producer + 1) ≠ s.reports.consumer →
    let record := reportLine h s.reports.phase (s.reports.overflow || s.reports.headMarked)
    let issued : Access := ⟨.write, w.dramFirst.toNat * 4096 + s.reports.producer * 64, fullMask, record⟩
    exec .placementIssue s = .next { s with
      mem := { s.mem with slots := { s.mem.slots with reportWriter := .waiting issued 0 } }
      reports := { s.reports with
        placing := some ⟨true⟩, overflow := false, headMarked := s.reports.overflow || s.reports.headMarked } }) ∧
  (∀ (s : State) (h : Report) (rest : List Report) (a : Access), InsertedAtPort s .reportWriter a →
    s.reports.pending = h :: rest → s.reports.placing = some ⟨true⟩ →
    let next := if s.reports.producer + 1 ≥ reportCapacity s then 0 else s.reports.producer + 1
    exec .placementComplete s = .next { s with
      mem := { freedSlot .reportWriter s.mem with dram := Memory.writeLine s.mem.dram a.addr a.mask a.data }
      reports := { s.reports with
        placing := none, pending := rest, headMarked := false, producer := next
        phase := if next = 0 then !s.reports.phase else s.reports.phase
        irq := decide (reportCapacity s ≠ 0) && decide (min s.reports.threshold (reportCapacity s - 1) ≤
          (next + reportCapacity s - s.reports.consumer) % reportCapacity s) } }) ∧
  (∀ (s : State) (a : Access), InsertedAtPort s .reportWriter a → s.reports.placing = some ⟨false⟩ →
    exec .placementComplete s = .next { s with
      mem := { freedSlot .reportWriter s.mem with dram := Memory.writeLine s.mem.dram a.addr a.mask a.data }
      reports := { s.reports with placing := none } }) ∧
  (∀ (s : State) (a : Access) (n : Nat), s.mem.port = .idle → s.mem.hold = false → s.mem.queue = [] →
    s.mem.slots.reportWriter = .waiting a n → (∀ src b m, src ≠ .reportWriter → s.mem.slots.get src ≠ .waiting b m) →
    s.mem.size.bytes ≤ a.addr → s.reports.placing = some ⟨false⟩ →
    exec .dramGrant s = .next { s with
      mem := { freedSlot .reportWriter s.mem with lastGranted := .reportWriter }
      reports := { s.reports with placing := none } }) ∧
  (∀ (r : Report) (phase before : Bool), HoldsFields (reportLine r phase before) (reportFields r phase before)) ∧
  CodesAsListed

/-! ### Commands of the control window

`CarriesOut` and `Refuses` say of every line at its turn with the command's code: the record is taken, its owner acts with
the effect given, the answer follows, and the line passes. -/

/-- R32, R41: a protected command is refused with LOCKED while the lock is LOCKED and with BARRED while it is BARRED,
whatever its arguments. -/
def Obligations.ProtectedCommandsNeedOpenLock : Prop :=
  ∀ x ∈ protectedCommands, ∀ (t : Fin 64) (s : State) (k : Nat) (l : ReqLine), AtTurn s t k l .control →
    recordCode l.data = x.2 →
    (s.guard.lock = .locked → ∃ s', exec (x.1 t) s = .next s' ∧
      RecordPasses t k l (answered l.data (some .locked) (recordTaken s)) s') ∧
    (s.guard.lock = .barred → ∃ s', exec (x.1 t) s = .next s' ∧
      RecordPasses t k l (answered l.data (some .barred) (recordTaken s)) s')

/-- R41, R191: a record with an undefined code is refused with UNKNOWN_COMMAND, in the control window and on the bootstrap
page. On that page every defined command but the two loads is refused with WRONG_STATE; none is counted there, and the
lock is not consulted. -/
def Obligations.UndefinedAndBootstrapCommandsRefused : Prop :=
  (∀ (t : Fin 64) (s : State) (k : Nat) (l : ReqLine), codeDefined (recordCode l.data) = false →
    (AtTurn s t k l .control → ∃ s', exec (.unknownCommand t) s = .next s' ∧
      RecordPasses t k l (answered l.data (some .unknownCommand) (recordTaken s)) s') ∧
    (AtTurn s t k l .bootstrap → ∃ s', exec (.unknownCommand t) s = .next s' ∧
      RecordPasses t k l (bootAnswered l.data .refused (some .unknownCommand) s) s')) ∧
  ∀ x ∈ controlCommands, ∀ (t : Fin 64) (s : State) (k : Nat) (l : ReqLine), AtTurn s t k l .bootstrap →
    recordCode l.data = x.2 → ∃ s', exec (x.1 t) s = .next s' ∧
      RecordPasses t k l (bootAnswered l.data .refused (some .wrongState) s) s'

/-- R52, R53, R54: the consumer index and the interrupt threshold, and the interrupt output after each. -/
def Obligations.ReportRingCommands : Prop :=
  CarriesOut .ackReports 0x0001
    (fun l s => getField l 4 2 < reportCapacity s ∧
      (getField l 4 2 + reportCapacity s - s.reports.consumer) % reportCapacity s ≤
        (s.reports.producer + reportCapacity s - s.reports.consumer) % reportCapacity s)
    (fun l s => { s with reports := { s.reports with
      consumer := getField l 4 2
      irq := decide (min s.reports.threshold (reportCapacity s - 1) ≤
        (s.reports.producer + reportCapacity s - getField l 4 2) % reportCapacity s) } }) ∧
  Refuses .ackReports 0x0001 (fun _ s => roleWindow s.guard.windows .report = none) .wrongState (fun _ s => s) ∧
  Refuses .ackReports 0x0001
    (fun l s => reportCapacity s ≠ 0 ∧ (reportCapacity s ≤ getField l 4 2 ∨
      (s.reports.producer + reportCapacity s - s.reports.consumer) % reportCapacity s <
        (getField l 4 2 + reportCapacity s - s.reports.consumer) % reportCapacity s)) .badArg (fun _ s => s) ∧
  CarriesOut .setIrqThreshold 0x0002 (fun _ _ => True)
    (fun l s => { s with reports := { s.reports with
      threshold := max (getField l 4 1) 1
      irq := decide (reportCapacity s ≠ 0) && decide (min (max (getField l 4 1) 1) (reportCapacity s - 1) ≤
        (s.reports.producer + reportCapacity s - s.reports.consumer) % reportCapacity s) } })

/-- R45, R110, R131: the three queries report what stands as they are taken, and change nothing else. That a STATUS shows
the taken count and the lock as the taking of its own record left them is DEDUCED (log entry 12). -/
def Obligations.QueriesReportStateAsItStands : Prop :=
  CarriesOut .queryStatus 0x0003 (fun _ _ => True)
    (fun _ s => reported (.status
      { lock := s.guard.lock, badKeys := s.guard.badKeys, logCount := s.guard.log.length, size := s.mem.size
        dayPhase := s.day.phase
        stateA := s.journal.bankA.state, dayA := s.journal.bankA.dayNumber
        stateB := s.journal.bankB.state, dayB := s.journal.bankB.dayNumber
        clock := s.time.clock, seconds := s.time.seconds
        period := s.time.inForce.p, e := s.time.inForce.e, n := s.time.inForce.n
        watchCount := s.price.table.length, captureCount := s.price.queue.length
        round := s.label.round, roundNumber := s.label.number
        guestMode := s.guest.inForce.mode, latch := s.guest.latch, usage := s.guest.usage
        deferralCount := s.guest.queue.length
        producer := s.reports.producer, consumer := s.reports.consumer, phase := s.reports.phase
        capacity := reportCapacity s
        pendingCount := s.reports.pending.length, overflow := s.reports.overflow, threshold := s.reports.threshold
        taken := s.decoder.taken, refused := s.decoder.refused }) s) ∧
  (∀ (bk : Bank) (till : Fin 32), CarriesOut .queryTotals 0x0030
    (fun l _ => getField l 4 1 = bk.code ∧ getField l 5 1 = till.val)
    (fun _ s => reported (.totalsTill bk till (getBank s.journal bk).totals.tills[till]) s)) ∧
  (∀ bk : Bank, CarriesOut .queryTotals 0x0030 (fun l _ => getField l 4 1 = bk.code ∧ getField l 5 1 = 0xFF)
    (fun _ s => reported (.totalsStore bk (getBank s.journal bk).totals.store) s)) ∧
  Refuses .queryTotals 0x0030 (fun l _ => 2 ≤ getField l 4 1 ∨ (32 ≤ getField l 5 1 ∧ getField l 5 1 ≠ 0xFF)) .badArg
    (fun _ s => s) ∧
  (∀ (e : WatchEntry) (i : Nat), CarriesOut .queryWatch 0x0043
    (fun l s => s.price.table[i]? = some e ∧ e.item = getField l 4 4 ∧ ItemsDistinct s)
    (fun l s => reported (.watch (getField l 4 4) (some (e, i))) s)) ∧
  CarriesOut .queryWatch 0x0043 (fun l s => ∀ e ∈ s.price.table, e.item ≠ getField l 4 4)
    (fun l s => reported (.watch (getField l 4 4) none) s)

/-- R28, R29: DUMP_GUARD_LOG reports every entry, newest first, with a dump marker of 1, and leaves the log; neither is
protected. CLEAR_GUARD_LOG empties the log, and the next refusal recorded in an empty log is pushed with its report. -/
def Obligations.GuardLogDumpAndClear : Prop :=
  codeProtected 0x0014 = false ∧ codeProtected 0x0015 = false ∧
  CarriesOut .dumpGuardLog 0x0014 (fun _ _ => True)
    (fun _ s => s.guard.log.foldl (fun x e => reported (.guard e true) x) s) ∧
  CarriesOut .clearGuardLog 0x0015 (fun _ _ => True) (fun _ s => { s with guard := { s.guard with log := [] } }) ∧
  ∀ (e : GuardEntry) (s : State), s.guard.log = [] →
    logRefusal e s = reported (.guard e false) { s with guard := { s.guard with log := [e] } }

/-- R31: UNLOCK with the key pair opens a lock that is not BARRED and sets the bad-key count to 0; with any other values it
counts a bad key, and the third bars the lock; a BARRED lock refuses every UNLOCK. -/
def Obligations.UnlockJudgesTheKeyPair : Prop :=
  CarriesOut .unlock 0x0010
    (fun l s => s.guard.lock ≠ .barred ∧ s.guard.keys = some (getWord l 4, getWord l 8))
    (fun _ s => { s with guard := { s.guard with lock := .open, badKeys := 0 } }) ∧
  Refuses .unlock 0x0010
    (fun l s => s.guard.lock ≠ .barred ∧ s.guard.keys ≠ some (getWord l 4, getWord l 8)) .badKey
    (fun _ s => { s with guard := { s.guard with
      badKeys := s.guard.badKeys + 1, lock := if 3 ≤ s.guard.badKeys + 1 then .barred else .locked } }) ∧
  Refuses .unlock 0x0010 (fun _ s => s.guard.lock = .barred) .barred (fun _ s => s)

/-- R20, R24, R34, R37, R195: an accepted SET_WINDOW, whatever the old and the new entry are, replaces the one entry; in a
journal role its write-protect is that of the bank's state; where the old or the new entry is an enabled journal window the
journal window record is brought up to date; and where the window of REPORT or of LABEL_QUEUE is set, moved or disabled,
its ring starts afresh (R51, R146). -/
def Obligations.SetWindowReplacesEntry : Prop :=
  (∀ (i : Fin 16) (w : Window), CarriesOut .setWindow 0x0011
    (fun l s => getField l 4 1 = i.val ∧ readWindow l 8 = some w ∧ editRefusal s i w = none ∧ 1 ≤ s.reports.threshold)
    (fun _ s => entryEdited i w s)) ∧
  (∀ (ws : Vector Window 16) (role : Role) (p : Option WindowPlace), LawsHold ws → role ≠ .plain →
    (rolePlace ws role = p ↔ PlaceIs ws role p)) ∧
  (∀ (i : Fin 16) (w : Window), CarriesOut .setWindow 0x0011
    (fun l s => getField l 4 1 = i.val ∧ readWindow l 8 = some w ∧ editRefusal s i w = none ∧
      (s.guard.windows[i].enabled = true → s.guard.windows[i].role.bank = none ∧ s.guard.windows[i].role ≠ .report ∧
        s.guard.windows[i].role ≠ .labelQueue) ∧
      (w.enabled = true → w.role.bank = none ∧ w.role ≠ .report ∧ w.role ≠ .labelQueue))
    (fun _ s => { s with guard := { s.guard with windows := vput s.guard.windows i w } })) ∧
  (∀ (i : Fin 16) (w : Window) (bk : Bank), CarriesOut .setWindow 0x0011
    (fun l s => getField l 4 1 = i.val ∧ readWindow l 8 = some w ∧ editRefusal s i w = none ∧
      s.guard.windows[i].enabled = false ∧ w.enabled = true ∧ w.role = bk.role)
    (fun _ s =>
      let protect := decide ((getBank s.journal bk).state ≠ .open ∧ (getBank s.journal bk).state ≠ .closing)
      let ws := vput s.guard.windows i { w with writeProtect := protect }
      { s with
        guard := { s.guard with windows := ws }
        retained := { s.retained with recordA := rolePlace ws .journalA, recordB := rolePlace ws .journalB } })) ∧
  (∀ (i : Fin 16) (w : Window), CarriesOut .setWindow 0x0011
    (fun l s => getField l 4 1 = i.val ∧ readWindow l 8 = some w ∧ editRefusal s i w = none ∧
      s.guard.windows[i].enabled = false ∧ w.enabled = true ∧ w.role = .labelQueue)
    (fun _ s => { s with
      guard := { s.guard with windows := vput s.guard.windows i w }
      label := { s.label with
        producer := 0, consumer := 0, phase := true
        writing := s.label.writing.map (fun x => { x with inRing := false }) } })) ∧
  (∀ (i : Fin 16) (w : Window), CarriesOut .setWindow 0x0011
    (fun l s => getField l 4 1 = i.val ∧ readWindow l 8 = some w ∧ editRefusal s i w = none ∧
      s.guard.windows[i].enabled = false ∧ w.enabled = true ∧ w.role = .report ∧ 1 ≤ s.reports.threshold)
    (fun _ s => { s with
      guard := { s.guard with windows := vput s.guard.windows i w }
      reports := { s.reports with
        producer := 0, consumer := 0, phase := true, irq := false
        placing := s.reports.placing.map (fun _ => ⟨false⟩) } }))

/-- R34, R35, R36, R198: SET_WINDOW answers with the first refusal that applies, and then changes nothing. The new entry is
read from bytes 8 to 39 as section 12.6 lays them out; an undefined code in it is BAD_ARG. -/
def Obligations.SetWindowRefusedByFirstCheck : Prop :=
  (∀ (l : Line) (w : Window), readWindow l 8 = some w ↔ WindowAt l 8 w) ∧
  Refuses .setWindow 0x0011 (fun l _ => 16 ≤ getField l 4 1 ∨ readWindow l 8 = none) .badArg (fun _ s => s) ∧
  ∀ (i : Fin 16) (w : Window) (c : RefusalCode), Refuses .setWindow 0x0011
    (fun l s => getField l 4 1 = i.val ∧ readWindow l 8 = some w ∧ editRefusal s i w = some c) c (fun _ s => s)

/-- R38, R39, R126: each replaces its table as a whole; an undefined code refuses it with BAD_ARG. -/
def Obligations.ClassTablesReplacedWhole : Prop :=
  (∀ m : Vector InitClass 16, CarriesOut .setClassMap 0x0012
    (fun l _ => ∀ i : Fin 16, InitClass.ofCode (getField l (4 + i.val) 1) = some m[i])
    (fun _ s => { s with guard := { s.guard with classMap := m } })) ∧
  Refuses .setClassMap 0x0012 (fun l _ => ∃ i : Fin 16, 6 ≤ getField l (4 + i.val) 1) .badArg (fun _ s => s) ∧
  (∀ r : PerClass Rights, CarriesOut .setClassDefaults 0x0013
    (fun l _ => Rights.ofCode (getField l 4 1) = some r.cpu ∧ Rights.ofCode (getField l 5 1) = some r.lan ∧
      Rights.ofCode (getField l 6 1) = some r.guest ∧ Rights.ofCode (getField l 7 1) = some r.label ∧
      Rights.ofCode (getField l 8 1) = some r.wan ∧ Rights.ofCode (getField l 9 1) = some r.other)
    (fun _ s => { s with guard := { s.guard with defaults := r } })) ∧
  Refuses .setClassDefaults 0x0013 (fun l _ => ∃ i, i < 6 ∧ 3 ≤ getField l (4 + i) 1) .badArg (fun _ s => s) ∧
  (∀ (c : InitClass) (v : PriceView), CarriesOut .setPriceView 0x0040
    (fun l _ => getField l 4 1 = c.code ∧ PriceView.ofCode (getField l 5 1) = some v)
    (fun _ s => { s with price := { s.price with views := s.price.views.put c v } })) ∧
  Refuses .setPriceView 0x0040 (fun l _ => 6 ≤ getField l 4 1 ∨ 2 ≤ getField l 5 1) .badArg (fun _ s => s)

/-- R60, R62, R63: the period settings are clamped and staged; the clock is set with its millisecond count at 0; the
schedule is clamped and replaced, unless its carry mode is undefined. -/
def Obligations.TimeSettingsClampedAndTaken : Prop :=
  CarriesOut .setTimebase 0x0020 (fun _ _ => True)
    (fun l s =>
      let staged : PeriodSettings :=
      { p := min (max (getField l 4 2) 10) 10000, c := min (getField l 6 2) (min (max (getField l 4 2) 10) 10000 - 1)
        e := min (max (getField l 8 1) 1) 64, n := min (max (getField l 9 1) 1) 16 }
      { s with time := { s.time with staged := some staged } }) ∧
  CarriesOut .setClock 0x0021 (fun _ _ => True)
    (fun l s => { s with time := { s.time with seconds := min (getField l 4 4) 86399, millis := 0, clock := .set } }) ∧
  (∀ mode : CarryMode, CarriesOut .setSchedule 0x0022 (fun l _ => getField l 14 1 = mode.code)
    (fun l s =>
      let schedule : Schedule :=
      { closeAt := if getField l 4 4 = 0xFFFFFFFF then none else some (min (getField l 4 4) 86399)
        exportEnd := if getField l 8 4 = 0xFFFFFFFF then none else some (min (getField l 8 4) 86399)
        grace := min (getField l 12 2) 3600, carry := mode }
      { s with time := { s.time with schedule := schedule } })) ∧
  Refuses .setSchedule 0x0022 (fun l _ => 2 ≤ getField l 14 1) .badArg (fun _ s => s)

/-- R128, R129: FORCE_EFFECTIVE removes an entry whose exit marker is NONE with PRICE_EFFECTIVE, and a visit no longer
awaits its item (R144); WITHDRAW_PRICE gives such an entry the marker WITHDRAW and the end of withdrawal order. THE MODEL'S
CHOICE (log entries 24 and 26): the reports of a visit that the removal ends come after PRICE_EFFECTIVE and before CMD_DONE. -/
def Obligations.PriceEntriesForcedAndWithdrawn : Prop :=
  (∀ e : WatchEntry, CarriesOut .forceEffective 0x0041
    (fun l s => s.price.table.find? (fun x => decide (x.item = getField l 4 4)) = some e ∧ e.exit = .none)
    (fun _ s => leaveAwaited e.item false (reported (.priceEffective e.item e.oldPrice e.newPrice true) { s with
      price := { s.price with
        table := s.price.table.filter (fun x => decide (x.item ≠ e.item))
        withdrawals := s.price.withdrawals.filter (fun i => decide (i ≠ e.item)) } }))) ∧
  (∀ (item : Nat) (b : Bool) (s : State), item ∉ s.label.awaited → leaveAwaited item b s = s) ∧
  Refuses .forceEffective 0x0041 (fun l s => ∀ e ∈ s.price.table, e.item ≠ getField l 4 4) .notFound (fun _ s => s) ∧
  (∀ e : WatchEntry, Refuses .forceEffective 0x0041
    (fun l s => s.price.table.find? (fun x => decide (x.item = getField l 4 4)) = some e ∧ e.exit ≠ .none) .wrongState
    (fun _ s => s)) ∧
  (∀ e : WatchEntry, CarriesOut .withdrawPrice 0x0042
    (fun l s => s.price.table.find? (fun x => decide (x.item = getField l 4 4)) = some e ∧ e.exit = .none)
    (fun _ s => { s with price := { s.price with
      table := s.price.table.map (fun x => if x.item = e.item then { x with exit := .withdraw } else x)
      withdrawals := s.price.withdrawals ++ [e.item] } })) ∧
  Refuses .withdrawPrice 0x0042 (fun l s => ∀ e ∈ s.price.table, e.item ≠ getField l 4 4) .notFound (fun _ s => s) ∧
  (∀ e : WatchEntry, Refuses .withdrawPrice 0x0042
    (fun l s => s.price.table.find? (fun x => decide (x.item = getField l 4 4)) = some e ∧ e.exit = .withdraw) .busy
    (fun _ s => s)) ∧
  (∀ (e : WatchEntry) (a : Nat), Refuses .withdrawPrice 0x0042
    (fun l s => s.price.table.find? (fun x => decide (x.item = getField l 4 4)) = some e ∧ e.exit = .afterWrite a)
    .wrongState (fun _ s => s))

/-- R134, R136, R140: the round settings are taken in IDLE alone; a round is started by command in IDLE with a LABEL_QUEUE
window; STOP_ROUND stops a round in progress after its visit and a resting one at once. -/
def Obligations.RoundCommandsJudgedByRoundState : Prop :=
  (∀ (mode : RoundMode) (trigger : RoundTrigger), CarriesOut .setRounds 0x0050
    (fun l s => s.label.round = .idle ∧ RoundMode.ofCode (getField l 6 1) = some mode ∧
      RoundTrigger.ofCode (getField l 7 1) = some trigger)
    (fun l s =>
      let settings : RoundSettings :=
      { mask := BitVec.ofNat 16 (getField l 4 2), mode := mode, trigger := trigger
        timeout := max (getField l 8 1) 1, limit := min (max (getField l 9 1) 1) 15 }
      { s with label := { s.label with settings := settings } })) ∧
  Refuses .setRounds 0x0050 (fun _ s => s.label.round ≠ .idle) .busy (fun _ s => s) ∧
  Refuses .setRounds 0x0050 (fun l s => s.label.round = .idle ∧ (2 ≤ getField l 6 1 ∨ 2 ≤ getField l 7 1)) .badArg
    (fun _ s => s) ∧
  CarriesOut .startRound 0x0051
    (fun _ s => s.label.settings.trigger = .command ∧ s.label.round = .idle ∧
      ∃ i : Fin 16, s.guard.windows[i].enabled = true ∧ s.guard.windows[i].role = .labelQueue)
    (fun _ s => startRound s) ∧
  Refuses .startRound 0x0051 (fun _ s => s.label.settings.trigger = .timebase) .wrongState (fun _ s => s) ∧
  Refuses .startRound 0x0051 (fun _ s => s.label.settings.trigger = .command ∧ s.label.round ≠ .idle) .busy
    (fun _ s => s) ∧
  Refuses .startRound 0x0051
    (fun _ s => s.label.settings.trigger = .command ∧ s.label.round = .idle ∧
      ∀ i : Fin 16, s.guard.windows[i].enabled = true → s.guard.windows[i].role ≠ .labelQueue) .notFound (fun _ s => s) ∧
  CarriesOut .stopRound 0x0052 (fun _ s => s.label.round = .running ∧ s.label.zone ≠ none)
    (fun _ s => { s with label := { s.label with round := .stopping } }) ∧
  CarriesOut .stopRound 0x0052 (fun _ s => s.label.round = .running ∧ s.label.zone = none)
    (fun _ s => { s with label := { s.label with round := .idle } }) ∧
  CarriesOut .stopRound 0x0052 (fun _ s => s.label.round ≠ .running) (fun _ s => s)

/-- R136, R138, R141: a round that starts takes the next number and opens the visit of the lowest enabled zone with staged
work, the enabled zones below it having ended at once; with no such zone the round ends at once, and rests under
CONTINUOUS. A visit that ends while the round is RUNNING opens the visit of the next such zone still STANDBY, or ends the
round in the same way. -/
def Obligations.RoundVisitsLowestZoneWithWork : Prop :=
  (∀ (s : State) (now : Fin 16), s.label.zone = some now → s.label.round = .running →
    let after := vput s.label.zones now .done
    let due (z : Fin 16) : Bool := s.label.settings.mask.getLsbD z.val && decide (after[z] = .standby)
    let work (z : Fin 16) : Prop := due z = true ∧ ∃ e ∈ s.price.table, e.state = .staged ∧ e.zone = z ∧ e.exit = .none
    (∀ z : Fin 16, work z → (∀ y : Fin 16, y < z → ¬work y) →
      ∃ l, endVisit s = { s with label := l } ∧
        l = { s.label with
          zone := some z, awaited := [], sent := 0, shown := 0, timedOut := 0, timeout := 0, recordNo := 0
          visited := s.label.visited + 1 + (sixteen.filter (fun y => decide (y < z) && due y)).length, zones := l.zones
          visit := (s.price.table.filter (fun e => decide (e.state = .staged ∧ e.zone = z ∧ e.exit = .none))).map
            (fun e => ⟨e.item, false⟩) } ∧
        ∀ y : Fin 16, l.zones[y] = if y = z then .queueing else if y < z ∧ due y = true then .done else after[y]) ∧
    ((∀ z : Fin 16, ¬work z) →
      ∃ l, endVisit s = { reported (.roundDone s.label.number (s.label.visited + 1 + (sixteen.filter due).length) false) s with
          label := l } ∧
        l.number = s.label.number ∧ l.zone = none ∧ l.settings = s.label.settings ∧
        l.round = (if s.label.settings.mode = .oneRound then .idle else .running) ∧ l.producer = s.label.producer ∧
        l.consumer = s.label.consumer ∧ l.phase = s.label.phase ∧ l.writing = s.label.writing ∧
        ∀ y : Fin 16, l.zones[y] = if due y = true then .done else after[y])) ∧
  ∀ s : State,
    let work (z : Fin 16) : Prop := s.label.settings.mask.getLsbD z.val = true ∧
      ∃ e ∈ s.price.table, e.state = .staged ∧ e.zone = z ∧ e.exit = .none
    (∀ z : Fin 16, work z → (∀ y : Fin 16, y < z → ¬work y) →
      ∃ l, startRound s = { s with label := l } ∧
        l = { s.label with
          number := (s.label.number + 1) % 256, round := .running, zone := some z, awaited := [], sent := 0, shown := 0
          timedOut := 0, timeout := 0, recordNo := 0, visited := l.visited, zones := l.zones
          visit := (s.price.table.filter (fun e => decide (e.state = .staged ∧ e.zone = z ∧ e.exit = .none))).map
            (fun e => ⟨e.item, false⟩) } ∧
        l.visited = (sixteen.filter (fun y => decide (y < z) && s.label.settings.mask.getLsbD y.val)).length ∧
        ∀ y : Fin 16, l.zones[y] =
          if y = z then .queueing
          else if y < z ∧ s.label.settings.mask.getLsbD y.val = true then .done else .standby) ∧
    ((∀ z : Fin 16, ¬work z) →
      ∃ l, startRound s = { reported (.roundDone ((s.label.number + 1) % 256)
          (sixteen.filter (fun y => s.label.settings.mask.getLsbD y.val)).length false) s with label := l } ∧
        l.number = (s.label.number + 1) % 256 ∧ l.zone = none ∧ l.settings = s.label.settings ∧
        l.round = (if s.label.settings.mode = .oneRound then .idle else .running) ∧ l.producer = s.label.producer ∧
        l.consumer = s.label.consumer ∧ l.phase = s.label.phase ∧ l.writing = s.label.writing)

/-- R153, R163: SET_GUEST_BUDGET clamps and stages the settings, unless its mode is undefined; CLEAR_GUEST_LATCH clears a
SET latch with GUEST_CLEARED carrying U, and changes nothing where the latch is CLEAR. -/
def Obligations.GuestBudgetStagedAndLatchCleared : Prop :=
  (∀ mode : GuestMode, CarriesOut .setGuestBudget 0x0060 (fun l _ => getField l 4 1 = mode.code)
    (fun l s =>
      let staged : GuestSettings :=
      { mode := mode, hard := getField l 6 2, soft := min (getField l 8 2) (getField l 6 2)
        pace := min (getField l 10 2) 255, fault := getField l 5 1 }
      { s with guest := { s.guest with staged := some staged } })) ∧
  Refuses .setGuestBudget 0x0060 (fun l _ => 3 ≤ getField l 4 1) .badArg (fun _ s => s) ∧
  CarriesOut .clearGuestLatch 0x0061 (fun _ s => s.guest.latch ≠ none)
    (fun _ s => reported (.guestCleared s.guest.usage) { s with guest := { s.guest with latch := none } }) ∧
  CarriesOut .clearGuestLatch 0x0061 (fun _ s => s.guest.latch = none) (fun _ s => s)

/-- R68, R69, R167, R168: OPEN_DAY opens the named bank in NO_DAY with both banks IDLE and both windows in place, and is
refused by the first condition it does not meet. -/
def Obligations.OpenDayOpensNamedBank : Prop :=
  (∀ bk : Bank, CarriesOut .openDay 0x0070
    (fun l s => getField l 4 1 = bk.code ∧ s.day.phase = .noDay ∧ s.journal.bankA.state = .idle ∧
      s.journal.bankB.state = .idle ∧ hasJournalWindow s .a = true ∧ hasJournalWindow s .b = true)
    (fun l s =>
      let seed := match s.journal.carried with | some c => c | none => s.journal.chainSeed
      let r := getBank s.journal bk
      let opened := setRetained bk { cursor := 0, lastIndex := none, running := seed, totals := r.totals }
        (updateRoleWindow bk.role (fun w => { w with writeProtect := false })
          (setBank bk { r with
            state := .open, dayNumber := getField l 6 2, seed := seed, cursor := 0, lastIndex := none, running := seed
            fullMarker := false } s))
      { opened with day := { s.day with phase := .dayOpen, openBank := some bk } })) ∧
  Refuses .openDay 0x0070 (fun l _ => 2 ≤ getField l 4 1) .badArg (fun _ s => s) ∧
  Refuses .openDay 0x0070
    (fun l s => getField l 4 1 < 2 ∧
      (s.day.phase ≠ .noDay ∨ s.journal.bankA.state ≠ .idle ∨ s.journal.bankB.state ≠ .idle)) .wrongState (fun _ s => s) ∧
  Refuses .openDay 0x0070
    (fun l s => getField l 4 1 < 2 ∧ s.day.phase = .noDay ∧ s.journal.bankA.state = .idle ∧ s.journal.bankB.state = .idle ∧
      (hasJournalWindow s .a = false ∨ hasJournalWindow s .b = false)) .notFound (fun _ s => s)

/-- R167, R170, R172, R173: CLOSE_DAY closes the open bank in DAY_OPEN when the other bank can follow, and begins the switch
at once when no till is IN_TXN or the grace is 0; CLOSE_NOW ends the grace of a close in progress. -/
def Obligations.CloseDayAndCloseNow : Prop :=
  (∀ (bk : Bank) (mode : CarryMode), CarriesOut .closeDay 0x0071
    (fun l s => getField l 6 1 = mode.code ∧ s.day.phase = .dayOpen ∧ s.day.openBank = some bk ∧
      (getBank s.journal bk).cursor ≠ 0 ∧ (getBank s.journal bk.other).state = .idle ∧
      hasJournalWindow s bk.other = true)
    (fun l s => closeBegun bk (min (getField l 4 2) 3600) mode false s)) ∧
  Refuses .closeDay 0x0071 (fun l _ => 2 ≤ getField l 6 1) .badArg (fun _ s => s) ∧
  Refuses .closeDay 0x0071 (fun l s => getField l 6 1 < 2 ∧ s.day.phase = .noDay) .wrongState (fun _ s => s) ∧
  Refuses .closeDay 0x0071 (fun l s => getField l 6 1 < 2 ∧ (s.day.phase = .closing ∨ s.day.phase = .switching)) .busy
    (fun _ s => s) ∧
  (∀ bk : Bank,
    Refuses .closeDay 0x0071
      (fun l s => getField l 6 1 < 2 ∧ s.day.phase = .dayOpen ∧ s.day.openBank = some bk ∧
        (getBank s.journal bk).cursor = 0) .wrongState (fun _ s => s) ∧
    Refuses .closeDay 0x0071
      (fun l s => getField l 6 1 < 2 ∧ s.day.phase = .dayOpen ∧ s.day.openBank = some bk ∧
        (getBank s.journal bk).cursor ≠ 0 ∧ (getBank s.journal bk.other).state ≠ .idle) .otherBankBusy (fun _ s => s) ∧
    Refuses .closeDay 0x0071
      (fun l s => getField l 6 1 < 2 ∧ s.day.phase = .dayOpen ∧ s.day.openBank = some bk ∧
        (getBank s.journal bk).cursor ≠ 0 ∧ (getBank s.journal bk.other).state = .idle ∧
        hasJournalWindow s bk.other = false) .notFound (fun _ s => s)) ∧
  CarriesOut .closeNow 0x0072 (fun _ s => s.day.phase = .closing)
    (fun _ s => { s with day := { s.day with phase := .switching, grace := 0 } }) ∧
  Refuses .closeNow 0x0072 (fun _ s => s.day.phase ≠ .closing) .wrongState (fun _ s => s)

/-- R25, R167, R178, R182, R183: the export commands, by the state of the bank they name: the WAN rights that are lent and
given back, the export fields, the totals that a completed export clears, and the refusals. -/
def Obligations.ExportCommandsLendAndRestoreRights : Prop :=
  (∀ bk : Bank,
    CarriesOut .exportBegin 0x0073
      (fun l s => getField l 4 1 = bk.code ∧ (getBank s.journal bk).state = .closed ∧ hasJournalWindow s bk = true)
      (fun _ s =>
        let r := getBank s.journal bk
        let saved := ((roleWindow s.guard.windows bk.role).getD Window.disabled).rights.wan
        updateRoleWindow bk.role (fun w => { w with rights := { w.rights with wan := .read }, writeProtect := true })
          (setBank bk { r with state := .exporting, savedWan := saved, exportCursor := 0, exportChain := r.seed } s)) ∧
    CarriesOut .exportComplete 0x0074
      (fun l s => getField l 4 1 = bk.code ∧ (getBank s.journal bk).state = .verified)
      (fun _ s =>
        let r := getBank s.journal bk
        updateRoleWindow bk.role (fun w => { w with rights := { w.rights with wan := r.savedWan }, writeProtect := true })
          (setRetained bk { cursor := r.cursor, lastIndex := r.lastIndex, running := r.running, totals := {} }
            (setBank bk { r with state := .idle, totals := {} } s))) ∧
    CarriesOut .exportAbort 0x0075
      (fun l s => getField l 4 1 = bk.code ∧
        ((getBank s.journal bk).state = .exporting ∨ (getBank s.journal bk).state = .verified))
      (fun _ s =>
        let r := getBank s.journal bk
        updateRoleWindow bk.role (fun w => { w with rights := { w.rights with wan := r.savedWan }, writeProtect := true })
          (setBank bk { r with state := .closed } s)) ∧
    Refuses .exportBegin 0x0073 (fun l s => getField l 4 1 = bk.code ∧ (getBank s.journal bk).state ≠ .closed) .wrongState
      (fun _ s => s) ∧
    Refuses .exportBegin 0x0073
      (fun l s => getField l 4 1 = bk.code ∧ (getBank s.journal bk).state = .closed ∧ hasJournalWindow s bk = false)
      .notFound (fun _ s => s) ∧
    Refuses .exportComplete 0x0074 (fun l s => getField l 4 1 = bk.code ∧ (getBank s.journal bk).state = .exporting)
      .notVerified (fun _ s => s) ∧
    Refuses .exportComplete 0x0074
      (fun l s => getField l 4 1 = bk.code ∧ (getBank s.journal bk).state ≠ .exporting ∧
        (getBank s.journal bk).state ≠ .verified) .wrongState (fun _ s => s) ∧
    Refuses .exportAbort 0x0075
      (fun l s => getField l 4 1 = bk.code ∧ (getBank s.journal bk).state ≠ .exporting ∧
        (getBank s.journal bk).state ≠ .verified) .wrongState (fun _ s => s)) ∧
  Refuses .exportBegin 0x0073 (fun l _ => 2 ≤ getField l 4 1) .badArg (fun _ s => s) ∧
  Refuses .exportComplete 0x0074 (fun l _ => 2 ≤ getField l 4 1) .badArg (fun _ s => s) ∧
  Refuses .exportAbort 0x0075 (fun l _ => 2 ≤ getField l 4 1) .badArg (fun _ s => s)

/-- R41, R191, R192, R193: the two loads. From the control window RELOAD_CONFIG begins an EEPROM load when none is in
progress and the day, the banks and the round admit it, and LOAD_CONFIG is refused; from the bootstrap page either begins
its load unless one is in progress or the image's address is at or beyond 256 MiB. -/
def Obligations.LoadCommandsBeginLoads : Prop :=
  let barred (s : State) : Prop := s.day.phase = .closing ∨ s.day.phase = .switching ∨ s.label.round ≠ .idle ∨
    ∃ bk : Bank, s.day.openBank ≠ some bk ∧ (getBank s.journal bk).state ≠ .idle
  CarriesOut .reloadConfig 0x0080 (fun _ s => s.loader.load = .idle ∧ ¬barred s)
    (fun l s => { s with loader := { s.loader with load := .readingEeprom ⟨false, recordCode l, recordCookie l⟩ } }) ∧
  Refuses .reloadConfig 0x0080 (fun _ s => s.loader.load ≠ .idle) .busy (fun _ s => s) ∧
  Refuses .reloadConfig 0x0080 (fun _ s => s.loader.load = .idle ∧ barred s) .wrongState (fun _ s => s) ∧
  Refuses .loadConfig 0x0081 (fun _ _ => True) .wrongState (fun _ s => s) ∧
  (∀ (t : Fin 64) (s : State) (k : Nat) (l : ReqLine), AtTurn s t k l .bootstrap → recordCode l.data = 0x0080 →
    (s.loader.load ≠ .idle → ∃ s', exec (.reloadConfig t) s = .next s' ∧
      RecordPasses t k l (bootAnswered l.data .refused (some .busy) s) s') ∧
    (s.loader.load = .idle → ∃ s', exec (.reloadConfig t) s = .next s' ∧
      RecordPasses t k l (withLoad (.readingEeprom ⟨true, recordCode l.data, recordCookie l.data⟩)
        (bootAnswered l.data .accepted none s)) s')) ∧
  (∀ (t : Fin 64) (s : State) (k : Nat) (l : ReqLine), AtTurn s t k l .bootstrap → recordCode l.data = 0x0081 →
    (s.loader.load ≠ .idle → ∃ s', exec (.loadConfig t) s = .next s' ∧
      RecordPasses t k l (bootAnswered l.data .refused (some .busy) s) s') ∧
    (s.loader.load = .idle → 0x10000000 ≤ getField l.data 4 4 → ∃ s', exec (.loadConfig t) s = .next s' ∧
      RecordPasses t k l (bootAnswered l.data .refused (some .badArg) s) s') ∧
    (s.loader.load = .idle → getField l.data 4 4 < 0x10000000 → ∃ s', exec (.loadConfig t) s = .next s' ∧
      RecordPasses t k l (withLoad (.readingMemory ⟨true, recordCode l.data, recordCookie l.data⟩
        (getField l.data 4 4 / 64 * 64) [] none) (bootAnswered l.data .accepted none s)) s'))

/-! ### Time Base and the blocks it drives -/

/-- R57, R139, R145, R150, R160: a period boundary with no guest request deferred: the epoch count under the E of the period
that ends, then the staged settings, then the compare event at C = 0; usage and violations to 0 with the staged budget in
force; the timeout of a WAITING zone lowered, and a resting round with staged work started, outside the hold. THE MODEL'S CHOICE (log
entry 2): the Guest Budget takes the boundary before the Label Sequencer, and the epoch boundary and the compare event that
it makes wait for their rows in `epochDue` and `compareDue`. -/
def Obligations.PeriodBoundaryActsInOrder : Prop :=
  ∀ s : State, s.guest.queue = [] →
    let ended := s.time.epochCount + 1 ≥ s.time.inForce.e
    let force := match s.time.staged with | some x => x | none => s.time.inForce
    let time : TimeState :=
      { s.time with
        counter := 0, inForce := force, staged := none
        epochCount := if ended ∨ s.time.staged ≠ none then 0 else s.time.epochCount + 1
        roundCount := if s.time.staged ≠ none then 0 else s.time.roundCount
        epochDue := if ended then s.time.epochDue + 1 else s.time.epochDue
        compareDue := if force.c = 0 then s.time.compareDue + 1 else s.time.compareDue }
    let guest : GuestState :=
      { s.guest with
        usage := 0, violations := 0, staged := none
        inForce := match s.guest.staged with | some x => x | none => s.guest.inForce }
    let work := ∃ e ∈ s.price.table, e.state = .staged ∧ e.exit = .none ∧ s.label.settings.mask.getLsbD e.zone.val = true
    let waits := ∃ z, s.label.zone = some z ∧ s.label.zones[z] = .waiting
    (s.mem.hold = true → exec .periodBoundary s = .next { s with time := time, guest := guest }) ∧
    (s.mem.hold = false → waits → exec .periodBoundary s = .next { s with
      time := time, guest := guest, label := { s.label with timeout := s.label.timeout - 1 } }) ∧
    (s.mem.hold = false → s.label.round = .running → s.label.zone = none → work →
      exec .periodBoundary s = .next (startRound { s with time := time, guest := guest })) ∧
    (s.mem.hold = false → ¬waits → ¬(s.label.round = .running ∧ s.label.zone = none ∧ work) →
      exec .periodBoundary s = .next { s with time := time, guest := guest })

/-- R154, R157, R159, R160: a deferred request, alone in the queue, is judged again under the tables in force and, where
its lines pass and stay within the budget, served: at a period boundary whatever its condition, under a usage of 0; when the
pacing timer reaches the pace, if it waits for that. Above the hard budget it stays, for the PERIOD, under CYCLE and is
refused with the latch under LATCHED (R162). A lone line that now fails is refused with its new cause and counts a violation
(R161). With no PACE entry at the head the timer's expiry releases nothing. -/
def Obligations.DeferredGuestRequestsReleased : Prop :=
  (∀ (s : State) (e : Deferred) (r : Request),
    TxnsDistinct s → s.guest.queue = [e] → findRequest s e.txn = some r → AllWait r → r.cls = .guest →
    (∀ l ∈ (judgedAgain s r).lines, ∃ addr w role i, l.verdict = some (.pass addr w role i)) → s.guest.latch = none →
    let n := r.lines.length
    let stays : State := entryReplaced e.txn (judgedAgain s r) { s with guest := { s.guest with
      timer := max s.guest.timer s.guest.inForce.pace, queue := [{ e with size := n, cond := .period }] } }
    let latched (s : State) : State := latchedWhole e.txn (judgedAgain s r) (latchSet .budget [] s)
    (s.guest.staged = none → s.label.round = .idle → s.label.zone = none →
      (s.guest.inForce.mode = .off ∨ (n ≤ s.guest.inForce.hard ∧ 0 < s.guest.inForce.soft) →
        ∃ s', exec .periodBoundary s = .next s' ∧
          s'.guest = { s.guest with usage := min n 65535, violations := 0, queue := [], timer := 0 } ∧
          s'.mem = (servedWhole e.txn (judgedAgain s r) s).mem ∧ s'.link = (servedWhole e.txn (judgedAgain s r) s).link ∧
          s'.guard = s.guard ∧ s'.reports = s.reports) ∧
      (s.guest.inForce.mode = .cycle → s.guest.inForce.hard < n →
        ∃ s', exec .periodBoundary s = .next s' ∧
          s'.guest = { s.guest with usage := 0, violations := 0, queue := [{ e with size := n, cond := .period }] } ∧
          s'.mem = s.mem ∧ s'.link = stays.link ∧ s'.guard = s.guard ∧ s'.reports = s.reports) ∧
      (s.guest.inForce.mode = .latched → s.guest.inForce.hard < n →
        let began : State := { s with guest := { s.guest with usage := 0, violations := 0 } }
        ∃ s', exec .periodBoundary s = .next s' ∧ s'.guest = (latched began).guest ∧ s'.mem = s.mem ∧
          s'.link = (latched began).link ∧ s'.guard = (latched began).guard ∧ s'.reports = (latched began).reports)) ∧
    (e.cond = .pace →
      (s.guest.inForce.mode = .off ∨ s.guest.usage + n ≤ s.guest.inForce.hard →
        exec .pacingExpiry s = .next (servedWhole e.txn (judgedAgain s r)
          { s with guest := { s.guest with queue := [] } })) ∧
      (s.guest.inForce.mode = .cycle → s.guest.inForce.hard < s.guest.usage + n →
        exec .pacingExpiry s = .next stays) ∧
      (s.guest.inForce.mode = .latched → s.guest.inForce.hard < s.guest.usage + n →
        exec .pacingExpiry s = .next (latched { s with guest := { s.guest with
          timer := max s.guest.timer s.guest.inForce.pace } })))) ∧
  (∀ (s : State) (e : Deferred) (r : Request) (l : ReqLine) (cause : Cause) (w : Option (Fin 16)),
    TxnsDistinct s → s.guest.queue = [e] → findRequest s e.txn = some r → r.lines = [l] → AllWait r → r.cls = .guest →
    judgeLine s.guard s.mem.size .guest r.kind l.bus = .refuse cause w →
    let gone : State := logRefusal (refusalOf r l cause w) (refusedTaken e.txn r.kind s)
    let counted (violations timer : Nat) (usage : Nat) : State := { gone with guest := { s.guest with
      usage := usage, violations := violations, queue := [], timer := timer } }
    (e.cond = .pace →
      let refused := counted (min (s.guest.violations + 1) 65535) (max s.guest.timer s.guest.inForce.pace) s.guest.usage
      (s.guest.inForce.fault = 0 ∨ refused.guest.violations < s.guest.inForce.fault ∨ s.guest.latch ≠ none →
        exec .pacingExpiry s = .next refused) ∧
      (0 < s.guest.inForce.fault → s.guest.inForce.fault ≤ refused.guest.violations → s.guest.latch = none →
        exec .pacingExpiry s = .next (latchSet .guardFault [] refused))) ∧
    (s.guest.staged = none → s.label.round = .idle → s.label.zone = none → s.guest.inForce.fault ≠ 1 →
      ∃ s', exec .periodBoundary s = .next s' ∧ s'.guest = (counted 1 s.guest.timer 0).guest ∧ s'.mem = s.mem ∧
        s'.link = gone.link ∧ s'.guard = gone.guard ∧ s'.reports = gone.reports)) ∧
  (∀ s : State, (∀ e rest, s.guest.queue = e :: rest → e.cond ≠ .pace) →
    exec .pacingExpiry s = .next { s with
      guest := { s.guest with timer := max s.guest.timer s.guest.inForce.pace } })

/-- R58, R137: a compare event adds one to the round count and at N returns it to 0 with a round trigger; a trigger starts a
round only under TIMEBASE, in IDLE, outside the hold, with a LABEL_QUEUE window and staged work, and is otherwise
forgotten. THE MODEL'S CHOICE (log entry 2): a compare event made by a tick waits for its row in `compareDue`, a trigger in
`triggerDue`. -/
def Obligations.CompareEventsAndRoundTriggers : Prop :=
  (∀ s : State, 0 < s.time.compareDue →
    let trigger := s.time.roundCount + 1 ≥ s.time.inForce.n
    exec .compareEvent s = .next { s with time := { s.time with
      compareDue := s.time.compareDue - 1
      roundCount := if trigger then 0 else s.time.roundCount + 1
      triggerDue := if trigger then s.time.triggerDue + 1 else s.time.triggerDue } }) ∧
  (∀ s : State, 0 < s.time.triggerDue →
    let ready := s.label.settings.trigger = .timebase ∧ s.label.round = .idle ∧ s.mem.hold = false ∧
      (∃ i : Fin 16, s.guard.windows[i].enabled = true ∧ s.guard.windows[i].role = .labelQueue) ∧
      ∃ e ∈ s.price.table, e.state = .staged ∧ e.exit = .none ∧ s.label.settings.mask.getLsbD e.zone.val = true
    let consumed : State := { s with time := { s.time with triggerDue := s.time.triggerDue - 1 } }
    (ready → exec .roundTrigger s = .next (startRound consumed)) ∧ (¬ready → exec .roundTrigger s = .next consumed))

/-- R127: an epoch boundary removes the SHOWN entries that are marked and carry no exit marker, each with PRICE_EFFECTIVE in
table order, and marks the other SHOWN entries that carry none. THE MODEL'S CHOICE (log entry 2): a boundary that a period
makes waits in `epochDue` for this row. -/
def Obligations.EpochBoundaryRetiresMarkedEntries : Prop :=
  ∀ s : State, 0 < s.time.epochDue → ItemsDistinct s →
    let retired := s.price.table.filter (fun e => decide (e.state = .shown ∧ e.epochSeen = true ∧ e.exit = .none))
    let marked := (s.price.table.filter (fun e => decide ¬(e.state = .shown ∧ e.epochSeen = true ∧ e.exit = .none))).map
      (fun e => if e.state = .shown ∧ e.exit = .none then { e with epochSeen := true } else e)
    (∀ e ∈ retired, e.item ∉ s.label.awaited) → (∀ e ∈ retired, e.item ∉ s.price.withdrawals) →
    exec .epochBoundary s = .next { retired.foldl
        (fun x e => reported (.priceEffective e.item e.oldPrice e.newPrice false) x) s with
      time := { s.time with epochDue := s.time.epochDue - 1 }
      price := { s.price with table := marked } }

/-- R61, R64, R173: a second event with no match: the seconds advance and wrap at the day's end with the millisecond count
at 0; in CLOSING it lowers the grace, outside the hold. THE MODEL'S CHOICE (log entry 2): a grace brought to 0 waits for
GRACE_EXPIRY, and the retry of a deferred close that falls due waits in `retryDue` for DEFERRED_CLOSE_RETRY. -/
def Obligations.SecondEventAdvancesClockAndGrace : Prop :=
  ∀ s : State,
    let second := (s.time.seconds + 1) % 86400
    let time : TimeState := { s.time with seconds := second, millis := 0 }
    (s.time.clock = .unset ∨ (s.time.schedule.closeAt ≠ some second ∧ s.time.schedule.exportEnd ≠ some second)) →
    (s.day.phase ≠ .closing → s.day.deferred = none → exec .secondEvent s = .next { s with time := time }) ∧
    (∀ n, s.day.phase ≠ .closing → s.day.deferred = some n → n < 59 →
      exec .secondEvent s = .next { s with time := time, day := { s.day with deferred := some (n + 1) } }) ∧
    (s.day.phase ≠ .closing → s.day.deferred = some 59 →
      exec .secondEvent s = .next { s with time := time, day := { s.day with deferred := some 0, retryDue := true } }) ∧
    (s.day.phase = .closing → s.day.deferred = none → (∃ t : Fin 32, s.journal.contexts[t].state = .inTxn) →
      0 < s.day.grace →
      exec .secondEvent s = .next { s with
        time := time, day := { s.day with grace := if s.mem.hold then s.day.grace else s.day.grace - 1 } }) ∧
    (s.day.phase = .closing → s.day.deferred = none → (∀ t : Fin 32, s.journal.contexts[t].state = .idle) →
      exec .secondEvent s = .next { s with
        time := time
        day := { s.day with
          phase := .switching, grace := if s.mem.hold then s.day.grace else s.day.grace - 1 } })

/-- R64, R171, R184: at a close-time match in DAY_OPEN a timed close with the schedule's defaults is made, or deferred with
one CLOSE_DEFERRED naming the bank waited for; an export-deadline match ends each EXPORTING bank with EXPORT_LATE. -/
def Obligations.MatchesMakeTimedCloseAndExportLate : Prop :=
  ∀ s : State,
    let second := (s.time.seconds + 1) % 86400
    let next : State := { s with time := { s.time with seconds := second, millis := 0 } }
    (∀ bk : Bank, s.time.clock = .set → s.time.schedule.closeAt = some second → s.time.schedule.exportEnd ≠ some second →
      s.day.phase = .dayOpen → s.day.openBank = some bk → s.day.deferred = none →
      ((getBank s.journal bk).cursor ≠ 0 → (getBank s.journal bk.other).state = .idle →
        hasJournalWindow s bk.other = true →
        exec .secondEvent s = .next (closeBegun bk s.time.schedule.grace s.time.schedule.carry true next)) ∧
      ((getBank s.journal bk).cursor = 0 →
        exec .secondEvent s = .next { reported (.closeDeferred bk .open) next with
          day := { s.day with deferred := some 0 } }) ∧
      ((getBank s.journal bk).cursor ≠ 0 →
        (getBank s.journal bk.other).state ≠ .idle ∨ hasJournalWindow s bk.other = false →
        exec .secondEvent s = .next { reported (.closeDeferred bk.other (getBank s.journal bk.other).state) next with
          day := { s.day with deferred := some 0 } })) ∧
    (∀ bk : Bank, s.time.clock = .set → s.time.schedule.exportEnd = some second →
      s.time.schedule.closeAt ≠ some second → s.day.phase ≠ .closing → s.day.deferred = none →
      (getBank s.journal bk).state = .exporting → (getBank s.journal bk.other).state ≠ .exporting →
      exec .secondEvent s = .next (updateRoleWindow bk.role
        (fun w => { w with rights := { w.rights with wan := (getBank s.journal bk).savedWan }, writeProtect := true })
        (setBank bk { getBank s.journal bk with state := .closed }
          (reported (.exportLate bk (getBank s.journal bk).exportCursor) next))))

/-- R171, R173: the end test at a grace of 0 begins the switch; the retry that a 60th second event made due makes the timed
close with the defaults read anew, or keeps it pending without a report. THE MODEL'S CHOICE (log entry 2): each is a row of
its own, and the retry stands due in `retryDue` until its row takes it. -/
def Obligations.GraceExpiryAndDeferredRetry : Prop :=
  (∀ s : State, s.day.phase = .closing → s.day.grace = 0 →
    exec .graceExpiry s = .next { s with day := { s.day with phase := .switching } }) ∧
  (∀ (s : State) (bk : Bank), s.day.retryDue = true → s.day.phase = .dayOpen → s.day.openBank = some bk →
    ((getBank s.journal bk).cursor ≠ 0 → (getBank s.journal bk.other).state = .idle →
      hasJournalWindow s bk.other = true →
      exec .deferredCloseRetry s = .next (closeBegun bk s.time.schedule.grace s.time.schedule.carry true s)) ∧
    ((getBank s.journal bk).cursor = 0 ∨ (getBank s.journal bk.other).state ≠ .idle ∨
      hasJournalWindow s bk.other = false →
      exec .deferredCloseRetry s = .next { s with day := { s.day with retryDue := false } }))

/-! ### Line arithmetic and the handling of entries -/

/-- R100, R101: every quotient is rounded to the nearest integer with a tie away from zero, on magnitudes; the gross is
rounded before the discount is taken from it; a SALE and a RETURN of the same goods have opposite amounts. The flags and
the treatment of inputs out of range are those of R98, R99 and R102. -/
def Obligations.LineAmountRoundsGrossAndDiscount : Prop :=
  (∀ n d : Nat, 0 < d → roundDiv n d = (2 * n + d) / (2 * d) ∧ 2 * d * roundDiv n d ≤ 2 * n + d ∧
    2 * n < 2 * d * roundDiv n d + d) ∧
  roundDiv 2500 1000 = 3 ∧ (lineAmount false 5 500 0).amount = 3 ∧ (lineAmount true 5 500 0).amount = -3 ∧
  (lineAmount false 1 1 0).amount = 0 ∧
  (∀ (p d : Nat) (q : Int), p ≤ 9999999 → q.natAbs ≤ 1000000 → d ≤ 10000 →
    let g := (2 * (p * q.natAbs) + 1000) / 2000
    let x := (2 * (g * d) + 10000) / 20000
    g ≤ 9999999000 ∧ x ≤ g ∧
      lineAmount false p q d =
        { inRange := true, amount := if q < 0 then -((g - x : Nat) : Int) else ((g - x : Nat) : Int)
          flags := if q < 0 then 0x8000 else 0 } ∧
      lineAmount true p q d =
        { inRange := true, amount := if q < 0 then ((g - x : Nat) : Int) else -((g - x : Nat) : Int)
          flags := if q < 0 then 0x8000 else 0 }) ∧
  (∀ (b : Bool) (p d : Nat) (q : Int), p ≤ 9999999 → q.natAbs ≤ 1000000 → 10000 < d →
    lineAmount b p q d = { inRange := true, amount := 0, flags := if q < 0 then 0x8100 else 0x100 }) ∧
  (∀ (b : Bool) (p d : Nat) (q : Int), 9999999 < p ∨ 1000000 < q.natAbs →
    lineAmount b p q d = { inRange := false, amount := 0, flags := 0x80 })

/-- R76, R78 to R83, R96, R103 to R107: what the sequence check and the handling by kind make of an accepted entry: its
amount, flags and stored price, the till's context, and the bank's totals. -/
def Obligations.EntryHandledBySequenceAndKind : Prop :=
  (∀ (a : Acc) (v : Int) (m : Bool),
    (-140737488355327 ≤ a.value + v → a.value + v ≤ 140737488355327 → a.add v m = (⟨a.value + v, a.marked || m⟩, m)) ∧
    (140737488355327 < a.value + v → a.add v m = (⟨140737488355327, true⟩, true)) ∧
    (a.value + v < -140737488355327 → a.add v m = (⟨-140737488355327, true⟩, true))) ∧
  (∀ p : Nat, priceCheck none p = (p, 0)) ∧
  (∀ (w : WatchEntry) (p : Nat), w.oldPrice ≠ w.newPrice →
    priceCheck (some w) p =
      if p = w.newPrice ∧ w.oldPrice < w.newPrice ∧ w.policy = .hold then (w.oldPrice, 0x200)
      else if p = w.newPrice ∧ w.oldPrice < w.newPrice then (p, 0x400)
      else if p = w.newPrice ∨ p = w.oldPrice then (p, 0) else (p, 0x800)) ∧
  ∀ (watch : List WatchEntry) (e : EntryFields) (t : Fin 32) (c : TillContext) (d : DayTotals),
    e.seq < 65536 → c.lastSeq < 65536 →
    let as := HandledAs watch e t c d
    let checked := priceCheck (watch.find? (fun w => decide (w.item = e.item))) e.price
    let opened : TillContext := { state := .inTxn, txnNo := e.txnNo }
    (c.seqValid = true → seqStep e c = 0 → handleEntry watch e t c d = ⟨some 0, 0x2, none, c, counted 0x2 d⟩) ∧
    (c.seqValid = true → 32768 ≤ seqStep e c → handleEntry watch e t c d = ⟨some 0, 0x4, none, c, counted 0x4 d⟩) ∧
    (InSequence e c →
      (e.kind = .txnOpen → c.state = .idle → as (some 0) 0 none opened d) ∧
      (e.kind = .txnOpen → c.state = .inTxn →
        as (some 0) 0x8 none opened (onTill t (fun x => { x with abandoned := min (x.abandoned + 1) 4294967295 }) d)) ∧
      (e.kind = .sale → c.state = .idle →
        let r := lineAmount false checked.1 e.quantity e.discount
        as (some r.amount) (checked.2 ||| r.flags ||| 0x10) (some checked.1) c d) ∧
      (e.kind = .return_ → c.state = .idle →
        let r := lineAmount true e.price e.quantity e.discount
        as (some r.amount) (r.flags ||| 0x10) (some e.price) c d) ∧
      (e.kind = .sale → c.state = .inTxn →
        let r := lineAmount false checked.1 e.quantity e.discount
        let total := c.total.add r.amount false
        let sales := c.sales.add r.amount false
        let listed := c.list.length < 64 ∧ ∀ l ∈ c.list, l.seq ≠ e.seq
        (r.inRange = false → as (some 0) (checked.2 ||| r.flags) (some checked.1) c d) ∧
        (r.inRange = true → listed → as (some r.amount)
          (checked.2 ||| r.flags ||| (if total.2 || sales.2 then 0x1000 else 0)) (some checked.1)
          { c with total := total.1, sales := sales.1, list := c.list ++ [⟨e.seq, e.item, false, r.amount⟩] } d) ∧
        (r.inRange = true → ¬listed → as (some r.amount)
          (checked.2 ||| r.flags ||| (if total.2 || sales.2 then 0x1000 else 0) ||| 0x2000) (some checked.1)
          { c with total := total.1, sales := sales.1 } d)) ∧
      (e.kind = .return_ → c.state = .inTxn →
        let r := lineAmount true e.price e.quantity e.discount
        let total := c.total.add r.amount false
        let returns := c.returns.add r.amount false
        let listed := c.list.length < 64 ∧ ∀ l ∈ c.list, l.seq ≠ e.seq
        (r.inRange = false → as (some 0) r.flags (some e.price) c d) ∧
        (r.inRange = true → listed → as (some r.amount) (r.flags ||| (if total.2 || returns.2 then 0x1000 else 0))
          (some e.price)
          { c with total := total.1, returns := returns.1, list := c.list ++ [⟨e.seq, e.item, true, r.amount⟩] } d) ∧
        (r.inRange = true → ¬listed → as (some r.amount)
          (r.flags ||| (if total.2 || returns.2 then 0x1000 else 0) ||| 0x2000) (some e.price)
          { c with total := total.1, returns := returns.1 } d)) ∧
      (e.kind = .void → c.state = .inTxn →
        (∀ l, c.list.find? (fun l => decide (l.seq = e.refSeq)) = some l →
          let total := c.total.add (-l.amount) false
          let voids := c.voids.add (-l.amount) false
          as (some (-l.amount)) (if total.2 || voids.2 then 0x1000 else 0) none
            { c with total := total.1, voids := voids.1, list := c.list.filter (fun x => decide (x.seq ≠ e.refSeq)) } d) ∧
        ((∀ l ∈ c.list, l.seq ≠ e.refSeq) → as (some 0) 0x20 none c d)) ∧
      (e.kind = .tender → c.state = .inTxn →
        (0 ≤ e.amount → e.amount ≤ 9999999999 →
          as none (if (c.tender.add e.amount false).2 then 0x1000 else 0) none
            { c with tender := (c.tender.add e.amount false).1 } d) ∧
        (e.amount < 0 ∨ 9999999999 < e.amount → as none 0x80 none c d)) ∧
      (e.kind = .txnClose → c.state = .inTxn →
        let x := d.tills[t]
        let net := x.net.add c.total.value c.total.marked
        let store := d.store.net.add c.total.value c.total.marked
        let sales := x.sales.add c.sales.value c.sales.marked
        let returns := x.returns.add c.returns.value c.returns.marked
        let voids := x.voids.add c.voids.value c.voids.marked
        let totals : DayTotals :=
          { tills := vput d.tills t { x with
              net := net.1, sales := sales.1, returns := returns.1, voids := voids.1
              txns := min (x.txns + 1) 4294967295, lines := min (x.lines + c.list.length) 4294967295 }
            store := { d.store with net := store.1, txns := min (d.store.txns + 1) 4294967295 } }
        as (some c.total.value)
          ((if net.2 || store.2 || sales.2 || returns.2 || voids.2 || c.total.marked then 0x1000 else 0) |||
            (if 0 < c.total.value ∧ c.tender.value < c.total.value then 0x40 else 0)) none {} totals) ∧
      (e.kind = .void ∨ e.kind = .tender ∨ e.kind = .txnClose → c.state = .idle → as (some 0) 0x10 none c d) ∧
      (e.kind = .unknown → as (some 0) 0x4000 none c d))

/-! ### Journal Engine -/

/-- R70, R72, R75, R84, R86, R92: an entry that its bank admits and that passes every check is taken at the cursor: the
bank record, its totals and the till's context follow in the working state, the filled line is handed to the Memory Port
with its copies, and the retained store waits for its commit. In a CLOSING bank the end test follows (R173). -/
def Obligations.JournalEntryTakenAtCursor : Prop :=
  ∀ (s : State) (t : Fin 64) (r : Request) (l : ReqLine) (bk : Bank) (addr : Nat) (w : Option (Fin 16)) (role : Role)
    (till : Fin 32),
    AtTurn s t 0 l (.journal bk) → findRequest s t = some r → TxnsDistinct s → r.lines = [l] →
    l.verdict = some (.pass addr w role (getBank s.journal bk).cursor) →
    Admits s bk → l.mask = BitVec.allOnes 64 → (readEntry l.data).till = till.val → (readEntry l.data).kind ≠ .part →
    (getBank s.journal bk).cursor + 34 ≤ linesOf s bk →
    ((getBank s.journal bk).state = .closing → (readEntry l.data).kind ≠ .txnOpen) →
    let b := getBank s.journal bk
    let e := readEntry l.data
    let h := handleEntry s.price.table e till s.journal.contexts[till] b.totals
    ∃ filled : Line, Filled l.data filled h b.cursor b.running ∧
      let taken := entryTaken bk till h (getWord filled 56) s
      let phase := if b.state = .closing ∧ s.day.phase = .closing ∧ (s.day.grace = 0 ∨ openTills taken = []) then
          DayPhase.switching
        else s.day.phase
      exec (.journalEntry t) s = .next (handed
        { owner := some ⟨t, 0⟩, kind := .write, addr := addr, mask := l.mask, data := filled
          commit := some (carried bk till e h b.cursor (getWord filled 56)), released := false }
        (entryReplaced t { r with progress := .active, lines := [{ l with stage := .handed, data := filled }] }
          { taken with day := { s.day with phase := phase } }))

/-- R10, R70, R72, R73, R74: an entry is refused with the cause of the first check that fails: its line is DISCARDED and
logged, DRAM and the journal do not change, but for the bank-full marker that the first BANK_FULL sets with its report.
That this report arises before the GUARD report is the model's choice (log entry 7). -/
def Obligations.JournalEntryRefusedByFirstCheck : Prop :=
  ∀ (s : State) (t : Fin 64) (r : Request) (l : ReqLine) (bk : Bank) (addr : Nat) (w : Option (Fin 16)) (role : Role)
    (i : Nat),
    AtTurn s t 0 l (.journal bk) → findRequest s t = some r → r.lines = [l] → l.verdict = some (.pass addr w role i) →
    let b := getBank s.journal bk
    let e := readEntry l.data
    let refused (c : Cause) : Prop := exec (.journalEntry t) s =
      .next (logRefusal (refusalOf r l c w) (answeredTaken t .discarded [] s))
    let first := Admits s bk ∧ i = b.cursor
    let formed := first ∧ l.mask = BitVec.allOnes 64 ∧ e.till < 32 ∧ e.kind ≠ .part
    (¬Admits s bk → refused .switching) ∧
    (Admits s bk → i ≠ b.cursor → refused .appendOrder) ∧
    (first → l.mask ≠ BitVec.allOnes 64 ∨ 32 ≤ e.till ∨ e.kind = .part → refused .format) ∧
    (formed → linesOf s bk < b.cursor + 34 → b.fullMarker = true → refused .bankFull) ∧
    (formed → linesOf s bk < b.cursor + 34 → b.fullMarker = false → exec (.journalEntry t) s =
      .next (logRefusal (refusalOf r l .bankFull w) (answeredTaken t .discarded []
        (reported (.bankFull bk b.dayNumber b.cursor) (setBank bk { b with fullMarker := true } s))))) ∧
    (formed → b.cursor + 34 ≤ linesOf s bk → b.state = .closing → e.kind = .txnOpen → refused .closing)

/-- R2, R3, R12, R16, R91, R92, R120, R144: when a passed write completes its line is GOOD, and the completion is sent when no
line of its request is left PENDING; a write that a link reset has orphaned is recorded nowhere. An accepted entry then
commits: its copies go into the retained store, its bank's in-flight count falls by one, and ENTRY_FLAGGED is reported where
it carries a warning flag. A price write that was let go then leaves the capture queue, and an entry that waited for it with
AFTER_WRITE leaves the table with PRICE_WITHDRAWN. THE MODEL'S CHOICE (log entry 24): PRICE_WITHDRAWN comes before the
reports of a visit that the removal ends. -/
def Obligations.EntryCommitsWhenItsWriteCompletes : Prop :=
  ∀ (s : State) (p : PassedLine), s.mem.port = .passed p → p.kind = .write →
    (∀ o r, p.owner = some o → findRequest s o.txn = some r → r.kind = .write) →
    let good := writeGood p.owner { s with
      mem := { idlePort s.mem with dram := Memory.writeLine s.mem.dram p.addr p.mask p.data } }
    (p.commit = none → p.released = false → exec .passedWriteComplete s = .next good) ∧
    (∀ c, p.commit = some c → p.released = false →
      exec .passedWriteComplete s = .next (flagReported c.bank c.index c.till.val c.seq c.kind c.flags
        (entryCommitted c good))) ∧
    (p.commit = none → p.released = true →
      let left : State := { good with price := { s.price with
        queue := s.price.queue.filter (fun x => decide ¬(x.stage = .released ∧ x.addr = p.addr)) } }
      ((∀ e ∈ s.price.table, e.exit ≠ .afterWrite p.addr) → exec .passedWriteComplete s = .next left) ∧
      (∀ e, s.price.table.find? (fun e => decide (e.exit = .afterWrite p.addr)) = some e →
        exec .passedWriteComplete s = .next (leaveAwaited e.item false
          (reported (.priceWithdrawn e.item e.oldPrice false) (retired e.item left)))))

/-- R88, R89, R169, R174: the DAY_OPEN of an opened bank and the entries of the switch list, by position, are ordered for a
bank with a window; the entry ordered is formed and issued once the bank's in-flight count is 0 and the slot is EMPTY. That
DAY_OPEN is not ordered for a bank without a window is DEDUCED (log entry 19). -/
def Obligations.PartWritesOrderedAndIssued : Prop :=
  (∀ (s : State) (bk : Bank), s.day.phase = .dayOpen → s.day.openBank = some bk → (getBank s.journal bk).state = .open →
    (getBank s.journal bk).cursor = 0 → s.day.ordered = false → s.journal.partWrite = .idle →
    (hasJournalWindow s bk = true → exec .dayOpenOrder s = .next { s with
      journal := { s.journal with partWrite := .draining ⟨bk, .dayOpen, 0⟩ }, day := { s.day with ordered := true } }) ∧
    (hasJournalWindow s bk = false → exec .dayOpenOrder s = .next s)) ∧
  (∀ (s : State) (bk : Bank) (o : PartOrder), s.day.phase = .switching → s.day.closingBank = some bk →
    AtPosition s bk s.day.progress o → s.day.ordered = false → s.journal.partWrite = .idle →
    (hasJournalWindow s o.bank = true → exec .switchOrder s = .next { s with
      journal := { s.journal with partWrite := .draining o }, day := { s.day with ordered := true } }) ∧
    (hasJournalWindow s o.bank = false → exec .switchOrder s = .next s)) ∧
  (∀ (s : State) (o : PartOrder) (w : Window), s.journal.partWrite = .draining o →
    roleWindow s.guard.windows o.bank.role = some w →
    (0 < (getBank s.journal o.bank).inFlight → exec .partWriteIssue s = .next s) ∧
    ((getBank s.journal o.bank).inFlight = 0 → s.mem.slots.journalEngine = .empty →
      ∃ entry : Line, PartHolds s.journal o entry ∧
        let issued : Access :=
          ⟨.write, w.dramFirst.toNat * 4096 + (getBank s.journal o.bank).cursor * 64, BitVec.allOnes 64, entry⟩
        exec .partWriteIssue s = .next { s with
          journal := { s.journal with partWrite := .writing o entry }
          mem := { s.mem with slots := { s.mem.slots with journalEngine := .waiting issued 0 } } }))

/-- R88, R91, R92, R106, R108, R169, R174, R175, R176: a part-written entry commits when its write completes. A DAY_OPEN of
the opened day makes DAY_OPENED; an entry of the switch advances its progress; the DAY_CLOSE hands the day to the other
bank; the last entry ends the switch with DAY_CLOSED, and under DROP the suspended contexts are cleared. THE MODEL'S CHOICE
(log entry 27): a TXN_RESUME that carries OVERFLOW adds to the flagged-entry count. -/
def Obligations.PartWriteCommitsAndSwitchAdvances : Prop :=
  ∀ (s : State) (a : Access) (o : PartOrder) (entry : Line), InsertedAtPort s .journalEngine a →
    s.journal.partWrite = .writing o entry →
    let done := partCommitted o entry { s with
      mem := { freedSlot .journalEngine s.mem with dram := Memory.writeLine s.mem.dram a.addr a.mask a.data } }
    (s.day.phase = .dayOpen → o.kind = .dayOpen → exec .partWriteCommit s =
      .next (reported (.dayOpened o.bank (getBank s.journal o.bank).dayNumber) done)) ∧
    (∀ bk, s.day.phase = .switching → s.day.closingBank = some bk → o.kind ≠ .dayClose → s.day.progress + 1 < listLength s →
      exec .partWriteCommit s = .next { done with day := { done.day with progress := s.day.progress + 1 } }) ∧
    (∀ bk, s.day.phase = .switching → s.day.closingBank = some bk → o = ⟨bk, .dayClose, 0⟩ →
      s.day.progress + 1 < listLength s →
      let chain := getWord entry 56
      let n := getBank s.journal bk.other
      let number := ((getBank s.journal bk).dayNumber + 1) % 65536
      let closed := updateRoleWindow bk.role (fun x => { x with writeProtect := true })
        (setBank bk { getBank done.journal bk with state := .closed, final := chain }
          { done with journal := { done.journal with carried := some chain } })
      let next := updateRoleWindow bk.other.role (fun x => { x with writeProtect := false })
        (setBank bk.other { n with
          state := .open, dayNumber := number, seed := chain, cursor := 0, lastIndex := none, running := chain
          fullMarker := false } closed)
      let kept := setRetained bk.other { cursor := 0, lastIndex := none, running := chain, totals := n.totals } next
      exec .partWriteCommit s = .next { kept with
        day := { done.day with openBank := some bk.other, progress := s.day.progress + 1 } }) ∧
    (∀ bk, s.day.phase = .switching → s.day.closingBank = some bk → o.kind ≠ .dayClose →
      s.day.progress + 1 = listLength s →
      let n := getBank done.journal bk.other
      let ended (contexts kept : Vector TillContext 32) : State := { done with
        journal := { done.journal with contexts := contexts }
        retained := { done.retained with contexts := kept }
        day := { done.day with
          phase := .dayOpen, progress := 0, closingBank := none, carry := .carry, timed := false } }
      let report := ReportBody.dayClosed bk bk.other n.dayNumber n.cursor (openTills s).length s.day.carry
      (s.day.carry = .carry → exec .partWriteCommit s =
        .next (reported report (ended s.journal.contexts s.retained.contexts))) ∧
      (s.day.carry = .drop → ∃ contexts kept : Vector TillContext 32,
        exec .partWriteCommit s = .next (reported report (ended contexts kept)) ∧
        ∀ x : Fin 32,
          (s.journal.contexts[x].state = .inTxn →
            contexts[x] = { seqValid := s.journal.contexts[x].seqValid, lastSeq := s.journal.contexts[x].lastSeq } ∧
              kept[x] = contexts[x]) ∧
          (s.journal.contexts[x].state = .idle →
            contexts[x] = s.journal.contexts[x] ∧ kept[x] = s.retained.contexts[x])))

/-! ### Price Watch -/

/-- R112, R114, R129, R130: a price line of the CPU is held in the capture queue; the capture read of the oldest held line
and the check read of the first withdrawal are issued by the eligibility of each and the kind issued last; the check read
decides, and the write-back removes the entry with PRICE_WITHDRAWN. DEDUCED from R122 (log entry 16): no capture read is
issued during the power-fail hold, and a check read may be. THE MODEL'S CHOICE (log entry 24): PRICE_WITHDRAWN comes before
the reports of a visit that the removal ends. -/
def Obligations.CapturesAndWithdrawalsTakeTurns : Prop :=
  (∀ (s : State) (t : Fin 64) (r : Request) (l : ReqLine) (addr : Nat) (w : Option (Fin 16)) (role : Role) (i : Nat),
    AtTurn s t 0 l .capture → findRequest s t = some r → TxnsDistinct s → r.lines = [l] →
    l.verdict = some (.pass addr w role i) →
    exec (.priceWriteCapture t) s = .next (entryReplaced t { r with
        progress := .active, captureReserved := r.captureReserved - 1, lines := [{ l with stage := .held }] }
      { s with price := { s.price with queue := s.price.queue ++ [⟨some ⟨t, 0⟩, addr, l.data, .waiting⟩] } })) ∧
  (∀ (s : State) (released rest : List CaptureLine) (c : CaptureLine), s.price.queue = released ++ c :: rest →
    (∀ x ∈ released, x.stage = .released ∧ x.addr ≠ c.addr) → c.stage = .waiting →
    (∀ x ∈ rest, x.stage = .waiting) → (∀ e ∈ s.price.table, e.exit = .withdraw → e.line ≠ c.addr) →
    s.price.access = .idle → s.mem.slots.priceWatch = .empty → s.mem.hold = false →
    (s.price.withdrawals = [] ∨ s.price.lastIssue = .withdrawal →
      exec .captureReadIssue s = .next { s with
        price := { s.price with
          queue := released ++ { c with stage := .reading } :: rest, access := .captureRead, lastIssue := .capture }
        mem := { s.mem with slots := { s.mem.slots with priceWatch := .waiting ⟨.read, c.addr, 0, 0⟩ 0 } } }) ∧
    (∀ item e, s.price.withdrawals.head? = some item → entryOf s item = some e → (∀ x ∈ released, x.addr ≠ e.line) →
      s.price.lastIssue = .capture → exec .captureReadIssue s = .next s)) ∧
  (∀ s : State, s.mem.hold = true → exec .captureReadIssue s = .next s) ∧
  (∀ (s : State) (item : Nat) (e : WatchEntry), s.price.withdrawals.head? = some item → entryOf s item = some e →
    (∀ x ∈ s.price.queue, x.stage = .released → x.addr ≠ e.line) → s.price.access = .idle →
    s.mem.slots.priceWatch = .empty → (∀ x ∈ s.price.queue, x.stage ≠ .waiting) ∨ s.price.lastIssue = .capture →
    exec .checkReadIssue s = .next { s with
      price := { s.price with access := .checkRead item, lastIssue := .withdrawal, dropAtCheck := false }
      mem := { s.mem with slots := { s.mem.slots with priceWatch := .waiting ⟨.read, e.line, 0, 0⟩ 0 } } }) ∧
  (∀ (s : State) (a : Access) (item : Nat) (e : WatchEntry), InsertedAtPort s .priceWatch a → s.price.access = .checkRead item → entryOf s item = some e → s.price.dropAtCheck = false →
    (getField (Memory.readLine s.mem.dram a.addr) 0 4 = item →
      ∃ back : Access, back.kind = .write ∧ back.addr = e.line ∧ back.mask = 0xF0 ∧
        getWord back.data 4 = BitVec.ofNat 32 e.oldPrice ∧
        exec .checkReadComplete s = .next { s with
          price := { s.price with access := .writeBack item }
          mem := { idlePort s.mem with slots := { s.mem.slots with priceWatch := .waiting back 0 } } }) ∧
    (getField (Memory.readLine s.mem.dram a.addr) 0 4 ≠ item →
      exec .checkReadComplete s = .next (leaveAwaited item false (reported (.priceWithdrawn item e.oldPrice false)
        (retired item { s with mem := freedSlot .priceWatch s.mem, price := { s.price with access := .idle } }))))) ∧
  (∀ (s : State) (a : Access) (item : Nat) (e : WatchEntry), InsertedAtPort s .priceWatch a → s.price.access = .writeBack item → entryOf s item = some e → a.kind = .write →
    exec .writeBackComplete s = .next (leaveAwaited item false (reported (.priceWithdrawn item e.oldPrice true)
      (retired item { s with
        mem := { freedSlot .priceWatch s.mem with dram := Memory.writeLine s.mem.dram a.addr a.mask a.data }
        price := { s.price with access := .idle } }))))

/-- R115 to R120, R124, R144: the comparison of the line a capture read returned with the line that is held. A reassignment
marks the old item's entry; the same price is copied into the item's entry, which a zone change takes out of its visit, and
which becomes SHOWN or returns to STAGED by its acknowledged set; a new price stages an entry, or restages the item's entry
by its state; a price out of range changes nothing; the line is then let go. With the table full it is discarded with
WATCH_FULL instead. DEDUCED (log entry 17): in the rows of R119 that set no price the line, zone, facings and policy are
taken too, and indices beyond the facings leave the acknowledged set; SHOWN with the price it shows loses its exit marker.
THE MODEL'S CHOICE (log entry 24): PRICE_STAGED comes before the reports of a visit that the restaging ends. -/
def Obligations.CaptureComparisonStagesOrRestages : Prop :=
  ∀ (s : State) (t : Fin 64) (r : Request) (l : ReqLine) (c : CaptureLine) (addr : Nat) (w : Option (Fin 16)) (old : Line),
    CaptureAtPort s t r l c addr w old →
    let o := readPrice old
    let n := readPrice c.data
    let gone := letGone t r l addr
    let taken (e : WatchEntry) : WatchEntry :=
      { e with line := c.addr, zone := n.zone, facings := n.facings, policy := n.policy
               acked := e.acked &&& (BitVec.ofNat 16 (2 ^ n.facings.val - 1)) }
    (o.item ≠ n.item → entryOf s o.item = none → exec .captureReadComplete s = .next (gone s)) ∧
    (∀ e, o.item ≠ n.item → entryOf s o.item = some e → ItemsDistinct s →
      ((∀ x, e.exit ≠ .afterWrite x) →
        exec .captureReadComplete s = .next (gone (restaged { e with exit := .afterWrite c.addr } s))) ∧
      (∀ x, e.exit = .afterWrite x → exec .captureReadComplete s = .next (gone s))) ∧
    (o.item = n.item → o.price = n.price → entryOf s n.item = none → exec .captureReadComplete s = .next (gone s)) ∧
    (∀ e, o.item = n.item → o.price = n.price → entryOf s n.item = some e → ItemsDistinct s →
      let copied : WatchEntry := { taken e with
        acked := if e.zone = n.zone then (taken e).acked else 0
        exit := match e.exit with | .afterWrite _ => .none | x => x }
      let full := FullyAcked copied.acked n.facings
      let shown (s : State) : State := reported (.priceShown e.item e.newPrice n.zone e.attempts)
        (entryPut { copied with state := .shown, epochSeen := false } s)
      (e.state = .staged → full →
        exec .captureReadComplete s = .next (gone (leaveAwaited e.item true (shown s)))) ∧
      (e.state = .sending → e.zone = n.zone → full →
        exec .captureReadComplete s = .next (gone (leaveAwaited e.item true (shown s)))) ∧
      (e.state = .sending → e.zone ≠ n.zone → e.item ∈ s.label.awaited → full →
        exec .captureReadComplete s = .next (gone (leaveAwaited e.item false (shown s)))) ∧
      (e.state = .sending → e.zone ≠ n.zone → e.item ∈ s.label.awaited → ¬full →
        exec .captureReadComplete s = .next (gone (leaveAwaited e.item false
          (entryPut { copied with state := .staged } s)))) ∧
      (e.state = .shown → ¬full →
        exec .captureReadComplete s = .next (gone (entryPut { copied with state := .staged, epochSeen := false } s))) ∧
      ((e.state = .staged ∧ ¬full) ∨ (e.state = .sending ∧ e.zone = n.zone ∧ ¬full) ∨ (e.state = .shown ∧ full) ∨
          e.state = .failed →
        exec .captureReadComplete s = .next (gone (entryPut copied s)))) ∧
    (o.item = n.item → o.price ≠ n.price → entryOf s n.item = none → 9999999 < o.price ∨ 9999999 < n.price →
      exec .captureReadComplete s = .next (gone s)) ∧
    (o.item = n.item → o.price ≠ n.price → entryOf s n.item = none → o.price ≤ 9999999 → n.price ≤ 9999999 →
      (s.price.table.length < 256 →
        let e : WatchEntry :=
          { item := n.item, line := c.addr, oldPrice := o.price, newPrice := n.price, zone := n.zone, facings := n.facings
            policy := n.policy, acked := 0, state := .staged, attempts := 0, epochSeen := false, exit := .none }
        let staged (e : WatchEntry) : State := reported (.priceStaged n.item o.price n.price n.zone n.facings none)
          { s with price := { s.price with table := s.price.table ++ [e] } }
        (n.facings ≠ 0 → exec .captureReadComplete s = .next (gone (staged e))) ∧
        (n.facings = 0 → exec .captureReadComplete s = .next (gone (leaveAwaited n.item true
          (reported (.priceShown n.item n.price n.zone 0) (staged { e with state := .shown })))))) ∧
      (256 ≤ s.price.table.length →
        exec .captureReadComplete s = .next (logRefusal (refusalOf r l .watchFull w) (answeredTaken t .discarded []
          { s with
            mem := freedSlot .priceWatch s.mem
            price := { s.price with
              access := .idle, queue := s.price.queue.filter (fun x => decide (x.stage ≠ .reading)) } })))) ∧
    (∀ e, o.item = n.item → o.price ≠ n.price → entryOf s n.item = some e → ItemsDistinct s →
      (9999999 < n.price → exec .captureReadComplete s = .next (gone s)) ∧
      (n.price ≤ 9999999 → e.state ≠ .shown → n.price = e.oldPrice →
        exec .captureReadComplete s = .next (gone (restaged { taken e with exit := .afterWrite c.addr } s))) ∧
      (n.price ≤ 9999999 → e.state ≠ .shown → n.price ≠ e.oldPrice →
        let e' := { taken e with
          newPrice := n.price, acked := 0, state := .staged, exit := .none
          attempts := if e.state = .failed then 0 else e.attempts }
        let staged := reported (.priceStaged e.item e.oldPrice n.price n.zone n.facings (some e.state)) (restaged e' s)
        exec .captureReadComplete s = .next (gone
          (if e.state = .sending then leaveAwaited e.item false staged else staged))) ∧
      (n.price ≤ 9999999 → e.state = .shown → n.price = e.newPrice →
        exec .captureReadComplete s = .next (gone (restaged { taken e with exit := .none } s))) ∧
      (n.price ≤ 9999999 → e.state = .shown → n.price ≠ e.newPrice →
        let e' := { taken e with
          oldPrice := e.newPrice, newPrice := n.price, acked := 0, epochSeen := false, state := .staged, attempts := 0
          exit := .none }
        exec .captureReadComplete s = .next (gone (reported
          (.priceStaged e.item e.newPrice n.price n.zone n.facings (some .shown)) (restaged e' s)))))

/-! ### Label Sequencer -/

/-- R142, R143, R144, R146, R149, R199: the walk over the visit list takes up to six current items, in order, at their latest
prices, marks what it reached written, and makes an entry with no facing to acknowledge SHOWN; the record is issued to the
slot of the producer index, and with no current item left the zone WAITS with its timeout set. When a record is written, the
items that still stand for the price written go to SENDING and are awaited, the indices advance, and with no item left to
write the zone WAITS; with none awaited the visit then ends at once. A record whose round a link reset has ended moves no
entry, and one whose queue was changed advances nothing. A record holds the fields of section 12.3 and 0 in every other
byte. -/
def Obligations.WorkRecordsSentAndAwaited : Prop :=
  (∀ (s : State) (z : Fin 16) (w : Window) (es : List WatchEntry), s.label.zone = some z → s.label.zones[z] = .queueing →
    s.label.visit = es.map (fun e => ⟨e.item, false⟩) → es ≠ [] →
    (∀ e ∈ es, entryOf s e.item = some e ∧ e.state = .staged ∧ e.zone = z ∧ e.exit = .none ∧ e.facings ≠ 0) →
    roleWindow s.guard.windows .labelQueue = some w → s.label.writing = none → s.mem.slots.labelSequencer = .empty →
    s.mem.hold = false →
    (if s.label.producer + 1 ≥ labelCapacity s then 0 else s.label.producer + 1) ≠ s.label.consumer →
    let record := workLine s.label.phase s.label.number z s.label.recordNo
      ((es.take 6).map (fun e => (e.item, e.newPrice, e.facings.val)))
    let issued : Access := ⟨.write, w.dramFirst.toNat * 4096 + s.label.producer * 64, BitVec.allOnes 64, record⟩
    exec .workRecordIssue s = .next { s with
      mem := { s.mem with slots := { s.mem.slots with labelSequencer := .waiting issued 0 } }
      label := { s.label with
        visit := (es.take 6).map (fun e => ⟨e.item, true⟩) ++ (es.drop 6).map (fun e => ⟨e.item, false⟩)
        writing := some ⟨(es.take 6).map (fun e => (e.item, e.newPrice)), true, true⟩ } }) ∧
  (∀ (s : State) (z : Fin 16) (w : Window), s.label.zone = some z → s.label.zones[z] = .queueing →
    roleWindow s.guard.windows .labelQueue = some w → s.label.writing = none → s.mem.slots.labelSequencer = .empty →
    s.mem.hold = false →
    (if s.label.producer + 1 ≥ labelCapacity s then 0 else s.label.producer + 1) ≠ s.label.consumer →
    ItemsDistinct s → (s.label.visit.map (fun v => v.item)).Nodup →
    (∀ v ∈ s.label.visit, v.written = false → v.item ∉ s.label.awaited) →
    let es := walkTakes s z
    let issued : Access := ⟨.write, w.dramFirst.toNat * 4096 + s.label.producer * 64, BitVec.allOnes 64,
      workLine s.label.phase s.label.number z s.label.recordNo (es.map (fun e => (e.item, e.newPrice, e.facings.val)))⟩
    let waiting : State := { walked s z with label := { (walked s z).label with
      zones := vput s.label.zones z .waiting, timeout := s.label.settings.timeout } }
    (es ≠ [] → exec .workRecordIssue s = .next { walked s z with
      mem := { s.mem with slots := { s.mem.slots with labelSequencer := .waiting issued 0 } }
      label := { (walked s z).label with writing := some ⟨es.map (fun e => (e.item, e.newPrice)), true, true⟩ } }) ∧
    (es = [] → s.label.awaited ≠ [] → exec .workRecordIssue s = .next waiting) ∧
    (es = [] → s.label.awaited = [] → exec .workRecordIssue s = .next (endVisit
      (reported (.zoneDone s.label.number z s.label.sent s.label.shown s.label.timedOut) waiting)))) ∧
  (∀ (s : State) (a : Access) (z : Fin 16) (items : List (Nat × Nat)), InsertedAtPort s .labelSequencer a →
    a.kind = .write → s.label.zone = some z → s.label.writing = some ⟨items, true, true⟩ →
    ItemsDistinct s → (items.map (fun x => x.1)).Nodup →
    let sent := items.filter (fun x => s.price.table.any (stillStands z x))
    let next := if s.label.producer + 1 ≥ labelCapacity s then 0 else s.label.producer + 1
    let done (zones : Vector ZoneState 16) (timeout : Nat) : State := { s with
      mem := { freedSlot .labelSequencer s.mem with dram := Memory.writeLine s.mem.dram a.addr a.mask a.data }
      price := { s.price with table := s.price.table.map (fun e =>
        if items.any (fun x => stillStands z x e) then
          { e with state := .sending, attempts := min (e.attempts + 1) 15 } else e) }
      label := { s.label with
        writing := none, producer := next, phase := if next = 0 then !s.label.phase else s.label.phase
        recordNo := (s.label.recordNo + 1) % 256, awaited := s.label.awaited ++ sent.map (fun x => x.1)
        sent := s.label.sent + sent.length, zones := zones, timeout := timeout } }
    ((∃ v ∈ s.label.visit, v.written = false) →
      exec .workRecordComplete s = .next (done s.label.zones s.label.timeout)) ∧
    ((∀ v ∈ s.label.visit, v.written = true) → s.label.awaited ++ sent.map (fun x => x.1) ≠ [] →
      exec .workRecordComplete s = .next (done (vput s.label.zones z .waiting) s.label.settings.timeout)) ∧
    ((∀ v ∈ s.label.visit, v.written = true) → s.label.awaited = [] → sent = [] →
      exec .workRecordComplete s = .next (endVisit (reported
        (.zoneDone s.label.number z s.label.sent s.label.shown s.label.timedOut)
        (done (vput s.label.zones z .waiting) s.label.settings.timeout))))) ∧
  (∀ (s : State) (a : Access) (items : List (Nat × Nat)) (inRing : Bool), InsertedAtPort s .labelSequencer a →
    a.kind = .write → s.label.writing = some ⟨items, false, inRing⟩ →
    let next := if s.label.producer + 1 ≥ labelCapacity s then 0 else s.label.producer + 1
    let ended : State := { s with
      mem := { freedSlot .labelSequencer s.mem with dram := Memory.writeLine s.mem.dram a.addr a.mask a.data }
      label := { s.label with writing := none } }
    exec .workRecordComplete s = .next (if inRing = true then { ended with label := { ended.label with
      producer := next, phase := if next = 0 then !s.label.phase else s.label.phase } } else ended)) ∧
  (∀ (phase : Bool) (round : Nat) (zone : Fin 16) (recordNo : Nat) (items : List (Nat × Nat × Nat)), items.length ≤ 6 →
    HoldsFields (workLine phase round zone recordNo items) (workFields phase round zone recordNo items))

/-- R124, R138, R144, R145, R148: an acknowledgement that matches a SENDING or STAGED entry adds its facing, and the last
facing makes the entry SHOWN with PRICE_SHOWN; any other is ignored; the line passes in every case. At the timeout each
awaited item, in table order, returns to STAGED or FAILS at the attempt limit with PRICE_FAILED, and the visit ends with
ZONE_DONE. -/
def Obligations.AcknowledgementsAndTimeoutsMoveEntries : Prop :=
  (∀ (s : State) (t : Fin 64) (k : Nat) (l : ReqLine), AtTurn s t k l .ack →
    let a := readAck l.data
    ((∀ e ∈ s.price.table, e.item = a.item → ¬Acknowledges a e) →
      ∃ s', exec (.acknowledgement t) s = .next s' ∧ RecordPasses t k l s s') ∧
    (∀ e, entryOf s a.item = some e → Acknowledges a e → ItemsDistinct s →
      let acked := e.acked ||| BitVec.ofNat 16 (2 ^ a.facing)
      let changed (e' : WatchEntry) : State := { s with price := { s.price with
        table := s.price.table.map (fun x => if x.item = e.item then e' else x) } }
      (¬FullyAcked acked e.facings → ∃ s', exec (.acknowledgement t) s = .next s' ∧
        RecordPasses t k l (changed { e with acked := acked }) s') ∧
      (FullyAcked acked e.facings → ∃ s', exec (.acknowledgement t) s = .next s' ∧
        RecordPasses t k l (leaveAwaited e.item true (reported (.priceShown e.item e.newPrice e.zone e.attempts)
          (changed { e with acked := acked, state := .shown, epochSeen := false }))) s'))) ∧
  (∀ (s : State) (item : Nat) (b : Bool), item ∈ s.label.awaited →
    let left : State := { s with label := { s.label with
      awaited := s.label.awaited.filter (fun i => decide (i ≠ item))
      shown := if b then s.label.shown + 1 else s.label.shown } }
    ((∃ i ∈ s.label.awaited, i ≠ item) → leaveAwaited item b s = left) ∧
    (∀ z, (∀ i ∈ s.label.awaited, i = item) → s.label.zone = some z → s.label.zones[z] = .waiting →
      leaveAwaited item b s = endVisit
        (reported (.zoneDone s.label.number z s.label.sent left.label.shown s.label.timedOut) left))) ∧
  (∀ (s : State) (z : Fin 16), s.label.zone = some z → s.label.round = .stopping →
    endVisit s = { reported (.roundDone s.label.number (s.label.visited + 1) true) s with
      label := { s.label with
        zones := vput s.label.zones z .done, visited := s.label.visited + 1, zone := none, round := .idle } }) ∧
  (∀ s : State, (∀ z, s.label.zone = some z → s.label.zones[z] = .waiting → 0 < s.label.timeout) →
    exec .zoneTimeout s = .next s) ∧
  (∀ (s : State) (z : Fin 16), s.label.zone = some z → s.label.zones[z] = .waiting → s.label.timeout = 0 →
    ItemsDistinct s →
    let fails (e : WatchEntry) : Bool := decide (s.label.settings.limit ≤ e.attempts)
    let awaited := s.price.table.filter (fun e => decide (e.item ∈ s.label.awaited))
    let left : State := { s with
      price := { s.price with table := s.price.table.map (fun e =>
        if e.item ∈ s.label.awaited then { e with state := if fails e = true then .failed else .staged } else e) }
      label := { s.label with awaited := [], timedOut := s.label.timedOut + awaited.length } }
    exec .zoneTimeout s = .next (endVisit
      (reported (.zoneDone s.label.number z s.label.sent s.label.shown (s.label.timedOut + awaited.length))
        ((awaited.filter fails).foldl (fun x e => reported
          (.priceFailed e.item e.newPrice e.zone e.attempts ((List.range 16).filter (fun k => e.acked.getLsbD k)).length) x)
          left))))

/-! ### Configuration Loader and start-up -/

/-- R14, R66, R165, R185, R187, R188, R191, R192, R199: the pending result is issued to line 1 of the bootstrap page before the
next image read; an image is read line by line from memory until it holds the length its header gives; a bad header, a read
that its grant finds out of range or a bad image ends the load with CONFIG_BAD, one in conflict with CONFIG_CONFLICT, and any
other is applied, whatever the banks' states, the lock kept. The result line holds the fields of section 12.4 and 0 in every
other byte; an image is its lines in order; and it conflicts where a day is in progress and either journal window stands
elsewhere in it than the journal window record says. THE MODEL'S CHOICE (log entry 28): after a first read out of range the
format number is that of the fill bytes. -/
def Obligations.BootstrapLoadReadsAndAnswers : Prop :=
  let ended (o : LoadOrigin) (refusal : RefusalCode) (outcome : ConfigResult × Nat) (s : State) : State :=
    { s with loader := { s.loader with
      load := .idle, resultCount := (s.loader.resultCount + 1) % 65536
      result := some
        { code := o.code, cookie := o.cookie, count := (s.loader.resultCount + 1) % 65536, status := .refused
          refusal := some refusal, outcome := some outcome } } }
  let reading (next : Nat) (s : State) : State := { s with
    loader := { s.loader with access := .imageRead }
    mem := { s.mem with slots := { s.mem.slots with configLoader := .waiting ⟨.read, next, 0, 0⟩ 0 } } }
  (∀ (s : State) (r : BootResult), s.loader.result = some r → s.loader.access = .idle →
    s.mem.slots.configLoader = .empty →
    let issued : Access := ⟨.write, 61504, BitVec.allOnes 64, resultLine r⟩
    exec .resultLineIssue s = .next { s with
      loader := { s.loader with result := none, access := .resultWrite }
      mem := { s.mem with slots := { s.mem.slots with configLoader := .waiting issued 0 } } }) ∧
  (∀ s : State, s.loader.result = none → exec .resultLineIssue s = .next s) ∧
  (∀ (s : State) (a : Access), InsertedAtPort s .configLoader a → a.kind = .write →
    s.loader.access = .resultWrite →
    let written : State := { s with
      mem := { freedSlot .configLoader s.mem with dram := Memory.writeLine s.mem.dram a.addr a.mask a.data }
      loader := { s.loader with access := .idle } }
    ((∀ o n ls e, s.loader.load ≠ .readingMemory o n ls e) ∨ s.loader.result ≠ none →
      exec .resultLineWritten s = .next written) ∧
    (∀ o next ls e, s.loader.load = .readingMemory o next ls e → s.loader.result = none →
      exec .resultLineWritten s = .next (reading next written))) ∧
  (∀ (s : State) (a : Access) (o : LoadOrigin) (next : Nat) (ls : List Line) (e : Option Nat),
    InsertedAtPort s .configLoader a → s.loader.access = .imageRead → s.loader.load = .readingMemory o next ls e →
    let read := Memory.readLine s.mem.dram a.addr
    let image := ls ++ [read]
    let first := image.headD 0
    let length := match e with | some n => n | none => getField first 4 4
    let good := length % 64 = 0 ∧ 64 ≤ length ∧ length ≤ 2048 ∧ (getField first 0 4 = 1 → 640 ≤ length)
    let done : State := { s with mem := freedSlot .configLoader s.mem, loader := { s.loader with access := .idle } }
    (¬good → exec .imageReadComplete s = .next (ended o .configBad (.bad, getField first 0 4) done)) ∧
    (good → image.length * 64 < length → s.loader.result = none →
      exec .imageReadComplete s = .next (reading (next + 64) { done with loader := { done.loader with
        load := .readingMemory o (next + 64) image (some length) } })) ∧
    (∀ f, good → length ≤ image.length * 64 → judgeImage (imageOfLines image) = .bad f →
      exec .imageReadComplete s = .next (ended o .configBad (.bad, f) done)) ∧
    (∀ i f, good → length ≤ image.length * 64 → judgeImage (imageOfLines image) = .valid i f →
      conflicts i s = true → exec .imageReadComplete s = .next (ended o .configConflict (.valid, f) done)) ∧
    (∀ i f, good → length ≤ image.length * 64 → judgeImage (imageOfLines image) = .valid i f → conflicts i s = false →
      s.link.requests = [] → s.price.table = [] → s.label.round = .idle → ∃ s', exec .imageReadComplete s = .next s' ∧
        ImageApplied i done s' ∧ s'.guard.lock = s.guard.lock ∧ s'.guard.badKeys = s.guard.badKeys ∧
        s'.time = { s.time with staged := some i.period, schedule := i.schedule } ∧
        s'.guest = { s.guest with staged := some i.guest } ∧ s'.price = { s.price with views := i.views } ∧
        s'.reports.pending = (reported (.start .valid f) s).reports.pending ∧
        s'.loader = { s.loader with
          running := true, load := .idle, access := .idle, resultCount := (s.loader.resultCount + 1) % 65536
          result := some
            { code := o.code, cookie := o.cookie, count := (s.loader.resultCount + 1) % 65536, status := .done
              refusal := none, outcome := some (.valid, f) } })) ∧
  (∀ (s : State) (a : Access) (n : Nat) (o : LoadOrigin) (next : Nat) (ls : List Line) (e : Option Nat),
    s.mem.port = .idle → s.mem.hold = false → s.mem.queue = [] → s.mem.slots.configLoader = .waiting a n →
    (∀ src b m, src ≠ .configLoader → s.mem.slots.get src ≠ .waiting b m) → s.mem.size.bytes ≤ a.addr →
    s.loader.access = .imageRead → s.loader.load = .readingMemory o next ls e →
    exec .dramGrant s = .next (ended o .configBad (.bad, getField (ls.headD (uniformLine s.mem.fill)) 0 4)
      { s with
        mem := { freedSlot .configLoader s.mem with lastGranted := .configLoader }
        loader := { s.loader with access := .idle } })) ∧
  (∀ r : BootResult, HoldsFields (resultLine r) (resultFields r)) ∧
  (∀ (ls : List Line) (j k : Nat), j < 32 → k < 64 →
    getByte (imageOfLines ls) (64 * j + k) = match ls[j]? with | some l => getByte l k | none => 0) ∧
  (∀ (i : Image) (s : State), LawsHold i.windows → (conflicts i s = true ↔
    (s.day.phase ≠ .noDay ∨ s.journal.bankA.state ≠ .idle ∨ s.journal.bankB.state ≠ .idle) ∧
      ¬(PlaceIs i.windows .journalA s.retained.recordA ∧ PlaceIs i.windows .journalB s.retained.recordB)))

/-- R24, R30, R66, R165, R185, R187, R188, R189, R193: which images are valid and what they give, and how an EEPROM read ends
a load. An EEPROM is ABSENT that does not answer or whose first word is FFFFFFFFh (a byte it does not deliver reads FFh: the
model's choice, log entry 10); an image is valid exactly when its header, its sum, its codes and its windows are. An absent
or bad image of a running part is reported and changes nothing, and so does a valid one that fails a test of R193; any other
is applied in one change. A bootstrap reload is answered CONFIG_BAD or CONFIG_CONFLICT, or its image is applied, whatever the
banks' states; the format number 0 of its answer with ABSENT is THE MODEL'S CHOICE (log entry 28). -/
def Obligations.EepromLoadAppliesValidImage : Prop :=
  let idle (s : State) : State := { s with loader := { s.loader with load := .idle } }
  let applied (i : Image) (f : Nat) (s s' : State) : Prop :=
    ImageApplied i (idle s) s' ∧ s'.guard.lock = .locked ∧ s'.guard.badKeys = 0 ∧
      s'.time = { s.time with staged := some i.period, schedule := i.schedule } ∧
      s'.guest = { s.guest with staged := some i.guest } ∧ s'.price = { s.price with views := i.views } ∧
      s'.reports.pending = (reported (.start .valid f) s).reports.pending
  (∀ b : BitVec 16384, (∀ (i : Image) (f : Nat), judgeImage b = .valid i f ↔ ImageHolds b i ∧ f = 1) ∧
    ∀ f, judgeImage b = .bad f ↔ (∀ i, ¬ImageHolds b i) ∧ f = getField b 0 4) ∧
  (∀ (bytes : List Byte) (k : Nat), k < 2048 → getByte (imageOfBytes bytes) k = bytes.getD k 0xFF) ∧
  (judgeEeprom .noAnswer = .absent ∧ ∀ bytes : List Byte, judgeEeprom (.answers bytes) =
    if getField (imageOfBytes bytes) 0 4 = 0xFFFFFFFF then .absent else judgeImage (imageOfBytes bytes)) ∧
  (∀ (s : State) (o : LoadOrigin) (e : EepromRead), s.loader.load = .readingEeprom o → o.bootstrap = false →
    (judgeEeprom e = .absent → exec (.eepromReadComplete e) s = .next (reported (.start .absent 0) (idle s))) ∧
    (∀ f, judgeEeprom e = .bad f → exec (.eepromReadComplete e) s = .next (reported (.start .bad f) (idle s))) ∧
    (∀ i f, judgeEeprom e = .valid i f →
      let barred := s.day.phase = .closing ∨ s.day.phase = .switching ∨ s.label.round ≠ .idle ∨
        ∃ bk, s.day.openBank ≠ some bk ∧ (getBank s.journal bk).state ≠ .idle
      let priceInUse := (s.price.table ≠ [] ∨ s.price.queue ≠ []) ∧
        rolePlace i.windows .price ≠ rolePlace s.guard.windows .price
      (barred ∨ conflicts i s = true ∨ priceInUse →
        exec (.eepromReadComplete e) s = .next (reported (.start .bad f) (idle s))) ∧
      (¬barred → conflicts i s = false → ¬priceInUse → ∃ s', exec (.eepromReadComplete e) s = .next s' ∧
        applied i f s s' ∧ s'.loader = { s.loader with running := true, load := .idle }))) ∧
  (∀ (s : State) (o : LoadOrigin) (e : EepromRead), s.loader.load = .readingEeprom o → o.bootstrap = true →
    let n := (s.loader.resultCount + 1) % 65536
    let answer (status : BootStatus) (refusal : Option RefusalCode) (outcome : ConfigResult × Nat) : LoaderState :=
      { s.loader with
        load := .idle, resultCount := n
        result := some { code := o.code, cookie := o.cookie, count := n, status := status, refusal := refusal
                         outcome := some outcome } }
    (judgeEeprom e = .absent →
      exec (.eepromReadComplete e) s = .next { s with loader := answer .refused (some .configBad) (.absent, 0) }) ∧
    (∀ f, judgeEeprom e = .bad f →
      exec (.eepromReadComplete e) s = .next { s with loader := answer .refused (some .configBad) (.bad, f) }) ∧
    (∀ i f, judgeEeprom e = .valid i f → conflicts i s = true →
      exec (.eepromReadComplete e) s = .next { s with loader := answer .refused (some .configConflict) (.valid, f) }) ∧
    (∀ i f, judgeEeprom e = .valid i f → conflicts i s = false → s.link.requests = [] → s.price.table = [] →
      ∃ s', exec (.eepromReadComplete e) s = .next s' ∧ applied i f s s' ∧
        s'.loader = { answer .done none (.valid, f) with running := true }))

/-- R24, R66, R93, R123, R132, R165, R166, R185, R188, R189, R190, R195, R196, R197: a start-up that finds no EEPROM leaves the
part UNCONFIGURED with its retained state restored, or cleared and RETAIN_LOST reported where the store was lost; every
request that arrives is answered RETRY. A start-up whose EEPROM answers ends as that one, but for its START report where the
image is bad or in conflict; one that finds a valid image applies it: the part is RUNNING, its period and guest settings are
in force at once, the journal windows follow the states of their banks, and watch entries outside the PRICE window are
withdrawn before START VALID. That the loss of the backup supply sets the lost marker alone is DEDUCED (log entry 20). THE
MODEL'S CHOICE: DRAM keeps its contents (log entry 11), a write in progress at the port has no effect on it (log entry 15),
and a disabled window entry of an UNCONFIGURED part holds the values of log entry 23 beside its enable. -/
def Obligations.StartUpRestoresOrClearsRetainedState : Prop :=
  (∀ s : State, exec .retainedSupplyLost s = .next { s with retained := { s.retained with lost := true } }) ∧
  (∀ (s : State) (pfail : Bool) (arrivals : List (Fin 64)), ∃ s', exec (.startUp .noAnswer pfail arrivals) s = .next s' ∧
    s'.link = { requests := [], completions := s.link.completions ++ arrivals.map (fun t => ⟨t, .retry⟩) } ∧
    s'.guard = State.reset.guard ∧ s'.mem = { State.reset.mem with dram := s.mem.dram, hold := pfail, selfRefresh := pfail } ∧
    s'.decoder = State.reset.decoder ∧ s'.time = State.reset.time ∧ s'.label = State.reset.label ∧
    s'.guest = State.reset.guest ∧ s'.loader = State.reset.loader ∧ s'.free = s.free ∧ s'.pending = s.pending ∧
    (s.retained.lost = true ∨ s.retained.checkAgrees = false →
      s'.journal = State.reset.journal ∧ s'.price = State.reset.price ∧ s'.day = State.reset.day ∧
      s'.retained = State.reset.retained ∧ s'.reports = State.reset.reports) ∧
    (s.retained.lost = false → s.retained.checkAgrees = true →
      s'.retained = s.retained ∧ s'.journal.contexts = s.retained.contexts ∧ s'.journal.carried = s.journal.carried ∧
      s'.journal.chainSeed = 0 ∧ s'.journal.partWrite = .idle ∧
      (∀ bk : Bank, let k := getRetained s.retained bk
        getBank s'.journal bk = { getBank s.journal bk with
          cursor := k.cursor, lastIndex := k.lastIndex, running := k.running, totals := k.totals, inFlight := 0 }) ∧
      s'.price = { State.reset.price with
        withdrawals := s.price.withdrawals
        table := s.price.table.map (fun e => { e with
          exit := match e.exit with | .afterWrite _ => .none | x => x
          state := match e.state with | .sending => .staged | x => x }) } ∧
      s'.day = { s.day with
        deferred := none, retryDue := false, ordered := false
        phase := if s.day.phase = .closing ∧
            (s.day.grace = 0 ∨ ∀ t : Fin 32, s.retained.contexts[t].state = .idle) then .switching else s.day.phase } ∧
      s'.reports = { State.reset.reports with pending := [⟨0, 0, .unset, .start .absent 0⟩] })) ∧
  ∀ (s s₀ : State) (bytes : List Byte) (pfail : Bool) (arrivals : List (Fin 64)),
    exec (.startUp .noAnswer pfail arrivals) s = .next s₀ →
    let start (result : ConfigResult) (f : Nat) : List Report := ⟨0, 0, .unset, .start result f⟩ :: s₀.reports.pending.drop 1
    (judgeEeprom (.answers bytes) = .absent → exec (.startUp (.answers bytes) pfail arrivals) s = .next s₀) ∧
    (∀ f, judgeEeprom (.answers bytes) = .bad f ∨
        (∃ i, judgeEeprom (.answers bytes) = .valid i f ∧ conflicts i s₀ = true) →
      exec (.startUp (.answers bytes) pfail arrivals) s =
        .next { s₀ with reports := { s₀.reports with pending := start .bad f } }) ∧
    (∀ i f, judgeEeprom (.answers bytes) = .valid i f → conflicts i s₀ = false →
      ∃ s', exec (.startUp (.answers bytes) pfail arrivals) s = .next s' ∧ ImageApplied i s₀ s' ∧
        s'.guard.lock = .locked ∧ s'.guard.badKeys = 0 ∧
        s'.time = { s₀.time with inForce := i.period, staged := none, schedule := i.schedule } ∧
        s'.guest = { s₀.guest with inForce := i.guest, staged := none } ∧
        s'.label = { s₀.label with settings := i.rounds } ∧ s'.loader = { s₀.loader with running := true } ∧
        let gone := leftOutside i.windows s₀.price.table
        let arisen := gone.map (fun e => ⟨0, 0, .unset, .priceWithdrawn e.item e.oldPrice false⟩) ++ start .valid f
        s'.price = { s₀.price with
          table := s₀.price.table.filter (fun e => decide (∀ g ∈ gone, e.item ≠ g.item))
          withdrawals := s₀.price.withdrawals.filter (fun x => decide (∀ g ∈ gone, x ≠ g.item))
          views := i.views } ∧
        s'.reports = { s₀.reports with
          threshold := i.threshold, pending := arisen.take 16, overflow := decide (16 < arisen.length) })
end

