-- ==== Sys2Proof/Laws/State.lean ====
section
/-! SUPPORT. What each update of one field of State changes and leaves alone: one lemma per field per update. -/

namespace Sys2Proof.Machine

@[simp] theorem State.setLink_link (s : State) (x : LinkState) : (s.setLink x).link = x := rfl
@[simp] theorem State.setLink_guard (s : State) (x : LinkState) : (s.setLink x).guard = s.guard := rfl
@[simp] theorem State.setLink_mem (s : State) (x : LinkState) : (s.setLink x).mem = s.mem := rfl
@[simp] theorem State.setLink_decoder (s : State) (x : LinkState) : (s.setLink x).decoder = s.decoder := rfl
@[simp] theorem State.setLink_reports (s : State) (x : LinkState) : (s.setLink x).reports = s.reports := rfl
@[simp] theorem State.setLink_time (s : State) (x : LinkState) : (s.setLink x).time = s.time := rfl
@[simp] theorem State.setLink_journal (s : State) (x : LinkState) : (s.setLink x).journal = s.journal := rfl
@[simp] theorem State.setLink_price (s : State) (x : LinkState) : (s.setLink x).price = s.price := rfl
@[simp] theorem State.setLink_label (s : State) (x : LinkState) : (s.setLink x).label = s.label := rfl
@[simp] theorem State.setLink_guest (s : State) (x : LinkState) : (s.setLink x).guest = s.guest := rfl
@[simp] theorem State.setLink_day (s : State) (x : LinkState) : (s.setLink x).day = s.day := rfl
@[simp] theorem State.setLink_loader (s : State) (x : LinkState) : (s.setLink x).loader = s.loader := rfl
@[simp] theorem State.setLink_retained (s : State) (x : LinkState) : (s.setLink x).retained = s.retained := rfl
@[simp] theorem State.setLink_free (s : State) (x : LinkState) : (s.setLink x).free = s.free := rfl
@[simp] theorem State.setLink_pending (s : State) (x : LinkState) : (s.setLink x).pending = s.pending := rfl

@[simp] theorem State.setGuard_link (s : State) (x : GuardState) : (s.setGuard x).link = s.link := rfl
@[simp] theorem State.setGuard_guard (s : State) (x : GuardState) : (s.setGuard x).guard = x := rfl
@[simp] theorem State.setGuard_mem (s : State) (x : GuardState) : (s.setGuard x).mem = s.mem := rfl
@[simp] theorem State.setGuard_decoder (s : State) (x : GuardState) : (s.setGuard x).decoder = s.decoder := rfl
@[simp] theorem State.setGuard_reports (s : State) (x : GuardState) : (s.setGuard x).reports = s.reports := rfl
@[simp] theorem State.setGuard_time (s : State) (x : GuardState) : (s.setGuard x).time = s.time := rfl
@[simp] theorem State.setGuard_journal (s : State) (x : GuardState) : (s.setGuard x).journal = s.journal := rfl
@[simp] theorem State.setGuard_price (s : State) (x : GuardState) : (s.setGuard x).price = s.price := rfl
@[simp] theorem State.setGuard_label (s : State) (x : GuardState) : (s.setGuard x).label = s.label := rfl
@[simp] theorem State.setGuard_guest (s : State) (x : GuardState) : (s.setGuard x).guest = s.guest := rfl
@[simp] theorem State.setGuard_day (s : State) (x : GuardState) : (s.setGuard x).day = s.day := rfl
@[simp] theorem State.setGuard_loader (s : State) (x : GuardState) : (s.setGuard x).loader = s.loader := rfl
@[simp] theorem State.setGuard_retained (s : State) (x : GuardState) : (s.setGuard x).retained = s.retained := rfl
@[simp] theorem State.setGuard_free (s : State) (x : GuardState) : (s.setGuard x).free = s.free := rfl
@[simp] theorem State.setGuard_pending (s : State) (x : GuardState) : (s.setGuard x).pending = s.pending := rfl

@[simp] theorem State.setMem_link (s : State) (x : MemState) : (s.setMem x).link = s.link := rfl
@[simp] theorem State.setMem_guard (s : State) (x : MemState) : (s.setMem x).guard = s.guard := rfl
@[simp] theorem State.setMem_mem (s : State) (x : MemState) : (s.setMem x).mem = x := rfl
@[simp] theorem State.setMem_decoder (s : State) (x : MemState) : (s.setMem x).decoder = s.decoder := rfl
@[simp] theorem State.setMem_reports (s : State) (x : MemState) : (s.setMem x).reports = s.reports := rfl
@[simp] theorem State.setMem_time (s : State) (x : MemState) : (s.setMem x).time = s.time := rfl
@[simp] theorem State.setMem_journal (s : State) (x : MemState) : (s.setMem x).journal = s.journal := rfl
@[simp] theorem State.setMem_price (s : State) (x : MemState) : (s.setMem x).price = s.price := rfl
@[simp] theorem State.setMem_label (s : State) (x : MemState) : (s.setMem x).label = s.label := rfl
@[simp] theorem State.setMem_guest (s : State) (x : MemState) : (s.setMem x).guest = s.guest := rfl
@[simp] theorem State.setMem_day (s : State) (x : MemState) : (s.setMem x).day = s.day := rfl
@[simp] theorem State.setMem_loader (s : State) (x : MemState) : (s.setMem x).loader = s.loader := rfl
@[simp] theorem State.setMem_retained (s : State) (x : MemState) : (s.setMem x).retained = s.retained := rfl
@[simp] theorem State.setMem_free (s : State) (x : MemState) : (s.setMem x).free = s.free := rfl
@[simp] theorem State.setMem_pending (s : State) (x : MemState) : (s.setMem x).pending = s.pending := rfl

@[simp] theorem State.setDecoder_link (s : State) (x : DecoderState) : (s.setDecoder x).link = s.link := rfl
@[simp] theorem State.setDecoder_guard (s : State) (x : DecoderState) : (s.setDecoder x).guard = s.guard := rfl
@[simp] theorem State.setDecoder_mem (s : State) (x : DecoderState) : (s.setDecoder x).mem = s.mem := rfl
@[simp] theorem State.setDecoder_decoder (s : State) (x : DecoderState) : (s.setDecoder x).decoder = x := rfl
@[simp] theorem State.setDecoder_reports (s : State) (x : DecoderState) : (s.setDecoder x).reports = s.reports := rfl
@[simp] theorem State.setDecoder_time (s : State) (x : DecoderState) : (s.setDecoder x).time = s.time := rfl
@[simp] theorem State.setDecoder_journal (s : State) (x : DecoderState) : (s.setDecoder x).journal = s.journal := rfl
@[simp] theorem State.setDecoder_price (s : State) (x : DecoderState) : (s.setDecoder x).price = s.price := rfl
@[simp] theorem State.setDecoder_label (s : State) (x : DecoderState) : (s.setDecoder x).label = s.label := rfl
@[simp] theorem State.setDecoder_guest (s : State) (x : DecoderState) : (s.setDecoder x).guest = s.guest := rfl
@[simp] theorem State.setDecoder_day (s : State) (x : DecoderState) : (s.setDecoder x).day = s.day := rfl
@[simp] theorem State.setDecoder_loader (s : State) (x : DecoderState) : (s.setDecoder x).loader = s.loader := rfl
@[simp] theorem State.setDecoder_retained (s : State) (x : DecoderState) : (s.setDecoder x).retained = s.retained := rfl
@[simp] theorem State.setDecoder_free (s : State) (x : DecoderState) : (s.setDecoder x).free = s.free := rfl
@[simp] theorem State.setDecoder_pending (s : State) (x : DecoderState) : (s.setDecoder x).pending = s.pending := rfl

@[simp] theorem State.setReports_link (s : State) (x : ReportState) : (s.setReports x).link = s.link := rfl
@[simp] theorem State.setReports_guard (s : State) (x : ReportState) : (s.setReports x).guard = s.guard := rfl
@[simp] theorem State.setReports_mem (s : State) (x : ReportState) : (s.setReports x).mem = s.mem := rfl
@[simp] theorem State.setReports_decoder (s : State) (x : ReportState) : (s.setReports x).decoder = s.decoder := rfl
@[simp] theorem State.setReports_reports (s : State) (x : ReportState) : (s.setReports x).reports = x := rfl
@[simp] theorem State.setReports_time (s : State) (x : ReportState) : (s.setReports x).time = s.time := rfl
@[simp] theorem State.setReports_journal (s : State) (x : ReportState) : (s.setReports x).journal = s.journal := rfl
@[simp] theorem State.setReports_price (s : State) (x : ReportState) : (s.setReports x).price = s.price := rfl
@[simp] theorem State.setReports_label (s : State) (x : ReportState) : (s.setReports x).label = s.label := rfl
@[simp] theorem State.setReports_guest (s : State) (x : ReportState) : (s.setReports x).guest = s.guest := rfl
@[simp] theorem State.setReports_day (s : State) (x : ReportState) : (s.setReports x).day = s.day := rfl
@[simp] theorem State.setReports_loader (s : State) (x : ReportState) : (s.setReports x).loader = s.loader := rfl
@[simp] theorem State.setReports_retained (s : State) (x : ReportState) : (s.setReports x).retained = s.retained := rfl
@[simp] theorem State.setReports_free (s : State) (x : ReportState) : (s.setReports x).free = s.free := rfl
@[simp] theorem State.setReports_pending (s : State) (x : ReportState) : (s.setReports x).pending = s.pending := rfl

@[simp] theorem State.setTime_link (s : State) (x : TimeState) : (s.setTime x).link = s.link := rfl
@[simp] theorem State.setTime_guard (s : State) (x : TimeState) : (s.setTime x).guard = s.guard := rfl
@[simp] theorem State.setTime_mem (s : State) (x : TimeState) : (s.setTime x).mem = s.mem := rfl
@[simp] theorem State.setTime_decoder (s : State) (x : TimeState) : (s.setTime x).decoder = s.decoder := rfl
@[simp] theorem State.setTime_reports (s : State) (x : TimeState) : (s.setTime x).reports = s.reports := rfl
@[simp] theorem State.setTime_time (s : State) (x : TimeState) : (s.setTime x).time = x := rfl
@[simp] theorem State.setTime_journal (s : State) (x : TimeState) : (s.setTime x).journal = s.journal := rfl
@[simp] theorem State.setTime_price (s : State) (x : TimeState) : (s.setTime x).price = s.price := rfl
@[simp] theorem State.setTime_label (s : State) (x : TimeState) : (s.setTime x).label = s.label := rfl
@[simp] theorem State.setTime_guest (s : State) (x : TimeState) : (s.setTime x).guest = s.guest := rfl
@[simp] theorem State.setTime_day (s : State) (x : TimeState) : (s.setTime x).day = s.day := rfl
@[simp] theorem State.setTime_loader (s : State) (x : TimeState) : (s.setTime x).loader = s.loader := rfl
@[simp] theorem State.setTime_retained (s : State) (x : TimeState) : (s.setTime x).retained = s.retained := rfl
@[simp] theorem State.setTime_free (s : State) (x : TimeState) : (s.setTime x).free = s.free := rfl
@[simp] theorem State.setTime_pending (s : State) (x : TimeState) : (s.setTime x).pending = s.pending := rfl

@[simp] theorem State.setJournal_link (s : State) (x : JournalState) : (s.setJournal x).link = s.link := rfl
@[simp] theorem State.setJournal_guard (s : State) (x : JournalState) : (s.setJournal x).guard = s.guard := rfl
@[simp] theorem State.setJournal_mem (s : State) (x : JournalState) : (s.setJournal x).mem = s.mem := rfl
@[simp] theorem State.setJournal_decoder (s : State) (x : JournalState) : (s.setJournal x).decoder = s.decoder := rfl
@[simp] theorem State.setJournal_reports (s : State) (x : JournalState) : (s.setJournal x).reports = s.reports := rfl
@[simp] theorem State.setJournal_time (s : State) (x : JournalState) : (s.setJournal x).time = s.time := rfl
@[simp] theorem State.setJournal_journal (s : State) (x : JournalState) : (s.setJournal x).journal = x := rfl
@[simp] theorem State.setJournal_price (s : State) (x : JournalState) : (s.setJournal x).price = s.price := rfl
@[simp] theorem State.setJournal_label (s : State) (x : JournalState) : (s.setJournal x).label = s.label := rfl
@[simp] theorem State.setJournal_guest (s : State) (x : JournalState) : (s.setJournal x).guest = s.guest := rfl
@[simp] theorem State.setJournal_day (s : State) (x : JournalState) : (s.setJournal x).day = s.day := rfl
@[simp] theorem State.setJournal_loader (s : State) (x : JournalState) : (s.setJournal x).loader = s.loader := rfl
@[simp] theorem State.setJournal_retained (s : State) (x : JournalState) : (s.setJournal x).retained = s.retained := rfl
@[simp] theorem State.setJournal_free (s : State) (x : JournalState) : (s.setJournal x).free = s.free := rfl
@[simp] theorem State.setJournal_pending (s : State) (x : JournalState) : (s.setJournal x).pending = s.pending := rfl

@[simp] theorem State.setPrice_link (s : State) (x : PriceState) : (s.setPrice x).link = s.link := rfl
@[simp] theorem State.setPrice_guard (s : State) (x : PriceState) : (s.setPrice x).guard = s.guard := rfl
@[simp] theorem State.setPrice_mem (s : State) (x : PriceState) : (s.setPrice x).mem = s.mem := rfl
@[simp] theorem State.setPrice_decoder (s : State) (x : PriceState) : (s.setPrice x).decoder = s.decoder := rfl
@[simp] theorem State.setPrice_reports (s : State) (x : PriceState) : (s.setPrice x).reports = s.reports := rfl
@[simp] theorem State.setPrice_time (s : State) (x : PriceState) : (s.setPrice x).time = s.time := rfl
@[simp] theorem State.setPrice_journal (s : State) (x : PriceState) : (s.setPrice x).journal = s.journal := rfl
@[simp] theorem State.setPrice_price (s : State) (x : PriceState) : (s.setPrice x).price = x := rfl
@[simp] theorem State.setPrice_label (s : State) (x : PriceState) : (s.setPrice x).label = s.label := rfl
@[simp] theorem State.setPrice_guest (s : State) (x : PriceState) : (s.setPrice x).guest = s.guest := rfl
@[simp] theorem State.setPrice_day (s : State) (x : PriceState) : (s.setPrice x).day = s.day := rfl
@[simp] theorem State.setPrice_loader (s : State) (x : PriceState) : (s.setPrice x).loader = s.loader := rfl
@[simp] theorem State.setPrice_retained (s : State) (x : PriceState) : (s.setPrice x).retained = s.retained := rfl
@[simp] theorem State.setPrice_free (s : State) (x : PriceState) : (s.setPrice x).free = s.free := rfl
@[simp] theorem State.setPrice_pending (s : State) (x : PriceState) : (s.setPrice x).pending = s.pending := rfl

@[simp] theorem State.setLabel_link (s : State) (x : LabelState) : (s.setLabel x).link = s.link := rfl
@[simp] theorem State.setLabel_guard (s : State) (x : LabelState) : (s.setLabel x).guard = s.guard := rfl
@[simp] theorem State.setLabel_mem (s : State) (x : LabelState) : (s.setLabel x).mem = s.mem := rfl
@[simp] theorem State.setLabel_decoder (s : State) (x : LabelState) : (s.setLabel x).decoder = s.decoder := rfl
@[simp] theorem State.setLabel_reports (s : State) (x : LabelState) : (s.setLabel x).reports = s.reports := rfl
@[simp] theorem State.setLabel_time (s : State) (x : LabelState) : (s.setLabel x).time = s.time := rfl
@[simp] theorem State.setLabel_journal (s : State) (x : LabelState) : (s.setLabel x).journal = s.journal := rfl
@[simp] theorem State.setLabel_price (s : State) (x : LabelState) : (s.setLabel x).price = s.price := rfl
@[simp] theorem State.setLabel_label (s : State) (x : LabelState) : (s.setLabel x).label = x := rfl
@[simp] theorem State.setLabel_guest (s : State) (x : LabelState) : (s.setLabel x).guest = s.guest := rfl
@[simp] theorem State.setLabel_day (s : State) (x : LabelState) : (s.setLabel x).day = s.day := rfl
@[simp] theorem State.setLabel_loader (s : State) (x : LabelState) : (s.setLabel x).loader = s.loader := rfl
@[simp] theorem State.setLabel_retained (s : State) (x : LabelState) : (s.setLabel x).retained = s.retained := rfl
@[simp] theorem State.setLabel_free (s : State) (x : LabelState) : (s.setLabel x).free = s.free := rfl
@[simp] theorem State.setLabel_pending (s : State) (x : LabelState) : (s.setLabel x).pending = s.pending := rfl

@[simp] theorem State.setGuest_link (s : State) (x : GuestState) : (s.setGuest x).link = s.link := rfl
@[simp] theorem State.setGuest_guard (s : State) (x : GuestState) : (s.setGuest x).guard = s.guard := rfl
@[simp] theorem State.setGuest_mem (s : State) (x : GuestState) : (s.setGuest x).mem = s.mem := rfl
@[simp] theorem State.setGuest_decoder (s : State) (x : GuestState) : (s.setGuest x).decoder = s.decoder := rfl
@[simp] theorem State.setGuest_reports (s : State) (x : GuestState) : (s.setGuest x).reports = s.reports := rfl
@[simp] theorem State.setGuest_time (s : State) (x : GuestState) : (s.setGuest x).time = s.time := rfl
@[simp] theorem State.setGuest_journal (s : State) (x : GuestState) : (s.setGuest x).journal = s.journal := rfl
@[simp] theorem State.setGuest_price (s : State) (x : GuestState) : (s.setGuest x).price = s.price := rfl
@[simp] theorem State.setGuest_label (s : State) (x : GuestState) : (s.setGuest x).label = s.label := rfl
@[simp] theorem State.setGuest_guest (s : State) (x : GuestState) : (s.setGuest x).guest = x := rfl
@[simp] theorem State.setGuest_day (s : State) (x : GuestState) : (s.setGuest x).day = s.day := rfl
@[simp] theorem State.setGuest_loader (s : State) (x : GuestState) : (s.setGuest x).loader = s.loader := rfl
@[simp] theorem State.setGuest_retained (s : State) (x : GuestState) : (s.setGuest x).retained = s.retained := rfl
@[simp] theorem State.setGuest_free (s : State) (x : GuestState) : (s.setGuest x).free = s.free := rfl
@[simp] theorem State.setGuest_pending (s : State) (x : GuestState) : (s.setGuest x).pending = s.pending := rfl

@[simp] theorem State.setDay_link (s : State) (x : DayState) : (s.setDay x).link = s.link := rfl
@[simp] theorem State.setDay_guard (s : State) (x : DayState) : (s.setDay x).guard = s.guard := rfl
@[simp] theorem State.setDay_mem (s : State) (x : DayState) : (s.setDay x).mem = s.mem := rfl
@[simp] theorem State.setDay_decoder (s : State) (x : DayState) : (s.setDay x).decoder = s.decoder := rfl
@[simp] theorem State.setDay_reports (s : State) (x : DayState) : (s.setDay x).reports = s.reports := rfl
@[simp] theorem State.setDay_time (s : State) (x : DayState) : (s.setDay x).time = s.time := rfl
@[simp] theorem State.setDay_journal (s : State) (x : DayState) : (s.setDay x).journal = s.journal := rfl
@[simp] theorem State.setDay_price (s : State) (x : DayState) : (s.setDay x).price = s.price := rfl
@[simp] theorem State.setDay_label (s : State) (x : DayState) : (s.setDay x).label = s.label := rfl
@[simp] theorem State.setDay_guest (s : State) (x : DayState) : (s.setDay x).guest = s.guest := rfl
@[simp] theorem State.setDay_day (s : State) (x : DayState) : (s.setDay x).day = x := rfl
@[simp] theorem State.setDay_loader (s : State) (x : DayState) : (s.setDay x).loader = s.loader := rfl
@[simp] theorem State.setDay_retained (s : State) (x : DayState) : (s.setDay x).retained = s.retained := rfl
@[simp] theorem State.setDay_free (s : State) (x : DayState) : (s.setDay x).free = s.free := rfl
@[simp] theorem State.setDay_pending (s : State) (x : DayState) : (s.setDay x).pending = s.pending := rfl

@[simp] theorem State.setLoader_link (s : State) (x : LoaderState) : (s.setLoader x).link = s.link := rfl
@[simp] theorem State.setLoader_guard (s : State) (x : LoaderState) : (s.setLoader x).guard = s.guard := rfl
@[simp] theorem State.setLoader_mem (s : State) (x : LoaderState) : (s.setLoader x).mem = s.mem := rfl
@[simp] theorem State.setLoader_decoder (s : State) (x : LoaderState) : (s.setLoader x).decoder = s.decoder := rfl
@[simp] theorem State.setLoader_reports (s : State) (x : LoaderState) : (s.setLoader x).reports = s.reports := rfl
@[simp] theorem State.setLoader_time (s : State) (x : LoaderState) : (s.setLoader x).time = s.time := rfl
@[simp] theorem State.setLoader_journal (s : State) (x : LoaderState) : (s.setLoader x).journal = s.journal := rfl
@[simp] theorem State.setLoader_price (s : State) (x : LoaderState) : (s.setLoader x).price = s.price := rfl
@[simp] theorem State.setLoader_label (s : State) (x : LoaderState) : (s.setLoader x).label = s.label := rfl
@[simp] theorem State.setLoader_guest (s : State) (x : LoaderState) : (s.setLoader x).guest = s.guest := rfl
@[simp] theorem State.setLoader_day (s : State) (x : LoaderState) : (s.setLoader x).day = s.day := rfl
@[simp] theorem State.setLoader_loader (s : State) (x : LoaderState) : (s.setLoader x).loader = x := rfl
@[simp] theorem State.setLoader_retained (s : State) (x : LoaderState) : (s.setLoader x).retained = s.retained := rfl
@[simp] theorem State.setLoader_free (s : State) (x : LoaderState) : (s.setLoader x).free = s.free := rfl
@[simp] theorem State.setLoader_pending (s : State) (x : LoaderState) : (s.setLoader x).pending = s.pending := rfl

@[simp] theorem State.setRetained_link (s : State) (x : RetainedState) : (s.setRetained x).link = s.link := rfl
@[simp] theorem State.setRetained_guard (s : State) (x : RetainedState) : (s.setRetained x).guard = s.guard := rfl
@[simp] theorem State.setRetained_mem (s : State) (x : RetainedState) : (s.setRetained x).mem = s.mem := rfl
@[simp] theorem State.setRetained_decoder (s : State) (x : RetainedState) : (s.setRetained x).decoder = s.decoder := rfl
@[simp] theorem State.setRetained_reports (s : State) (x : RetainedState) : (s.setRetained x).reports = s.reports := rfl
@[simp] theorem State.setRetained_time (s : State) (x : RetainedState) : (s.setRetained x).time = s.time := rfl
@[simp] theorem State.setRetained_journal (s : State) (x : RetainedState) : (s.setRetained x).journal = s.journal := rfl
@[simp] theorem State.setRetained_price (s : State) (x : RetainedState) : (s.setRetained x).price = s.price := rfl
@[simp] theorem State.setRetained_label (s : State) (x : RetainedState) : (s.setRetained x).label = s.label := rfl
@[simp] theorem State.setRetained_guest (s : State) (x : RetainedState) : (s.setRetained x).guest = s.guest := rfl
@[simp] theorem State.setRetained_day (s : State) (x : RetainedState) : (s.setRetained x).day = s.day := rfl
@[simp] theorem State.setRetained_loader (s : State) (x : RetainedState) : (s.setRetained x).loader = s.loader := rfl
@[simp] theorem State.setRetained_retained (s : State) (x : RetainedState) : (s.setRetained x).retained = x := rfl
@[simp] theorem State.setRetained_free (s : State) (x : RetainedState) : (s.setRetained x).free = s.free := rfl
@[simp] theorem State.setRetained_pending (s : State) (x : RetainedState) : (s.setRetained x).pending = s.pending := rfl

@[simp] theorem State.setFree_link (s : State) (x : Nat) : (s.setFree x).link = s.link := rfl
@[simp] theorem State.setFree_guard (s : State) (x : Nat) : (s.setFree x).guard = s.guard := rfl
@[simp] theorem State.setFree_mem (s : State) (x : Nat) : (s.setFree x).mem = s.mem := rfl
@[simp] theorem State.setFree_decoder (s : State) (x : Nat) : (s.setFree x).decoder = s.decoder := rfl
@[simp] theorem State.setFree_reports (s : State) (x : Nat) : (s.setFree x).reports = s.reports := rfl
@[simp] theorem State.setFree_time (s : State) (x : Nat) : (s.setFree x).time = s.time := rfl
@[simp] theorem State.setFree_journal (s : State) (x : Nat) : (s.setFree x).journal = s.journal := rfl
@[simp] theorem State.setFree_price (s : State) (x : Nat) : (s.setFree x).price = s.price := rfl
@[simp] theorem State.setFree_label (s : State) (x : Nat) : (s.setFree x).label = s.label := rfl
@[simp] theorem State.setFree_guest (s : State) (x : Nat) : (s.setFree x).guest = s.guest := rfl
@[simp] theorem State.setFree_day (s : State) (x : Nat) : (s.setFree x).day = s.day := rfl
@[simp] theorem State.setFree_loader (s : State) (x : Nat) : (s.setFree x).loader = s.loader := rfl
@[simp] theorem State.setFree_retained (s : State) (x : Nat) : (s.setFree x).retained = s.retained := rfl
@[simp] theorem State.setFree_free (s : State) (x : Nat) : (s.setFree x).free = x := rfl
@[simp] theorem State.setFree_pending (s : State) (x : Nat) : (s.setFree x).pending = s.pending := rfl

@[simp] theorem State.setPending_link (s : State) (x : List Instr) : (s.setPending x).link = s.link := rfl
@[simp] theorem State.setPending_guard (s : State) (x : List Instr) : (s.setPending x).guard = s.guard := rfl
@[simp] theorem State.setPending_mem (s : State) (x : List Instr) : (s.setPending x).mem = s.mem := rfl
@[simp] theorem State.setPending_decoder (s : State) (x : List Instr) : (s.setPending x).decoder = s.decoder := rfl
@[simp] theorem State.setPending_reports (s : State) (x : List Instr) : (s.setPending x).reports = s.reports := rfl
@[simp] theorem State.setPending_time (s : State) (x : List Instr) : (s.setPending x).time = s.time := rfl
@[simp] theorem State.setPending_journal (s : State) (x : List Instr) : (s.setPending x).journal = s.journal := rfl
@[simp] theorem State.setPending_price (s : State) (x : List Instr) : (s.setPending x).price = s.price := rfl
@[simp] theorem State.setPending_label (s : State) (x : List Instr) : (s.setPending x).label = s.label := rfl
@[simp] theorem State.setPending_guest (s : State) (x : List Instr) : (s.setPending x).guest = s.guest := rfl
@[simp] theorem State.setPending_day (s : State) (x : List Instr) : (s.setPending x).day = s.day := rfl
@[simp] theorem State.setPending_loader (s : State) (x : List Instr) : (s.setPending x).loader = s.loader := rfl
@[simp] theorem State.setPending_retained (s : State) (x : List Instr) : (s.setPending x).retained = s.retained := rfl
@[simp] theorem State.setPending_free (s : State) (x : List Instr) : (s.setPending x).free = s.free := rfl
@[simp] theorem State.setPending_pending (s : State) (x : List Instr) : (s.setPending x).pending = x := rfl

end Sys2Proof.Machine
end

