-- ==== Sys2Proof/Laws/Frames.lean ====
section
/-! SUPPORT. What the shared operations leave alone: one lemma per operation and per part of the state it does not
touch. -/

namespace Sys2Proof.Machine

open Sys2Proof

/-! arise -/

@[simp] theorem arise_link (b : ReportBody) (s : State) : (arise b s).link = s.link := by unfold arise; split <;> rfl
@[simp] theorem arise_guard (b : ReportBody) (s : State) : (arise b s).guard = s.guard := by unfold arise; split <;> rfl
@[simp] theorem arise_mem (b : ReportBody) (s : State) : (arise b s).mem = s.mem := by unfold arise; split <;> rfl
@[simp] theorem arise_decoder (b : ReportBody) (s : State) : (arise b s).decoder = s.decoder := by unfold arise; split <;> rfl
@[simp] theorem arise_time (b : ReportBody) (s : State) : (arise b s).time = s.time := by unfold arise; split <;> rfl
@[simp] theorem arise_journal (b : ReportBody) (s : State) : (arise b s).journal = s.journal := by unfold arise; split <;> rfl
@[simp] theorem arise_price (b : ReportBody) (s : State) : (arise b s).price = s.price := by unfold arise; split <;> rfl
@[simp] theorem arise_label (b : ReportBody) (s : State) : (arise b s).label = s.label := by unfold arise; split <;> rfl
@[simp] theorem arise_guest (b : ReportBody) (s : State) : (arise b s).guest = s.guest := by unfold arise; split <;> rfl
@[simp] theorem arise_day (b : ReportBody) (s : State) : (arise b s).day = s.day := by unfold arise; split <;> rfl
@[simp] theorem arise_loader (b : ReportBody) (s : State) : (arise b s).loader = s.loader := by unfold arise; split <;> rfl
@[simp] theorem arise_retained (b : ReportBody) (s : State) : (arise b s).retained = s.retained := by unfold arise; split <;> rfl
@[simp] theorem arise_free (b : ReportBody) (s : State) : (arise b s).free = s.free := by unfold arise; split <;> rfl
@[simp] theorem arise_pending (b : ReportBody) (s : State) : (arise b s).pending = s.pending := by unfold arise; split <;> rfl

/-! evalIrq -/

@[simp] theorem evalIrq_link (s : State) : (evalIrq s).link = s.link := rfl
@[simp] theorem evalIrq_guard (s : State) : (evalIrq s).guard = s.guard := rfl
@[simp] theorem evalIrq_mem (s : State) : (evalIrq s).mem = s.mem := rfl
@[simp] theorem evalIrq_decoder (s : State) : (evalIrq s).decoder = s.decoder := rfl
@[simp] theorem evalIrq_time (s : State) : (evalIrq s).time = s.time := rfl
@[simp] theorem evalIrq_journal (s : State) : (evalIrq s).journal = s.journal := rfl
@[simp] theorem evalIrq_price (s : State) : (evalIrq s).price = s.price := rfl
@[simp] theorem evalIrq_label (s : State) : (evalIrq s).label = s.label := rfl
@[simp] theorem evalIrq_guest (s : State) : (evalIrq s).guest = s.guest := rfl
@[simp] theorem evalIrq_day (s : State) : (evalIrq s).day = s.day := rfl
@[simp] theorem evalIrq_loader (s : State) : (evalIrq s).loader = s.loader := rfl
@[simp] theorem evalIrq_retained (s : State) : (evalIrq s).retained = s.retained := rfl
@[simp] theorem evalIrq_free (s : State) : (evalIrq s).free = s.free := rfl
@[simp] theorem evalIrq_pending (s : State) : (evalIrq s).pending = s.pending := rfl

/-! logRefusal -/

@[simp] theorem logRefusal_link (e : GuardEntry) (s : State) : (logRefusal e s).link = s.link := by unfold logRefusal; split <;> (try split) <;> simp
@[simp] theorem logRefusal_mem (e : GuardEntry) (s : State) : (logRefusal e s).mem = s.mem := by unfold logRefusal; split <;> (try split) <;> simp
@[simp] theorem logRefusal_decoder (e : GuardEntry) (s : State) : (logRefusal e s).decoder = s.decoder := by unfold logRefusal; split <;> (try split) <;> simp
@[simp] theorem logRefusal_time (e : GuardEntry) (s : State) : (logRefusal e s).time = s.time := by unfold logRefusal; split <;> (try split) <;> simp
@[simp] theorem logRefusal_journal (e : GuardEntry) (s : State) : (logRefusal e s).journal = s.journal := by unfold logRefusal; split <;> (try split) <;> simp
@[simp] theorem logRefusal_price (e : GuardEntry) (s : State) : (logRefusal e s).price = s.price := by unfold logRefusal; split <;> (try split) <;> simp
@[simp] theorem logRefusal_label (e : GuardEntry) (s : State) : (logRefusal e s).label = s.label := by unfold logRefusal; split <;> (try split) <;> simp
@[simp] theorem logRefusal_guest (e : GuardEntry) (s : State) : (logRefusal e s).guest = s.guest := by unfold logRefusal; split <;> (try split) <;> simp
@[simp] theorem logRefusal_day (e : GuardEntry) (s : State) : (logRefusal e s).day = s.day := by unfold logRefusal; split <;> (try split) <;> simp
@[simp] theorem logRefusal_loader (e : GuardEntry) (s : State) : (logRefusal e s).loader = s.loader := by unfold logRefusal; split <;> (try split) <;> simp
@[simp] theorem logRefusal_retained (e : GuardEntry) (s : State) : (logRefusal e s).retained = s.retained := by unfold logRefusal; split <;> (try split) <;> simp
@[simp] theorem logRefusal_free (e : GuardEntry) (s : State) : (logRefusal e s).free = s.free := by unfold logRefusal; split <;> (try split) <;> simp
@[simp] theorem logRefusal_pending (e : GuardEntry) (s : State) : (logRefusal e s).pending = s.pending := by unfold logRefusal; split <;> (try split) <;> simp

/-! updateRequest -/

@[simp] theorem updateRequest_guard (t : Fin 64) (f : Request → Request) (s : State) : (updateRequest t f s).guard = s.guard := rfl
@[simp] theorem updateRequest_mem (t : Fin 64) (f : Request → Request) (s : State) : (updateRequest t f s).mem = s.mem := rfl
@[simp] theorem updateRequest_decoder (t : Fin 64) (f : Request → Request) (s : State) : (updateRequest t f s).decoder = s.decoder := rfl
@[simp] theorem updateRequest_reports (t : Fin 64) (f : Request → Request) (s : State) : (updateRequest t f s).reports = s.reports := rfl
@[simp] theorem updateRequest_time (t : Fin 64) (f : Request → Request) (s : State) : (updateRequest t f s).time = s.time := rfl
@[simp] theorem updateRequest_journal (t : Fin 64) (f : Request → Request) (s : State) : (updateRequest t f s).journal = s.journal := rfl
@[simp] theorem updateRequest_price (t : Fin 64) (f : Request → Request) (s : State) : (updateRequest t f s).price = s.price := rfl
@[simp] theorem updateRequest_label (t : Fin 64) (f : Request → Request) (s : State) : (updateRequest t f s).label = s.label := rfl
@[simp] theorem updateRequest_guest (t : Fin 64) (f : Request → Request) (s : State) : (updateRequest t f s).guest = s.guest := rfl
@[simp] theorem updateRequest_day (t : Fin 64) (f : Request → Request) (s : State) : (updateRequest t f s).day = s.day := rfl
@[simp] theorem updateRequest_loader (t : Fin 64) (f : Request → Request) (s : State) : (updateRequest t f s).loader = s.loader := rfl
@[simp] theorem updateRequest_retained (t : Fin 64) (f : Request → Request) (s : State) : (updateRequest t f s).retained = s.retained := rfl
@[simp] theorem updateRequest_free (t : Fin 64) (f : Request → Request) (s : State) : (updateRequest t f s).free = s.free := rfl
@[simp] theorem updateRequest_pending (t : Fin 64) (f : Request → Request) (s : State) : (updateRequest t f s).pending = s.pending := rfl

/-! updateLine -/

@[simp] theorem updateLine_guard (t : Fin 64) (k : Nat) (f : ReqLine → ReqLine) (s : State) : (updateLine t k f s).guard = s.guard := rfl
@[simp] theorem updateLine_mem (t : Fin 64) (k : Nat) (f : ReqLine → ReqLine) (s : State) : (updateLine t k f s).mem = s.mem := rfl
@[simp] theorem updateLine_decoder (t : Fin 64) (k : Nat) (f : ReqLine → ReqLine) (s : State) : (updateLine t k f s).decoder = s.decoder := rfl
@[simp] theorem updateLine_reports (t : Fin 64) (k : Nat) (f : ReqLine → ReqLine) (s : State) : (updateLine t k f s).reports = s.reports := rfl
@[simp] theorem updateLine_time (t : Fin 64) (k : Nat) (f : ReqLine → ReqLine) (s : State) : (updateLine t k f s).time = s.time := rfl
@[simp] theorem updateLine_journal (t : Fin 64) (k : Nat) (f : ReqLine → ReqLine) (s : State) : (updateLine t k f s).journal = s.journal := rfl
@[simp] theorem updateLine_price (t : Fin 64) (k : Nat) (f : ReqLine → ReqLine) (s : State) : (updateLine t k f s).price = s.price := rfl
@[simp] theorem updateLine_label (t : Fin 64) (k : Nat) (f : ReqLine → ReqLine) (s : State) : (updateLine t k f s).label = s.label := rfl
@[simp] theorem updateLine_guest (t : Fin 64) (k : Nat) (f : ReqLine → ReqLine) (s : State) : (updateLine t k f s).guest = s.guest := rfl
@[simp] theorem updateLine_day (t : Fin 64) (k : Nat) (f : ReqLine → ReqLine) (s : State) : (updateLine t k f s).day = s.day := rfl
@[simp] theorem updateLine_loader (t : Fin 64) (k : Nat) (f : ReqLine → ReqLine) (s : State) : (updateLine t k f s).loader = s.loader := rfl
@[simp] theorem updateLine_retained (t : Fin 64) (k : Nat) (f : ReqLine → ReqLine) (s : State) : (updateLine t k f s).retained = s.retained := rfl
@[simp] theorem updateLine_free (t : Fin 64) (k : Nat) (f : ReqLine → ReqLine) (s : State) : (updateLine t k f s).free = s.free := rfl
@[simp] theorem updateLine_pending (t : Fin 64) (k : Nat) (f : ReqLine → ReqLine) (s : State) : (updateLine t k f s).pending = s.pending := rfl

/-! removeRequest -/

@[simp] theorem removeRequest_guard (t : Fin 64) (s : State) : (removeRequest t s).guard = s.guard := rfl
@[simp] theorem removeRequest_mem (t : Fin 64) (s : State) : (removeRequest t s).mem = s.mem := rfl
@[simp] theorem removeRequest_decoder (t : Fin 64) (s : State) : (removeRequest t s).decoder = s.decoder := rfl
@[simp] theorem removeRequest_reports (t : Fin 64) (s : State) : (removeRequest t s).reports = s.reports := rfl
@[simp] theorem removeRequest_time (t : Fin 64) (s : State) : (removeRequest t s).time = s.time := rfl
@[simp] theorem removeRequest_journal (t : Fin 64) (s : State) : (removeRequest t s).journal = s.journal := rfl
@[simp] theorem removeRequest_price (t : Fin 64) (s : State) : (removeRequest t s).price = s.price := rfl
@[simp] theorem removeRequest_label (t : Fin 64) (s : State) : (removeRequest t s).label = s.label := rfl
@[simp] theorem removeRequest_guest (t : Fin 64) (s : State) : (removeRequest t s).guest = s.guest := rfl
@[simp] theorem removeRequest_day (t : Fin 64) (s : State) : (removeRequest t s).day = s.day := rfl
@[simp] theorem removeRequest_loader (t : Fin 64) (s : State) : (removeRequest t s).loader = s.loader := rfl
@[simp] theorem removeRequest_retained (t : Fin 64) (s : State) : (removeRequest t s).retained = s.retained := rfl
@[simp] theorem removeRequest_free (t : Fin 64) (s : State) : (removeRequest t s).free = s.free := rfl
@[simp] theorem removeRequest_pending (t : Fin 64) (s : State) : (removeRequest t s).pending = s.pending := rfl

/-! sendCompletion -/

@[simp] theorem sendCompletion_guard (c : Completion) (s : State) : (sendCompletion c s).guard = s.guard := rfl
@[simp] theorem sendCompletion_mem (c : Completion) (s : State) : (sendCompletion c s).mem = s.mem := rfl
@[simp] theorem sendCompletion_decoder (c : Completion) (s : State) : (sendCompletion c s).decoder = s.decoder := rfl
@[simp] theorem sendCompletion_reports (c : Completion) (s : State) : (sendCompletion c s).reports = s.reports := rfl
@[simp] theorem sendCompletion_time (c : Completion) (s : State) : (sendCompletion c s).time = s.time := rfl
@[simp] theorem sendCompletion_journal (c : Completion) (s : State) : (sendCompletion c s).journal = s.journal := rfl
@[simp] theorem sendCompletion_price (c : Completion) (s : State) : (sendCompletion c s).price = s.price := rfl
@[simp] theorem sendCompletion_label (c : Completion) (s : State) : (sendCompletion c s).label = s.label := rfl
@[simp] theorem sendCompletion_guest (c : Completion) (s : State) : (sendCompletion c s).guest = s.guest := rfl
@[simp] theorem sendCompletion_day (c : Completion) (s : State) : (sendCompletion c s).day = s.day := rfl
@[simp] theorem sendCompletion_loader (c : Completion) (s : State) : (sendCompletion c s).loader = s.loader := rfl
@[simp] theorem sendCompletion_retained (c : Completion) (s : State) : (sendCompletion c s).retained = s.retained := rfl
@[simp] theorem sendCompletion_free (c : Completion) (s : State) : (sendCompletion c s).free = s.free := rfl
@[simp] theorem sendCompletion_pending (c : Completion) (s : State) : (sendCompletion c s).pending = s.pending := rfl

/-! sendIfComplete -/

@[simp] theorem sendIfComplete_guard (t : Fin 64) (s : State) : (sendIfComplete t s).guard = s.guard := by unfold sendIfComplete; split <;> (try split) <;> simp
@[simp] theorem sendIfComplete_mem (t : Fin 64) (s : State) : (sendIfComplete t s).mem = s.mem := by unfold sendIfComplete; split <;> (try split) <;> simp
@[simp] theorem sendIfComplete_decoder (t : Fin 64) (s : State) : (sendIfComplete t s).decoder = s.decoder := by unfold sendIfComplete; split <;> (try split) <;> simp
@[simp] theorem sendIfComplete_reports (t : Fin 64) (s : State) : (sendIfComplete t s).reports = s.reports := by unfold sendIfComplete; split <;> (try split) <;> simp
@[simp] theorem sendIfComplete_time (t : Fin 64) (s : State) : (sendIfComplete t s).time = s.time := by unfold sendIfComplete; split <;> (try split) <;> simp
@[simp] theorem sendIfComplete_journal (t : Fin 64) (s : State) : (sendIfComplete t s).journal = s.journal := by unfold sendIfComplete; split <;> (try split) <;> simp
@[simp] theorem sendIfComplete_price (t : Fin 64) (s : State) : (sendIfComplete t s).price = s.price := by unfold sendIfComplete; split <;> (try split) <;> simp
@[simp] theorem sendIfComplete_label (t : Fin 64) (s : State) : (sendIfComplete t s).label = s.label := by unfold sendIfComplete; split <;> (try split) <;> simp
@[simp] theorem sendIfComplete_guest (t : Fin 64) (s : State) : (sendIfComplete t s).guest = s.guest := by unfold sendIfComplete; split <;> (try split) <;> simp
@[simp] theorem sendIfComplete_day (t : Fin 64) (s : State) : (sendIfComplete t s).day = s.day := by unfold sendIfComplete; split <;> (try split) <;> simp
@[simp] theorem sendIfComplete_loader (t : Fin 64) (s : State) : (sendIfComplete t s).loader = s.loader := by unfold sendIfComplete; split <;> (try split) <;> simp
@[simp] theorem sendIfComplete_retained (t : Fin 64) (s : State) : (sendIfComplete t s).retained = s.retained := by unfold sendIfComplete; split <;> (try split) <;> simp
@[simp] theorem sendIfComplete_free (t : Fin 64) (s : State) : (sendIfComplete t s).free = s.free := by unfold sendIfComplete; split <;> (try split) <;> simp
@[simp] theorem sendIfComplete_pending (t : Fin 64) (s : State) : (sendIfComplete t s).pending = s.pending := by unfold sendIfComplete; split <;> (try split) <;> simp

/-! setOutcome -/

@[simp] theorem setOutcome_guard (t : Fin 64) (k : Nat) (o : LineOutcome) (d : Line) (s : State) : (setOutcome t k o d s).guard = s.guard := by simp [setOutcome]
@[simp] theorem setOutcome_mem (t : Fin 64) (k : Nat) (o : LineOutcome) (d : Line) (s : State) : (setOutcome t k o d s).mem = s.mem := by simp [setOutcome]
@[simp] theorem setOutcome_decoder (t : Fin 64) (k : Nat) (o : LineOutcome) (d : Line) (s : State) : (setOutcome t k o d s).decoder = s.decoder := by simp [setOutcome]
@[simp] theorem setOutcome_reports (t : Fin 64) (k : Nat) (o : LineOutcome) (d : Line) (s : State) : (setOutcome t k o d s).reports = s.reports := by simp [setOutcome]
@[simp] theorem setOutcome_time (t : Fin 64) (k : Nat) (o : LineOutcome) (d : Line) (s : State) : (setOutcome t k o d s).time = s.time := by simp [setOutcome]
@[simp] theorem setOutcome_journal (t : Fin 64) (k : Nat) (o : LineOutcome) (d : Line) (s : State) : (setOutcome t k o d s).journal = s.journal := by simp [setOutcome]
@[simp] theorem setOutcome_price (t : Fin 64) (k : Nat) (o : LineOutcome) (d : Line) (s : State) : (setOutcome t k o d s).price = s.price := by simp [setOutcome]
@[simp] theorem setOutcome_label (t : Fin 64) (k : Nat) (o : LineOutcome) (d : Line) (s : State) : (setOutcome t k o d s).label = s.label := by simp [setOutcome]
@[simp] theorem setOutcome_guest (t : Fin 64) (k : Nat) (o : LineOutcome) (d : Line) (s : State) : (setOutcome t k o d s).guest = s.guest := by simp [setOutcome]
@[simp] theorem setOutcome_day (t : Fin 64) (k : Nat) (o : LineOutcome) (d : Line) (s : State) : (setOutcome t k o d s).day = s.day := by simp [setOutcome]
@[simp] theorem setOutcome_loader (t : Fin 64) (k : Nat) (o : LineOutcome) (d : Line) (s : State) : (setOutcome t k o d s).loader = s.loader := by simp [setOutcome]
@[simp] theorem setOutcome_retained (t : Fin 64) (k : Nat) (o : LineOutcome) (d : Line) (s : State) : (setOutcome t k o d s).retained = s.retained := by simp [setOutcome]
@[simp] theorem setOutcome_free (t : Fin 64) (k : Nat) (o : LineOutcome) (d : Line) (s : State) : (setOutcome t k o d s).free = s.free := by simp [setOutcome]
@[simp] theorem setOutcome_pending (t : Fin 64) (k : Nat) (o : LineOutcome) (d : Line) (s : State) : (setOutcome t k o d s).pending = s.pending := by simp [setOutcome]

/-! answerRetry -/

@[simp] theorem answerRetry_guard (t : Fin 64) (s : State) : (answerRetry t s).guard = s.guard := by simp [answerRetry]
@[simp] theorem answerRetry_mem (t : Fin 64) (s : State) : (answerRetry t s).mem = s.mem := by simp [answerRetry]
@[simp] theorem answerRetry_decoder (t : Fin 64) (s : State) : (answerRetry t s).decoder = s.decoder := by simp [answerRetry]
@[simp] theorem answerRetry_reports (t : Fin 64) (s : State) : (answerRetry t s).reports = s.reports := by simp [answerRetry]
@[simp] theorem answerRetry_time (t : Fin 64) (s : State) : (answerRetry t s).time = s.time := by simp [answerRetry]
@[simp] theorem answerRetry_journal (t : Fin 64) (s : State) : (answerRetry t s).journal = s.journal := by simp [answerRetry]
@[simp] theorem answerRetry_price (t : Fin 64) (s : State) : (answerRetry t s).price = s.price := by simp [answerRetry]
@[simp] theorem answerRetry_label (t : Fin 64) (s : State) : (answerRetry t s).label = s.label := by simp [answerRetry]
@[simp] theorem answerRetry_guest (t : Fin 64) (s : State) : (answerRetry t s).guest = s.guest := by simp [answerRetry]
@[simp] theorem answerRetry_day (t : Fin 64) (s : State) : (answerRetry t s).day = s.day := by simp [answerRetry]
@[simp] theorem answerRetry_loader (t : Fin 64) (s : State) : (answerRetry t s).loader = s.loader := by simp [answerRetry]
@[simp] theorem answerRetry_retained (t : Fin 64) (s : State) : (answerRetry t s).retained = s.retained := by simp [answerRetry]
@[simp] theorem answerRetry_free (t : Fin 64) (s : State) : (answerRetry t s).free = s.free := by simp [answerRetry]
@[simp] theorem answerRetry_pending (t : Fin 64) (s : State) : (answerRetry t s).pending = s.pending := by simp [answerRetry]

/-! recordLine -/

@[simp] theorem recordLine_mem (t : Fin 64) (k : Nat) (c : Cause) (s : State) : (recordLine t k c s).mem = s.mem := by unfold recordLine; split <;> (try split) <;> simp
@[simp] theorem recordLine_decoder (t : Fin 64) (k : Nat) (c : Cause) (s : State) : (recordLine t k c s).decoder = s.decoder := by unfold recordLine; split <;> (try split) <;> simp
@[simp] theorem recordLine_time (t : Fin 64) (k : Nat) (c : Cause) (s : State) : (recordLine t k c s).time = s.time := by unfold recordLine; split <;> (try split) <;> simp
@[simp] theorem recordLine_journal (t : Fin 64) (k : Nat) (c : Cause) (s : State) : (recordLine t k c s).journal = s.journal := by unfold recordLine; split <;> (try split) <;> simp
@[simp] theorem recordLine_price (t : Fin 64) (k : Nat) (c : Cause) (s : State) : (recordLine t k c s).price = s.price := by unfold recordLine; split <;> (try split) <;> simp
@[simp] theorem recordLine_label (t : Fin 64) (k : Nat) (c : Cause) (s : State) : (recordLine t k c s).label = s.label := by unfold recordLine; split <;> (try split) <;> simp
@[simp] theorem recordLine_guest (t : Fin 64) (k : Nat) (c : Cause) (s : State) : (recordLine t k c s).guest = s.guest := by unfold recordLine; split <;> (try split) <;> simp
@[simp] theorem recordLine_day (t : Fin 64) (k : Nat) (c : Cause) (s : State) : (recordLine t k c s).day = s.day := by unfold recordLine; split <;> (try split) <;> simp
@[simp] theorem recordLine_loader (t : Fin 64) (k : Nat) (c : Cause) (s : State) : (recordLine t k c s).loader = s.loader := by unfold recordLine; split <;> (try split) <;> simp
@[simp] theorem recordLine_retained (t : Fin 64) (k : Nat) (c : Cause) (s : State) : (recordLine t k c s).retained = s.retained := by unfold recordLine; split <;> (try split) <;> simp
@[simp] theorem recordLine_free (t : Fin 64) (k : Nat) (c : Cause) (s : State) : (recordLine t k c s).free = s.free := by unfold recordLine; split <;> (try split) <;> simp
@[simp] theorem recordLine_pending (t : Fin 64) (k : Nat) (c : Cause) (s : State) : (recordLine t k c s).pending = s.pending := by unfold recordLine; split <;> (try split) <;> simp

/-! activate -/

@[simp] theorem activate_guard (t : Fin 64) (s : State) : (activate t s).guard = s.guard := rfl
@[simp] theorem activate_mem (t : Fin 64) (s : State) : (activate t s).mem = s.mem := rfl
@[simp] theorem activate_decoder (t : Fin 64) (s : State) : (activate t s).decoder = s.decoder := rfl
@[simp] theorem activate_reports (t : Fin 64) (s : State) : (activate t s).reports = s.reports := rfl
@[simp] theorem activate_time (t : Fin 64) (s : State) : (activate t s).time = s.time := rfl
@[simp] theorem activate_journal (t : Fin 64) (s : State) : (activate t s).journal = s.journal := rfl
@[simp] theorem activate_price (t : Fin 64) (s : State) : (activate t s).price = s.price := rfl
@[simp] theorem activate_label (t : Fin 64) (s : State) : (activate t s).label = s.label := rfl
@[simp] theorem activate_guest (t : Fin 64) (s : State) : (activate t s).guest = s.guest := rfl
@[simp] theorem activate_day (t : Fin 64) (s : State) : (activate t s).day = s.day := rfl
@[simp] theorem activate_loader (t : Fin 64) (s : State) : (activate t s).loader = s.loader := rfl
@[simp] theorem activate_retained (t : Fin 64) (s : State) : (activate t s).retained = s.retained := rfl
@[simp] theorem activate_free (t : Fin 64) (s : State) : (activate t s).free = s.free := rfl
@[simp] theorem activate_pending (t : Fin 64) (s : State) : (activate t s).pending = s.pending := rfl

/-! issueAccess -/

@[simp] theorem issueAccess_link (src : Source) (a : Access) (s : State) : (issueAccess src a s).link = s.link := rfl
@[simp] theorem issueAccess_guard (src : Source) (a : Access) (s : State) : (issueAccess src a s).guard = s.guard := rfl
@[simp] theorem issueAccess_decoder (src : Source) (a : Access) (s : State) : (issueAccess src a s).decoder = s.decoder := rfl
@[simp] theorem issueAccess_reports (src : Source) (a : Access) (s : State) : (issueAccess src a s).reports = s.reports := rfl
@[simp] theorem issueAccess_time (src : Source) (a : Access) (s : State) : (issueAccess src a s).time = s.time := rfl
@[simp] theorem issueAccess_journal (src : Source) (a : Access) (s : State) : (issueAccess src a s).journal = s.journal := rfl
@[simp] theorem issueAccess_price (src : Source) (a : Access) (s : State) : (issueAccess src a s).price = s.price := rfl
@[simp] theorem issueAccess_label (src : Source) (a : Access) (s : State) : (issueAccess src a s).label = s.label := rfl
@[simp] theorem issueAccess_guest (src : Source) (a : Access) (s : State) : (issueAccess src a s).guest = s.guest := rfl
@[simp] theorem issueAccess_day (src : Source) (a : Access) (s : State) : (issueAccess src a s).day = s.day := rfl
@[simp] theorem issueAccess_loader (src : Source) (a : Access) (s : State) : (issueAccess src a s).loader = s.loader := rfl
@[simp] theorem issueAccess_retained (src : Source) (a : Access) (s : State) : (issueAccess src a s).retained = s.retained := rfl
@[simp] theorem issueAccess_free (src : Source) (a : Access) (s : State) : (issueAccess src a s).free = s.free := rfl
@[simp] theorem issueAccess_pending (src : Source) (a : Access) (s : State) : (issueAccess src a s).pending = s.pending := rfl

/-! enqueue -/

@[simp] theorem enqueue_link (p : PassedLine) (s : State) : (enqueue p s).link = s.link := by unfold enqueue; split <;> rfl
@[simp] theorem enqueue_guard (p : PassedLine) (s : State) : (enqueue p s).guard = s.guard := by unfold enqueue; split <;> rfl
@[simp] theorem enqueue_decoder (p : PassedLine) (s : State) : (enqueue p s).decoder = s.decoder := by unfold enqueue; split <;> rfl
@[simp] theorem enqueue_reports (p : PassedLine) (s : State) : (enqueue p s).reports = s.reports := by unfold enqueue; split <;> rfl
@[simp] theorem enqueue_time (p : PassedLine) (s : State) : (enqueue p s).time = s.time := by unfold enqueue; split <;> rfl
@[simp] theorem enqueue_journal (p : PassedLine) (s : State) : (enqueue p s).journal = s.journal := by unfold enqueue; split <;> rfl
@[simp] theorem enqueue_price (p : PassedLine) (s : State) : (enqueue p s).price = s.price := by unfold enqueue; split <;> rfl
@[simp] theorem enqueue_label (p : PassedLine) (s : State) : (enqueue p s).label = s.label := by unfold enqueue; split <;> rfl
@[simp] theorem enqueue_guest (p : PassedLine) (s : State) : (enqueue p s).guest = s.guest := by unfold enqueue; split <;> rfl
@[simp] theorem enqueue_day (p : PassedLine) (s : State) : (enqueue p s).day = s.day := by unfold enqueue; split <;> rfl
@[simp] theorem enqueue_loader (p : PassedLine) (s : State) : (enqueue p s).loader = s.loader := by unfold enqueue; split <;> rfl
@[simp] theorem enqueue_retained (p : PassedLine) (s : State) : (enqueue p s).retained = s.retained := by unfold enqueue; split <;> rfl
@[simp] theorem enqueue_free (p : PassedLine) (s : State) : (enqueue p s).free = s.free := by unfold enqueue; split <;> rfl
@[simp] theorem enqueue_pending (p : PassedLine) (s : State) : (enqueue p s).pending = s.pending := by unfold enqueue; split <;> rfl

/-! handLine -/

@[simp] theorem handLine_guard (t : Fin 64) (k : Nat) (c : Option EntryCommit) (r : Bool) (s : State) : (handLine t k c r s).guard = s.guard := by unfold handLine; split <;> (try split) <;> (try split) <;> simp
@[simp] theorem handLine_decoder (t : Fin 64) (k : Nat) (c : Option EntryCommit) (r : Bool) (s : State) : (handLine t k c r s).decoder = s.decoder := by unfold handLine; split <;> (try split) <;> (try split) <;> simp
@[simp] theorem handLine_reports (t : Fin 64) (k : Nat) (c : Option EntryCommit) (r : Bool) (s : State) : (handLine t k c r s).reports = s.reports := by unfold handLine; split <;> (try split) <;> (try split) <;> simp
@[simp] theorem handLine_time (t : Fin 64) (k : Nat) (c : Option EntryCommit) (r : Bool) (s : State) : (handLine t k c r s).time = s.time := by unfold handLine; split <;> (try split) <;> (try split) <;> simp
@[simp] theorem handLine_journal (t : Fin 64) (k : Nat) (c : Option EntryCommit) (r : Bool) (s : State) : (handLine t k c r s).journal = s.journal := by unfold handLine; split <;> (try split) <;> (try split) <;> simp
@[simp] theorem handLine_price (t : Fin 64) (k : Nat) (c : Option EntryCommit) (r : Bool) (s : State) : (handLine t k c r s).price = s.price := by unfold handLine; split <;> (try split) <;> (try split) <;> simp
@[simp] theorem handLine_label (t : Fin 64) (k : Nat) (c : Option EntryCommit) (r : Bool) (s : State) : (handLine t k c r s).label = s.label := by unfold handLine; split <;> (try split) <;> (try split) <;> simp
@[simp] theorem handLine_guest (t : Fin 64) (k : Nat) (c : Option EntryCommit) (r : Bool) (s : State) : (handLine t k c r s).guest = s.guest := by unfold handLine; split <;> (try split) <;> (try split) <;> simp
@[simp] theorem handLine_day (t : Fin 64) (k : Nat) (c : Option EntryCommit) (r : Bool) (s : State) : (handLine t k c r s).day = s.day := by unfold handLine; split <;> (try split) <;> (try split) <;> simp
@[simp] theorem handLine_loader (t : Fin 64) (k : Nat) (c : Option EntryCommit) (r : Bool) (s : State) : (handLine t k c r s).loader = s.loader := by unfold handLine; split <;> (try split) <;> (try split) <;> simp
@[simp] theorem handLine_retained (t : Fin 64) (k : Nat) (c : Option EntryCommit) (r : Bool) (s : State) : (handLine t k c r s).retained = s.retained := by unfold handLine; split <;> (try split) <;> (try split) <;> simp
@[simp] theorem handLine_free (t : Fin 64) (k : Nat) (c : Option EntryCommit) (r : Bool) (s : State) : (handLine t k c r s).free = s.free := by unfold handLine; split <;> (try split) <;> (try split) <;> simp
@[simp] theorem handLine_pending (t : Fin 64) (k : Nat) (c : Option EntryCommit) (r : Bool) (s : State) : (handLine t k c r s).pending = s.pending := by unfold handLine; split <;> (try split) <;> (try split) <;> simp

/-! portIdle -/

@[simp] theorem portIdle_link (s : State) : (portIdle s).link = s.link := rfl
@[simp] theorem portIdle_guard (s : State) : (portIdle s).guard = s.guard := rfl
@[simp] theorem portIdle_decoder (s : State) : (portIdle s).decoder = s.decoder := rfl
@[simp] theorem portIdle_reports (s : State) : (portIdle s).reports = s.reports := rfl
@[simp] theorem portIdle_time (s : State) : (portIdle s).time = s.time := rfl
@[simp] theorem portIdle_journal (s : State) : (portIdle s).journal = s.journal := rfl
@[simp] theorem portIdle_price (s : State) : (portIdle s).price = s.price := rfl
@[simp] theorem portIdle_label (s : State) : (portIdle s).label = s.label := rfl
@[simp] theorem portIdle_guest (s : State) : (portIdle s).guest = s.guest := rfl
@[simp] theorem portIdle_day (s : State) : (portIdle s).day = s.day := rfl
@[simp] theorem portIdle_loader (s : State) : (portIdle s).loader = s.loader := rfl
@[simp] theorem portIdle_retained (s : State) : (portIdle s).retained = s.retained := rfl
@[simp] theorem portIdle_free (s : State) : (portIdle s).free = s.free := rfl
@[simp] theorem portIdle_pending (s : State) : (portIdle s).pending = s.pending := rfl

/-! releaseSlot -/

@[simp] theorem releaseSlot_link (src : Source) (s : State) : (releaseSlot src s).link = s.link := rfl
@[simp] theorem releaseSlot_guard (src : Source) (s : State) : (releaseSlot src s).guard = s.guard := rfl
@[simp] theorem releaseSlot_decoder (src : Source) (s : State) : (releaseSlot src s).decoder = s.decoder := rfl
@[simp] theorem releaseSlot_reports (src : Source) (s : State) : (releaseSlot src s).reports = s.reports := rfl
@[simp] theorem releaseSlot_time (src : Source) (s : State) : (releaseSlot src s).time = s.time := rfl
@[simp] theorem releaseSlot_journal (src : Source) (s : State) : (releaseSlot src s).journal = s.journal := rfl
@[simp] theorem releaseSlot_price (src : Source) (s : State) : (releaseSlot src s).price = s.price := rfl
@[simp] theorem releaseSlot_label (src : Source) (s : State) : (releaseSlot src s).label = s.label := rfl
@[simp] theorem releaseSlot_guest (src : Source) (s : State) : (releaseSlot src s).guest = s.guest := rfl
@[simp] theorem releaseSlot_day (src : Source) (s : State) : (releaseSlot src s).day = s.day := rfl
@[simp] theorem releaseSlot_loader (src : Source) (s : State) : (releaseSlot src s).loader = s.loader := rfl
@[simp] theorem releaseSlot_retained (src : Source) (s : State) : (releaseSlot src s).retained = s.retained := rfl
@[simp] theorem releaseSlot_free (src : Source) (s : State) : (releaseSlot src s).free = s.free := rfl
@[simp] theorem releaseSlot_pending (src : Source) (s : State) : (releaseSlot src s).pending = s.pending := rfl

/-! storeAccess -/

@[simp] theorem storeAccess_link (b : Bool) (a : Access) (s : State) : (storeAccess b a s).link = s.link := by unfold storeAccess; split <;> rfl
@[simp] theorem storeAccess_guard (b : Bool) (a : Access) (s : State) : (storeAccess b a s).guard = s.guard := by unfold storeAccess; split <;> rfl
@[simp] theorem storeAccess_decoder (b : Bool) (a : Access) (s : State) : (storeAccess b a s).decoder = s.decoder := by unfold storeAccess; split <;> rfl
@[simp] theorem storeAccess_reports (b : Bool) (a : Access) (s : State) : (storeAccess b a s).reports = s.reports := by unfold storeAccess; split <;> rfl
@[simp] theorem storeAccess_time (b : Bool) (a : Access) (s : State) : (storeAccess b a s).time = s.time := by unfold storeAccess; split <;> rfl
@[simp] theorem storeAccess_journal (b : Bool) (a : Access) (s : State) : (storeAccess b a s).journal = s.journal := by unfold storeAccess; split <;> rfl
@[simp] theorem storeAccess_price (b : Bool) (a : Access) (s : State) : (storeAccess b a s).price = s.price := by unfold storeAccess; split <;> rfl
@[simp] theorem storeAccess_label (b : Bool) (a : Access) (s : State) : (storeAccess b a s).label = s.label := by unfold storeAccess; split <;> rfl
@[simp] theorem storeAccess_guest (b : Bool) (a : Access) (s : State) : (storeAccess b a s).guest = s.guest := by unfold storeAccess; split <;> rfl
@[simp] theorem storeAccess_day (b : Bool) (a : Access) (s : State) : (storeAccess b a s).day = s.day := by unfold storeAccess; split <;> rfl
@[simp] theorem storeAccess_loader (b : Bool) (a : Access) (s : State) : (storeAccess b a s).loader = s.loader := by unfold storeAccess; split <;> rfl
@[simp] theorem storeAccess_retained (b : Bool) (a : Access) (s : State) : (storeAccess b a s).retained = s.retained := by unfold storeAccess; split <;> rfl
@[simp] theorem storeAccess_free (b : Bool) (a : Access) (s : State) : (storeAccess b a s).free = s.free := by unfold storeAccess; split <;> rfl
@[simp] theorem storeAccess_pending (b : Bool) (a : Access) (s : State) : (storeAccess b a s).pending = s.pending := by unfold storeAccess; split <;> rfl

/-! setBank -/

@[simp] theorem setBank_link (bk : Bank) (r : BankRecord) (s : State) : (setBank bk r s).link = s.link := by cases bk <;> rfl
@[simp] theorem setBank_guard (bk : Bank) (r : BankRecord) (s : State) : (setBank bk r s).guard = s.guard := by cases bk <;> rfl
@[simp] theorem setBank_mem (bk : Bank) (r : BankRecord) (s : State) : (setBank bk r s).mem = s.mem := by cases bk <;> rfl
@[simp] theorem setBank_decoder (bk : Bank) (r : BankRecord) (s : State) : (setBank bk r s).decoder = s.decoder := by cases bk <;> rfl
@[simp] theorem setBank_reports (bk : Bank) (r : BankRecord) (s : State) : (setBank bk r s).reports = s.reports := by cases bk <;> rfl
@[simp] theorem setBank_time (bk : Bank) (r : BankRecord) (s : State) : (setBank bk r s).time = s.time := by cases bk <;> rfl
@[simp] theorem setBank_price (bk : Bank) (r : BankRecord) (s : State) : (setBank bk r s).price = s.price := by cases bk <;> rfl
@[simp] theorem setBank_label (bk : Bank) (r : BankRecord) (s : State) : (setBank bk r s).label = s.label := by cases bk <;> rfl
@[simp] theorem setBank_guest (bk : Bank) (r : BankRecord) (s : State) : (setBank bk r s).guest = s.guest := by cases bk <;> rfl
@[simp] theorem setBank_day (bk : Bank) (r : BankRecord) (s : State) : (setBank bk r s).day = s.day := by cases bk <;> rfl
@[simp] theorem setBank_loader (bk : Bank) (r : BankRecord) (s : State) : (setBank bk r s).loader = s.loader := by cases bk <;> rfl
@[simp] theorem setBank_retained (bk : Bank) (r : BankRecord) (s : State) : (setBank bk r s).retained = s.retained := by cases bk <;> rfl
@[simp] theorem setBank_free (bk : Bank) (r : BankRecord) (s : State) : (setBank bk r s).free = s.free := by cases bk <;> rfl
@[simp] theorem setBank_pending (bk : Bank) (r : BankRecord) (s : State) : (setBank bk r s).pending = s.pending := by cases bk <;> rfl

/-! setRetained -/

@[simp] theorem setRetained_link (bk : Bank) (r : RetainedBank) (s : State) : (setRetained bk r s).link = s.link := by cases bk <;> rfl
@[simp] theorem setRetained_guard (bk : Bank) (r : RetainedBank) (s : State) : (setRetained bk r s).guard = s.guard := by cases bk <;> rfl
@[simp] theorem setRetained_mem (bk : Bank) (r : RetainedBank) (s : State) : (setRetained bk r s).mem = s.mem := by cases bk <;> rfl
@[simp] theorem setRetained_decoder (bk : Bank) (r : RetainedBank) (s : State) : (setRetained bk r s).decoder = s.decoder := by cases bk <;> rfl
@[simp] theorem setRetained_reports (bk : Bank) (r : RetainedBank) (s : State) : (setRetained bk r s).reports = s.reports := by cases bk <;> rfl
@[simp] theorem setRetained_time (bk : Bank) (r : RetainedBank) (s : State) : (setRetained bk r s).time = s.time := by cases bk <;> rfl
@[simp] theorem setRetained_journal (bk : Bank) (r : RetainedBank) (s : State) : (setRetained bk r s).journal = s.journal := by cases bk <;> rfl
@[simp] theorem setRetained_price (bk : Bank) (r : RetainedBank) (s : State) : (setRetained bk r s).price = s.price := by cases bk <;> rfl
@[simp] theorem setRetained_label (bk : Bank) (r : RetainedBank) (s : State) : (setRetained bk r s).label = s.label := by cases bk <;> rfl
@[simp] theorem setRetained_guest (bk : Bank) (r : RetainedBank) (s : State) : (setRetained bk r s).guest = s.guest := by cases bk <;> rfl
@[simp] theorem setRetained_day (bk : Bank) (r : RetainedBank) (s : State) : (setRetained bk r s).day = s.day := by cases bk <;> rfl
@[simp] theorem setRetained_loader (bk : Bank) (r : RetainedBank) (s : State) : (setRetained bk r s).loader = s.loader := by cases bk <;> rfl
@[simp] theorem setRetained_free (bk : Bank) (r : RetainedBank) (s : State) : (setRetained bk r s).free = s.free := by cases bk <;> rfl
@[simp] theorem setRetained_pending (bk : Bank) (r : RetainedBank) (s : State) : (setRetained bk r s).pending = s.pending := by cases bk <;> rfl

/-! retainBank -/

@[simp] theorem retainBank_link (bk : Bank) (s : State) : (retainBank bk s).link = s.link := by cases bk <;> rfl
@[simp] theorem retainBank_guard (bk : Bank) (s : State) : (retainBank bk s).guard = s.guard := by cases bk <;> rfl
@[simp] theorem retainBank_mem (bk : Bank) (s : State) : (retainBank bk s).mem = s.mem := by cases bk <;> rfl
@[simp] theorem retainBank_decoder (bk : Bank) (s : State) : (retainBank bk s).decoder = s.decoder := by cases bk <;> rfl
@[simp] theorem retainBank_reports (bk : Bank) (s : State) : (retainBank bk s).reports = s.reports := by cases bk <;> rfl
@[simp] theorem retainBank_time (bk : Bank) (s : State) : (retainBank bk s).time = s.time := by cases bk <;> rfl
@[simp] theorem retainBank_journal (bk : Bank) (s : State) : (retainBank bk s).journal = s.journal := by cases bk <;> rfl
@[simp] theorem retainBank_price (bk : Bank) (s : State) : (retainBank bk s).price = s.price := by cases bk <;> rfl
@[simp] theorem retainBank_label (bk : Bank) (s : State) : (retainBank bk s).label = s.label := by cases bk <;> rfl
@[simp] theorem retainBank_guest (bk : Bank) (s : State) : (retainBank bk s).guest = s.guest := by cases bk <;> rfl
@[simp] theorem retainBank_day (bk : Bank) (s : State) : (retainBank bk s).day = s.day := by cases bk <;> rfl
@[simp] theorem retainBank_loader (bk : Bank) (s : State) : (retainBank bk s).loader = s.loader := by cases bk <;> rfl
@[simp] theorem retainBank_free (bk : Bank) (s : State) : (retainBank bk s).free = s.free := by cases bk <;> rfl
@[simp] theorem retainBank_pending (bk : Bank) (s : State) : (retainBank bk s).pending = s.pending := by cases bk <;> rfl

/-! updateRoleWindow -/

@[simp] theorem updateRoleWindow_link (r : Role) (f : Window → Window) (s : State) : (updateRoleWindow r f s).link = s.link := by unfold updateRoleWindow; split <;> rfl
@[simp] theorem updateRoleWindow_mem (r : Role) (f : Window → Window) (s : State) : (updateRoleWindow r f s).mem = s.mem := by unfold updateRoleWindow; split <;> rfl
@[simp] theorem updateRoleWindow_decoder (r : Role) (f : Window → Window) (s : State) : (updateRoleWindow r f s).decoder = s.decoder := by unfold updateRoleWindow; split <;> rfl
@[simp] theorem updateRoleWindow_reports (r : Role) (f : Window → Window) (s : State) : (updateRoleWindow r f s).reports = s.reports := by unfold updateRoleWindow; split <;> rfl
@[simp] theorem updateRoleWindow_time (r : Role) (f : Window → Window) (s : State) : (updateRoleWindow r f s).time = s.time := by unfold updateRoleWindow; split <;> rfl
@[simp] theorem updateRoleWindow_journal (r : Role) (f : Window → Window) (s : State) : (updateRoleWindow r f s).journal = s.journal := by unfold updateRoleWindow; split <;> rfl
@[simp] theorem updateRoleWindow_price (r : Role) (f : Window → Window) (s : State) : (updateRoleWindow r f s).price = s.price := by unfold updateRoleWindow; split <;> rfl
@[simp] theorem updateRoleWindow_label (r : Role) (f : Window → Window) (s : State) : (updateRoleWindow r f s).label = s.label := by unfold updateRoleWindow; split <;> rfl
@[simp] theorem updateRoleWindow_guest (r : Role) (f : Window → Window) (s : State) : (updateRoleWindow r f s).guest = s.guest := by unfold updateRoleWindow; split <;> rfl
@[simp] theorem updateRoleWindow_day (r : Role) (f : Window → Window) (s : State) : (updateRoleWindow r f s).day = s.day := by unfold updateRoleWindow; split <;> rfl
@[simp] theorem updateRoleWindow_loader (r : Role) (f : Window → Window) (s : State) : (updateRoleWindow r f s).loader = s.loader := by unfold updateRoleWindow; split <;> rfl
@[simp] theorem updateRoleWindow_retained (r : Role) (f : Window → Window) (s : State) : (updateRoleWindow r f s).retained = s.retained := by unfold updateRoleWindow; split <;> rfl
@[simp] theorem updateRoleWindow_free (r : Role) (f : Window → Window) (s : State) : (updateRoleWindow r f s).free = s.free := by unfold updateRoleWindow; split <;> rfl
@[simp] theorem updateRoleWindow_pending (r : Role) (f : Window → Window) (s : State) : (updateRoleWindow r f s).pending = s.pending := by unfold updateRoleWindow; split <;> rfl

/-! setBankState -/

@[simp] theorem setBankState_link (bk : Bank) (st : BankState) (s : State) : (setBankState bk st s).link = s.link := by simp [setBankState]
@[simp] theorem setBankState_mem (bk : Bank) (st : BankState) (s : State) : (setBankState bk st s).mem = s.mem := by simp [setBankState]
@[simp] theorem setBankState_decoder (bk : Bank) (st : BankState) (s : State) : (setBankState bk st s).decoder = s.decoder := by simp [setBankState]
@[simp] theorem setBankState_reports (bk : Bank) (st : BankState) (s : State) : (setBankState bk st s).reports = s.reports := by simp [setBankState]
@[simp] theorem setBankState_time (bk : Bank) (st : BankState) (s : State) : (setBankState bk st s).time = s.time := by simp [setBankState]
@[simp] theorem setBankState_price (bk : Bank) (st : BankState) (s : State) : (setBankState bk st s).price = s.price := by simp [setBankState]
@[simp] theorem setBankState_label (bk : Bank) (st : BankState) (s : State) : (setBankState bk st s).label = s.label := by simp [setBankState]
@[simp] theorem setBankState_guest (bk : Bank) (st : BankState) (s : State) : (setBankState bk st s).guest = s.guest := by simp [setBankState]
@[simp] theorem setBankState_day (bk : Bank) (st : BankState) (s : State) : (setBankState bk st s).day = s.day := by simp [setBankState]
@[simp] theorem setBankState_loader (bk : Bank) (st : BankState) (s : State) : (setBankState bk st s).loader = s.loader := by simp [setBankState]
@[simp] theorem setBankState_retained (bk : Bank) (st : BankState) (s : State) : (setBankState bk st s).retained = s.retained := by simp [setBankState]
@[simp] theorem setBankState_free (bk : Bank) (st : BankState) (s : State) : (setBankState bk st s).free = s.free := by simp [setBankState]
@[simp] theorem setBankState_pending (bk : Bank) (st : BankState) (s : State) : (setBankState bk st s).pending = s.pending := by simp [setBankState]

/-! setWanRights -/

@[simp] theorem setWanRights_link (bk : Bank) (r : Rights) (s : State) : (setWanRights bk r s).link = s.link := by simp [setWanRights]
@[simp] theorem setWanRights_mem (bk : Bank) (r : Rights) (s : State) : (setWanRights bk r s).mem = s.mem := by simp [setWanRights]
@[simp] theorem setWanRights_decoder (bk : Bank) (r : Rights) (s : State) : (setWanRights bk r s).decoder = s.decoder := by simp [setWanRights]
@[simp] theorem setWanRights_reports (bk : Bank) (r : Rights) (s : State) : (setWanRights bk r s).reports = s.reports := by simp [setWanRights]
@[simp] theorem setWanRights_time (bk : Bank) (r : Rights) (s : State) : (setWanRights bk r s).time = s.time := by simp [setWanRights]
@[simp] theorem setWanRights_journal (bk : Bank) (r : Rights) (s : State) : (setWanRights bk r s).journal = s.journal := by simp [setWanRights]
@[simp] theorem setWanRights_price (bk : Bank) (r : Rights) (s : State) : (setWanRights bk r s).price = s.price := by simp [setWanRights]
@[simp] theorem setWanRights_label (bk : Bank) (r : Rights) (s : State) : (setWanRights bk r s).label = s.label := by simp [setWanRights]
@[simp] theorem setWanRights_guest (bk : Bank) (r : Rights) (s : State) : (setWanRights bk r s).guest = s.guest := by simp [setWanRights]
@[simp] theorem setWanRights_day (bk : Bank) (r : Rights) (s : State) : (setWanRights bk r s).day = s.day := by simp [setWanRights]
@[simp] theorem setWanRights_loader (bk : Bank) (r : Rights) (s : State) : (setWanRights bk r s).loader = s.loader := by simp [setWanRights]
@[simp] theorem setWanRights_retained (bk : Bank) (r : Rights) (s : State) : (setWanRights bk r s).retained = s.retained := by simp [setWanRights]
@[simp] theorem setWanRights_free (bk : Bank) (r : Rights) (s : State) : (setWanRights bk r s).free = s.free := by simp [setWanRights]
@[simp] theorem setWanRights_pending (bk : Bank) (r : Rights) (s : State) : (setWanRights bk r s).pending = s.pending := by simp [setWanRights]

/-! setContext -/

@[simp] theorem setContext_link (t : Fin 32) (c : TillContext) (s : State) : (setContext t c s).link = s.link := rfl
@[simp] theorem setContext_guard (t : Fin 32) (c : TillContext) (s : State) : (setContext t c s).guard = s.guard := rfl
@[simp] theorem setContext_mem (t : Fin 32) (c : TillContext) (s : State) : (setContext t c s).mem = s.mem := rfl
@[simp] theorem setContext_decoder (t : Fin 32) (c : TillContext) (s : State) : (setContext t c s).decoder = s.decoder := rfl
@[simp] theorem setContext_reports (t : Fin 32) (c : TillContext) (s : State) : (setContext t c s).reports = s.reports := rfl
@[simp] theorem setContext_time (t : Fin 32) (c : TillContext) (s : State) : (setContext t c s).time = s.time := rfl
@[simp] theorem setContext_price (t : Fin 32) (c : TillContext) (s : State) : (setContext t c s).price = s.price := rfl
@[simp] theorem setContext_label (t : Fin 32) (c : TillContext) (s : State) : (setContext t c s).label = s.label := rfl
@[simp] theorem setContext_guest (t : Fin 32) (c : TillContext) (s : State) : (setContext t c s).guest = s.guest := rfl
@[simp] theorem setContext_day (t : Fin 32) (c : TillContext) (s : State) : (setContext t c s).day = s.day := rfl
@[simp] theorem setContext_loader (t : Fin 32) (c : TillContext) (s : State) : (setContext t c s).loader = s.loader := rfl
@[simp] theorem setContext_retained (t : Fin 32) (c : TillContext) (s : State) : (setContext t c s).retained = s.retained := rfl
@[simp] theorem setContext_free (t : Fin 32) (c : TillContext) (s : State) : (setContext t c s).free = s.free := rfl
@[simp] theorem setContext_pending (t : Fin 32) (c : TillContext) (s : State) : (setContext t c s).pending = s.pending := rfl

/-! updateEntry -/

@[simp] theorem updateEntry_link (i : Nat) (f : WatchEntry → WatchEntry) (s : State) : (updateEntry i f s).link = s.link := rfl
@[simp] theorem updateEntry_guard (i : Nat) (f : WatchEntry → WatchEntry) (s : State) : (updateEntry i f s).guard = s.guard := rfl
@[simp] theorem updateEntry_mem (i : Nat) (f : WatchEntry → WatchEntry) (s : State) : (updateEntry i f s).mem = s.mem := rfl
@[simp] theorem updateEntry_decoder (i : Nat) (f : WatchEntry → WatchEntry) (s : State) : (updateEntry i f s).decoder = s.decoder := rfl
@[simp] theorem updateEntry_reports (i : Nat) (f : WatchEntry → WatchEntry) (s : State) : (updateEntry i f s).reports = s.reports := rfl
@[simp] theorem updateEntry_time (i : Nat) (f : WatchEntry → WatchEntry) (s : State) : (updateEntry i f s).time = s.time := rfl
@[simp] theorem updateEntry_journal (i : Nat) (f : WatchEntry → WatchEntry) (s : State) : (updateEntry i f s).journal = s.journal := rfl
@[simp] theorem updateEntry_label (i : Nat) (f : WatchEntry → WatchEntry) (s : State) : (updateEntry i f s).label = s.label := rfl
@[simp] theorem updateEntry_guest (i : Nat) (f : WatchEntry → WatchEntry) (s : State) : (updateEntry i f s).guest = s.guest := rfl
@[simp] theorem updateEntry_day (i : Nat) (f : WatchEntry → WatchEntry) (s : State) : (updateEntry i f s).day = s.day := rfl
@[simp] theorem updateEntry_loader (i : Nat) (f : WatchEntry → WatchEntry) (s : State) : (updateEntry i f s).loader = s.loader := rfl
@[simp] theorem updateEntry_retained (i : Nat) (f : WatchEntry → WatchEntry) (s : State) : (updateEntry i f s).retained = s.retained := rfl
@[simp] theorem updateEntry_free (i : Nat) (f : WatchEntry → WatchEntry) (s : State) : (updateEntry i f s).free = s.free := rfl
@[simp] theorem updateEntry_pending (i : Nat) (f : WatchEntry → WatchEntry) (s : State) : (updateEntry i f s).pending = s.pending := rfl

/-! setZone -/

@[simp] theorem setZone_link (z : Fin 16) (zs : ZoneState) (s : State) : (setZone z zs s).link = s.link := rfl
@[simp] theorem setZone_guard (z : Fin 16) (zs : ZoneState) (s : State) : (setZone z zs s).guard = s.guard := rfl
@[simp] theorem setZone_mem (z : Fin 16) (zs : ZoneState) (s : State) : (setZone z zs s).mem = s.mem := rfl
@[simp] theorem setZone_decoder (z : Fin 16) (zs : ZoneState) (s : State) : (setZone z zs s).decoder = s.decoder := rfl
@[simp] theorem setZone_reports (z : Fin 16) (zs : ZoneState) (s : State) : (setZone z zs s).reports = s.reports := rfl
@[simp] theorem setZone_time (z : Fin 16) (zs : ZoneState) (s : State) : (setZone z zs s).time = s.time := rfl
@[simp] theorem setZone_journal (z : Fin 16) (zs : ZoneState) (s : State) : (setZone z zs s).journal = s.journal := rfl
@[simp] theorem setZone_price (z : Fin 16) (zs : ZoneState) (s : State) : (setZone z zs s).price = s.price := rfl
@[simp] theorem setZone_guest (z : Fin 16) (zs : ZoneState) (s : State) : (setZone z zs s).guest = s.guest := rfl
@[simp] theorem setZone_day (z : Fin 16) (zs : ZoneState) (s : State) : (setZone z zs s).day = s.day := rfl
@[simp] theorem setZone_loader (z : Fin 16) (zs : ZoneState) (s : State) : (setZone z zs s).loader = s.loader := rfl
@[simp] theorem setZone_retained (z : Fin 16) (zs : ZoneState) (s : State) : (setZone z zs s).retained = s.retained := rfl
@[simp] theorem setZone_free (z : Fin 16) (zs : ZoneState) (s : State) : (setZone z zs s).free = s.free := rfl
@[simp] theorem setZone_pending (z : Fin 16) (zs : ZoneState) (s : State) : (setZone z zs s).pending = s.pending := rfl

/-! endTest -/

@[simp] theorem endTest_link (s : State) : (endTest s).link = s.link := by unfold endTest; split <;> rfl
@[simp] theorem endTest_guard (s : State) : (endTest s).guard = s.guard := by unfold endTest; split <;> rfl
@[simp] theorem endTest_mem (s : State) : (endTest s).mem = s.mem := by unfold endTest; split <;> rfl
@[simp] theorem endTest_decoder (s : State) : (endTest s).decoder = s.decoder := by unfold endTest; split <;> rfl
@[simp] theorem endTest_reports (s : State) : (endTest s).reports = s.reports := by unfold endTest; split <;> rfl
@[simp] theorem endTest_time (s : State) : (endTest s).time = s.time := by unfold endTest; split <;> rfl
@[simp] theorem endTest_journal (s : State) : (endTest s).journal = s.journal := by unfold endTest; split <;> rfl
@[simp] theorem endTest_price (s : State) : (endTest s).price = s.price := by unfold endTest; split <;> rfl
@[simp] theorem endTest_label (s : State) : (endTest s).label = s.label := by unfold endTest; split <;> rfl
@[simp] theorem endTest_guest (s : State) : (endTest s).guest = s.guest := by unfold endTest; split <;> rfl
@[simp] theorem endTest_loader (s : State) : (endTest s).loader = s.loader := by unfold endTest; split <;> rfl
@[simp] theorem endTest_retained (s : State) : (endTest s).retained = s.retained := by unfold endTest; split <;> rfl
@[simp] theorem endTest_free (s : State) : (endTest s).free = s.free := by unfold endTest; split <;> rfl
@[simp] theorem endTest_pending (s : State) : (endTest s).pending = s.pending := by unfold endTest; split <;> rfl

/-! openBank -/

@[simp] theorem openBank_link (bk : Bank) (seed : Word32) (d : Nat) (s : State) : (openBank bk seed d s).link = s.link := by simp [openBank]
@[simp] theorem openBank_mem (bk : Bank) (seed : Word32) (d : Nat) (s : State) : (openBank bk seed d s).mem = s.mem := by simp [openBank]
@[simp] theorem openBank_decoder (bk : Bank) (seed : Word32) (d : Nat) (s : State) : (openBank bk seed d s).decoder = s.decoder := by simp [openBank]
@[simp] theorem openBank_reports (bk : Bank) (seed : Word32) (d : Nat) (s : State) : (openBank bk seed d s).reports = s.reports := by simp [openBank]
@[simp] theorem openBank_time (bk : Bank) (seed : Word32) (d : Nat) (s : State) : (openBank bk seed d s).time = s.time := by simp [openBank]
@[simp] theorem openBank_price (bk : Bank) (seed : Word32) (d : Nat) (s : State) : (openBank bk seed d s).price = s.price := by simp [openBank]
@[simp] theorem openBank_label (bk : Bank) (seed : Word32) (d : Nat) (s : State) : (openBank bk seed d s).label = s.label := by simp [openBank]
@[simp] theorem openBank_guest (bk : Bank) (seed : Word32) (d : Nat) (s : State) : (openBank bk seed d s).guest = s.guest := by simp [openBank]
@[simp] theorem openBank_loader (bk : Bank) (seed : Word32) (d : Nat) (s : State) : (openBank bk seed d s).loader = s.loader := by simp [openBank]
@[simp] theorem openBank_free (bk : Bank) (seed : Word32) (d : Nat) (s : State) : (openBank bk seed d s).free = s.free := by simp [openBank]
@[simp] theorem openBank_pending (bk : Bank) (seed : Word32) (d : Nat) (s : State) : (openBank bk seed d s).pending = s.pending := by simp [openBank]

/-! beginExport -/

@[simp] theorem beginExport_link (bk : Bank) (w : Window) (s : State) : (beginExport bk w s).link = s.link := by simp [beginExport]
@[simp] theorem beginExport_mem (bk : Bank) (w : Window) (s : State) : (beginExport bk w s).mem = s.mem := by simp [beginExport]
@[simp] theorem beginExport_decoder (bk : Bank) (w : Window) (s : State) : (beginExport bk w s).decoder = s.decoder := by simp [beginExport]
@[simp] theorem beginExport_reports (bk : Bank) (w : Window) (s : State) : (beginExport bk w s).reports = s.reports := by simp [beginExport]
@[simp] theorem beginExport_time (bk : Bank) (w : Window) (s : State) : (beginExport bk w s).time = s.time := by simp [beginExport]
@[simp] theorem beginExport_price (bk : Bank) (w : Window) (s : State) : (beginExport bk w s).price = s.price := by simp [beginExport]
@[simp] theorem beginExport_label (bk : Bank) (w : Window) (s : State) : (beginExport bk w s).label = s.label := by simp [beginExport]
@[simp] theorem beginExport_guest (bk : Bank) (w : Window) (s : State) : (beginExport bk w s).guest = s.guest := by simp [beginExport]
@[simp] theorem beginExport_day (bk : Bank) (w : Window) (s : State) : (beginExport bk w s).day = s.day := by simp [beginExport]
@[simp] theorem beginExport_loader (bk : Bank) (w : Window) (s : State) : (beginExport bk w s).loader = s.loader := by simp [beginExport]
@[simp] theorem beginExport_retained (bk : Bank) (w : Window) (s : State) : (beginExport bk w s).retained = s.retained := by simp [beginExport]
@[simp] theorem beginExport_free (bk : Bank) (w : Window) (s : State) : (beginExport bk w s).free = s.free := by simp [beginExport]
@[simp] theorem beginExport_pending (bk : Bank) (w : Window) (s : State) : (beginExport bk w s).pending = s.pending := by simp [beginExport]

/-! endExport -/

@[simp] theorem endExport_link (bk : Bank) (st : BankState) (s : State) : (endExport bk st s).link = s.link := by simp [endExport]
@[simp] theorem endExport_mem (bk : Bank) (st : BankState) (s : State) : (endExport bk st s).mem = s.mem := by simp [endExport]
@[simp] theorem endExport_decoder (bk : Bank) (st : BankState) (s : State) : (endExport bk st s).decoder = s.decoder := by simp [endExport]
@[simp] theorem endExport_reports (bk : Bank) (st : BankState) (s : State) : (endExport bk st s).reports = s.reports := by simp [endExport]
@[simp] theorem endExport_time (bk : Bank) (st : BankState) (s : State) : (endExport bk st s).time = s.time := by simp [endExport]
@[simp] theorem endExport_price (bk : Bank) (st : BankState) (s : State) : (endExport bk st s).price = s.price := by simp [endExport]
@[simp] theorem endExport_label (bk : Bank) (st : BankState) (s : State) : (endExport bk st s).label = s.label := by simp [endExport]
@[simp] theorem endExport_guest (bk : Bank) (st : BankState) (s : State) : (endExport bk st s).guest = s.guest := by simp [endExport]
@[simp] theorem endExport_day (bk : Bank) (st : BankState) (s : State) : (endExport bk st s).day = s.day := by simp [endExport]
@[simp] theorem endExport_loader (bk : Bank) (st : BankState) (s : State) : (endExport bk st s).loader = s.loader := by simp [endExport]
@[simp] theorem endExport_retained (bk : Bank) (st : BankState) (s : State) : (endExport bk st s).retained = s.retained := by simp [endExport]
@[simp] theorem endExport_free (bk : Bank) (st : BankState) (s : State) : (endExport bk st s).free = s.free := by simp [endExport]
@[simp] theorem endExport_pending (bk : Bank) (st : BankState) (s : State) : (endExport bk st s).pending = s.pending := by simp [endExport]

/-! giveOrder -/

@[simp] theorem giveOrder_link (o : PartOrder) (s : State) : (giveOrder o s).link = s.link := by unfold giveOrder; split <;> rfl
@[simp] theorem giveOrder_guard (o : PartOrder) (s : State) : (giveOrder o s).guard = s.guard := by unfold giveOrder; split <;> rfl
@[simp] theorem giveOrder_mem (o : PartOrder) (s : State) : (giveOrder o s).mem = s.mem := by unfold giveOrder; split <;> rfl
@[simp] theorem giveOrder_decoder (o : PartOrder) (s : State) : (giveOrder o s).decoder = s.decoder := by unfold giveOrder; split <;> rfl
@[simp] theorem giveOrder_reports (o : PartOrder) (s : State) : (giveOrder o s).reports = s.reports := by unfold giveOrder; split <;> rfl
@[simp] theorem giveOrder_time (o : PartOrder) (s : State) : (giveOrder o s).time = s.time := by unfold giveOrder; split <;> rfl
@[simp] theorem giveOrder_price (o : PartOrder) (s : State) : (giveOrder o s).price = s.price := by unfold giveOrder; split <;> rfl
@[simp] theorem giveOrder_label (o : PartOrder) (s : State) : (giveOrder o s).label = s.label := by unfold giveOrder; split <;> rfl
@[simp] theorem giveOrder_guest (o : PartOrder) (s : State) : (giveOrder o s).guest = s.guest := by unfold giveOrder; split <;> rfl
@[simp] theorem giveOrder_loader (o : PartOrder) (s : State) : (giveOrder o s).loader = s.loader := by unfold giveOrder; split <;> rfl
@[simp] theorem giveOrder_retained (o : PartOrder) (s : State) : (giveOrder o s).retained = s.retained := by unfold giveOrder; split <;> rfl
@[simp] theorem giveOrder_free (o : PartOrder) (s : State) : (giveOrder o s).free = s.free := by unfold giveOrder; split <;> rfl
@[simp] theorem giveOrder_pending (o : PartOrder) (s : State) : (giveOrder o s).pending = s.pending := by unfold giveOrder; split <;> rfl

/-! acceptClose -/

@[simp] theorem acceptClose_link (bk : Bank) (g : Nat) (m : CarryMode) (td : Bool) (s : State) : (acceptClose bk g m td s).link = s.link := by simp [acceptClose]
@[simp] theorem acceptClose_mem (bk : Bank) (g : Nat) (m : CarryMode) (td : Bool) (s : State) : (acceptClose bk g m td s).mem = s.mem := by simp [acceptClose]
@[simp] theorem acceptClose_decoder (bk : Bank) (g : Nat) (m : CarryMode) (td : Bool) (s : State) : (acceptClose bk g m td s).decoder = s.decoder := by simp [acceptClose]
@[simp] theorem acceptClose_time (bk : Bank) (g : Nat) (m : CarryMode) (td : Bool) (s : State) : (acceptClose bk g m td s).time = s.time := by simp [acceptClose]
@[simp] theorem acceptClose_price (bk : Bank) (g : Nat) (m : CarryMode) (td : Bool) (s : State) : (acceptClose bk g m td s).price = s.price := by simp [acceptClose]
@[simp] theorem acceptClose_label (bk : Bank) (g : Nat) (m : CarryMode) (td : Bool) (s : State) : (acceptClose bk g m td s).label = s.label := by simp [acceptClose]
@[simp] theorem acceptClose_guest (bk : Bank) (g : Nat) (m : CarryMode) (td : Bool) (s : State) : (acceptClose bk g m td s).guest = s.guest := by simp [acceptClose]
@[simp] theorem acceptClose_loader (bk : Bank) (g : Nat) (m : CarryMode) (td : Bool) (s : State) : (acceptClose bk g m td s).loader = s.loader := by simp [acceptClose]
@[simp] theorem acceptClose_retained (bk : Bank) (g : Nat) (m : CarryMode) (td : Bool) (s : State) : (acceptClose bk g m td s).retained = s.retained := by simp [acceptClose]
@[simp] theorem acceptClose_free (bk : Bank) (g : Nat) (m : CarryMode) (td : Bool) (s : State) : (acceptClose bk g m td s).free = s.free := by simp [acceptClose]
@[simp] theorem acceptClose_pending (bk : Bank) (g : Nat) (m : CarryMode) (td : Bool) (s : State) : (acceptClose bk g m td s).pending = s.pending := by simp [acceptClose]

/-! commitEntry -/

@[simp] theorem commitEntry_link (c : EntryCommit) (s : State) : (commitEntry c s).link = s.link := by unfold commitEntry reportFlagged; split <;> simp
@[simp] theorem commitEntry_guard (c : EntryCommit) (s : State) : (commitEntry c s).guard = s.guard := by unfold commitEntry reportFlagged; split <;> simp
@[simp] theorem commitEntry_mem (c : EntryCommit) (s : State) : (commitEntry c s).mem = s.mem := by unfold commitEntry reportFlagged; split <;> simp
@[simp] theorem commitEntry_decoder (c : EntryCommit) (s : State) : (commitEntry c s).decoder = s.decoder := by unfold commitEntry reportFlagged; split <;> simp
@[simp] theorem commitEntry_time (c : EntryCommit) (s : State) : (commitEntry c s).time = s.time := by unfold commitEntry reportFlagged; split <;> simp
@[simp] theorem commitEntry_price (c : EntryCommit) (s : State) : (commitEntry c s).price = s.price := by unfold commitEntry reportFlagged; split <;> simp
@[simp] theorem commitEntry_label (c : EntryCommit) (s : State) : (commitEntry c s).label = s.label := by unfold commitEntry reportFlagged; split <;> simp
@[simp] theorem commitEntry_guest (c : EntryCommit) (s : State) : (commitEntry c s).guest = s.guest := by unfold commitEntry reportFlagged; split <;> simp
@[simp] theorem commitEntry_day (c : EntryCommit) (s : State) : (commitEntry c s).day = s.day := by unfold commitEntry reportFlagged; split <;> simp
@[simp] theorem commitEntry_loader (c : EntryCommit) (s : State) : (commitEntry c s).loader = s.loader := by unfold commitEntry reportFlagged; split <;> simp
@[simp] theorem commitEntry_free (c : EntryCommit) (s : State) : (commitEntry c s).free = s.free := by unfold commitEntry reportFlagged; split <;> simp
@[simp] theorem commitEntry_pending (c : EntryCommit) (s : State) : (commitEntry c s).pending = s.pending := by unfold commitEntry reportFlagged; split <;> simp

/-! postResult -/

@[simp] theorem postResult_link (o : LoadOrigin) (st : BootStatus) (r : Option RefusalCode) (x : Option (ConfigResult × Nat)) (s : State) : (postResult o st r x s).link = s.link := rfl
@[simp] theorem postResult_guard (o : LoadOrigin) (st : BootStatus) (r : Option RefusalCode) (x : Option (ConfigResult × Nat)) (s : State) : (postResult o st r x s).guard = s.guard := rfl
@[simp] theorem postResult_mem (o : LoadOrigin) (st : BootStatus) (r : Option RefusalCode) (x : Option (ConfigResult × Nat)) (s : State) : (postResult o st r x s).mem = s.mem := rfl
@[simp] theorem postResult_decoder (o : LoadOrigin) (st : BootStatus) (r : Option RefusalCode) (x : Option (ConfigResult × Nat)) (s : State) : (postResult o st r x s).decoder = s.decoder := rfl
@[simp] theorem postResult_reports (o : LoadOrigin) (st : BootStatus) (r : Option RefusalCode) (x : Option (ConfigResult × Nat)) (s : State) : (postResult o st r x s).reports = s.reports := rfl
@[simp] theorem postResult_time (o : LoadOrigin) (st : BootStatus) (r : Option RefusalCode) (x : Option (ConfigResult × Nat)) (s : State) : (postResult o st r x s).time = s.time := rfl
@[simp] theorem postResult_journal (o : LoadOrigin) (st : BootStatus) (r : Option RefusalCode) (x : Option (ConfigResult × Nat)) (s : State) : (postResult o st r x s).journal = s.journal := rfl
@[simp] theorem postResult_price (o : LoadOrigin) (st : BootStatus) (r : Option RefusalCode) (x : Option (ConfigResult × Nat)) (s : State) : (postResult o st r x s).price = s.price := rfl
@[simp] theorem postResult_label (o : LoadOrigin) (st : BootStatus) (r : Option RefusalCode) (x : Option (ConfigResult × Nat)) (s : State) : (postResult o st r x s).label = s.label := rfl
@[simp] theorem postResult_guest (o : LoadOrigin) (st : BootStatus) (r : Option RefusalCode) (x : Option (ConfigResult × Nat)) (s : State) : (postResult o st r x s).guest = s.guest := rfl
@[simp] theorem postResult_day (o : LoadOrigin) (st : BootStatus) (r : Option RefusalCode) (x : Option (ConfigResult × Nat)) (s : State) : (postResult o st r x s).day = s.day := rfl
@[simp] theorem postResult_retained (o : LoadOrigin) (st : BootStatus) (r : Option RefusalCode) (x : Option (ConfigResult × Nat)) (s : State) : (postResult o st r x s).retained = s.retained := rfl
@[simp] theorem postResult_free (o : LoadOrigin) (st : BootStatus) (r : Option RefusalCode) (x : Option (ConfigResult × Nat)) (s : State) : (postResult o st r x s).free = s.free := rfl
@[simp] theorem postResult_pending (o : LoadOrigin) (st : BootStatus) (r : Option RefusalCode) (x : Option (ConfigResult × Nat)) (s : State) : (postResult o st r x s).pending = s.pending := rfl

/-! countTaken -/

@[simp] theorem countTaken_link (s : State) : (countTaken s).link = s.link := rfl
@[simp] theorem countTaken_mem (s : State) : (countTaken s).mem = s.mem := rfl
@[simp] theorem countTaken_reports (s : State) : (countTaken s).reports = s.reports := rfl
@[simp] theorem countTaken_time (s : State) : (countTaken s).time = s.time := rfl
@[simp] theorem countTaken_journal (s : State) : (countTaken s).journal = s.journal := rfl
@[simp] theorem countTaken_price (s : State) : (countTaken s).price = s.price := rfl
@[simp] theorem countTaken_label (s : State) : (countTaken s).label = s.label := rfl
@[simp] theorem countTaken_guest (s : State) : (countTaken s).guest = s.guest := rfl
@[simp] theorem countTaken_day (s : State) : (countTaken s).day = s.day := rfl
@[simp] theorem countTaken_loader (s : State) : (countTaken s).loader = s.loader := rfl
@[simp] theorem countTaken_retained (s : State) : (countTaken s).retained = s.retained := rfl
@[simp] theorem countTaken_free (s : State) : (countTaken s).free = s.free := rfl
@[simp] theorem countTaken_pending (s : State) : (countTaken s).pending = s.pending := rfl

/-! replyDone -/

@[simp] theorem replyDone_link (l : Line) (s : State) : (replyDone l s).link = s.link := by simp [replyDone]
@[simp] theorem replyDone_guard (l : Line) (s : State) : (replyDone l s).guard = s.guard := by simp [replyDone]
@[simp] theorem replyDone_mem (l : Line) (s : State) : (replyDone l s).mem = s.mem := by simp [replyDone]
@[simp] theorem replyDone_decoder (l : Line) (s : State) : (replyDone l s).decoder = s.decoder := by simp [replyDone]
@[simp] theorem replyDone_time (l : Line) (s : State) : (replyDone l s).time = s.time := by simp [replyDone]
@[simp] theorem replyDone_journal (l : Line) (s : State) : (replyDone l s).journal = s.journal := by simp [replyDone]
@[simp] theorem replyDone_price (l : Line) (s : State) : (replyDone l s).price = s.price := by simp [replyDone]
@[simp] theorem replyDone_label (l : Line) (s : State) : (replyDone l s).label = s.label := by simp [replyDone]
@[simp] theorem replyDone_guest (l : Line) (s : State) : (replyDone l s).guest = s.guest := by simp [replyDone]
@[simp] theorem replyDone_day (l : Line) (s : State) : (replyDone l s).day = s.day := by simp [replyDone]
@[simp] theorem replyDone_loader (l : Line) (s : State) : (replyDone l s).loader = s.loader := by simp [replyDone]
@[simp] theorem replyDone_retained (l : Line) (s : State) : (replyDone l s).retained = s.retained := by simp [replyDone]
@[simp] theorem replyDone_free (l : Line) (s : State) : (replyDone l s).free = s.free := by simp [replyDone]
@[simp] theorem replyDone_pending (l : Line) (s : State) : (replyDone l s).pending = s.pending := by simp [replyDone]

/-! replyRefused -/

@[simp] theorem replyRefused_link (l : Line) (c : RefusalCode) (s : State) : (replyRefused l c s).link = s.link := by simp [replyRefused]
@[simp] theorem replyRefused_guard (l : Line) (c : RefusalCode) (s : State) : (replyRefused l c s).guard = s.guard := by simp [replyRefused]
@[simp] theorem replyRefused_mem (l : Line) (c : RefusalCode) (s : State) : (replyRefused l c s).mem = s.mem := by simp [replyRefused]
@[simp] theorem replyRefused_time (l : Line) (c : RefusalCode) (s : State) : (replyRefused l c s).time = s.time := by simp [replyRefused]
@[simp] theorem replyRefused_journal (l : Line) (c : RefusalCode) (s : State) : (replyRefused l c s).journal = s.journal := by simp [replyRefused]
@[simp] theorem replyRefused_price (l : Line) (c : RefusalCode) (s : State) : (replyRefused l c s).price = s.price := by simp [replyRefused]
@[simp] theorem replyRefused_label (l : Line) (c : RefusalCode) (s : State) : (replyRefused l c s).label = s.label := by simp [replyRefused]
@[simp] theorem replyRefused_guest (l : Line) (c : RefusalCode) (s : State) : (replyRefused l c s).guest = s.guest := by simp [replyRefused]
@[simp] theorem replyRefused_day (l : Line) (c : RefusalCode) (s : State) : (replyRefused l c s).day = s.day := by simp [replyRefused]
@[simp] theorem replyRefused_loader (l : Line) (c : RefusalCode) (s : State) : (replyRefused l c s).loader = s.loader := by simp [replyRefused]
@[simp] theorem replyRefused_retained (l : Line) (c : RefusalCode) (s : State) : (replyRefused l c s).retained = s.retained := by simp [replyRefused]
@[simp] theorem replyRefused_free (l : Line) (c : RefusalCode) (s : State) : (replyRefused l c s).free = s.free := by simp [replyRefused]
@[simp] theorem replyRefused_pending (l : Line) (c : RefusalCode) (s : State) : (replyRefused l c s).pending = s.pending := by simp [replyRefused]

end Sys2Proof.Machine
end

