-- ==== Sys2Proof/Laws/LinesPass.lean ====
section
/-! SUPPORT. What a report, a recorded refusal, a handed line and the lines of a request that is not a guest's can do:
each is within `LinesPass`. -/

namespace Sys2Proof.Safety

open Sys2Proof Sys2Proof.Machine

/-! ### Recorded refusals -/

/-- Two states that a recorded refusal cannot tell apart. -/
def SameLog (x y : State) : Prop := x.guard = y.guard ∧ x.reports = y.reports ∧ x.time = y.time

theorem SameLog.arise {x y : State} (h : SameLog x y) (b : ReportBody) : SameLog (Machine.arise b x) (Machine.arise b y) := by
  obtain ⟨hg, hr, ht⟩ := h
  refine ⟨by simpa using hg, ?_, by simpa using ht⟩
  unfold Machine.arise
  rw [hr, ht]
  split <;> rfl

theorem SameLog.setLog {x y : State} (h : SameLog x y) (log : List GuardEntry) :
    SameLog (x.setGuard { x.guard with log := log }) (y.setGuard { y.guard with log := log }) :=
  ⟨by simp [h.1], h.2.1, h.2.2⟩

theorem SameLog.logRefusal {x y : State} (h : SameLog x y) (e : GuardEntry) :
    SameLog (Machine.logRefusal e x) (Machine.logRefusal e y) := by
  unfold Machine.logRefusal
  rw [← h.1]
  split
  · split
    · simpa [h.1] using h.setLog _
    · simpa [h.1] using (h.setLog _).arise _
  · simpa [h.1] using (h.setLog _).arise _

theorem SameLog.logAll {x y : State} (h : SameLog x y) (es : List GuardEntry) :
    SameLog (Safety.logAll es x) (Safety.logAll es y) := by
  induction es generalizing x y with
  | nil => exact h
  | cons e es ih => exact ih (h.logRefusal e)

theorem logAll_append (es fs : List GuardEntry) (s : State) : logAll (es ++ fs) s = logAll fs (logAll es s) := by
  simp [logAll]

@[simp] theorem logAll_time (es : List GuardEntry) (s : State) : (logAll es s).time = s.time := by
  induction es generalizing s with
  | nil => rfl
  | cons e es ih => exact (ih _).trans (logRefusal_time e s)

/-! ### The relation -/

theorem LinesPass.refl (s : State) : LinesPass s s := by
  constructor <;> first | rfl | exact ⟨[], rfl, rfl⟩

theorem LinesPass.trans {a b c : State} (h : LinesPass a b) (g : LinesPass b c) : LinesPass a c where
  decoder := g.decoder.trans h.decoder
  time := g.time.trans h.time
  journal := g.journal.trans h.journal
  price := g.price.trans h.price
  label := g.label.trans h.label
  guest := g.guest.trans h.guest
  day := g.day.trans h.day
  loader := g.loader.trans h.loader
  retained := g.retained.trans h.retained
  free := g.free.trans h.free
  pending := g.pending.trans h.pending
  mem := by have := g.mem; rw [h.mem] at this; exact this
  logged := by
    obtain ⟨es, h1, h2⟩ := h.logged
    obtain ⟨fs, g1, g2⟩ := g.logged
    have hs : SameLog b (logAll es a) := ⟨h1, h2, by rw [h.time]; simp⟩
    have := hs.logAll fs
    exact ⟨es ++ fs, by rw [g1, this.1, logAll_append], by rw [g2, this.2.1, logAll_append]⟩

/-- A change of the outstanding-request table alone. -/
theorem LinesPass.of_link {u s : State} (h : s = u.setLink s.link) : LinesPass u s := by
  rw [h]
  constructor <;> first | rfl | exact ⟨[], rfl, rfl⟩

end Sys2Proof.Safety

namespace Sys2Proof.Machine

open Sys2Proof Sys2Proof.Safety

/-! ### Reports and the guard log -/

/-- R48: what a report that arises does. -/
theorem arise_cases (b : ReportBody) (s : State) :
    (s.reports.pending.length < 16 ∧ arise b s = s.setReports { s.reports with
      pending := s.reports.pending ++ [⟨s.time.seconds, s.time.millis, s.time.clock, b⟩] }) ∨
    (16 ≤ s.reports.pending.length ∧ arise b s = s.setReports { s.reports with overflow := true }) := by
  unfold arise
  split
  · exact .inl ⟨by assumption, rfl⟩
  · exact .inr ⟨by rename_i h; simpa [Config.pendingSize] using h, rfl⟩

theorem linesPass_logRefusal (e : GuardEntry) (s : State) : LinesPass s (logRefusal e s) where
  decoder := by simp
  time := by simp
  journal := by simp
  price := by simp
  label := by simp
  guest := by simp
  day := by simp
  loader := by simp
  retained := by simp
  free := by simp
  pending := by simp
  mem := by simp
  logged := ⟨[e], rfl, rfl⟩

/-! ### The outstanding-request table -/

theorem linesPass_updateRequest (t : Fin 64) (f : Request → Request) (s : State) : LinesPass s (updateRequest t f s) :=
  LinesPass.of_link rfl

theorem linesPass_sendIfComplete (t : Fin 64) (s : State) : LinesPass s (sendIfComplete t s) := by
  unfold sendIfComplete
  split
  · split
    · exact LinesPass.of_link rfl
    · exact LinesPass.refl s
  · exact LinesPass.refl s

theorem linesPass_setOutcome (t : Fin 64) (k : Nat) (o : LineOutcome) (d : Line) (s : State) :
    LinesPass s (setOutcome t k o d s) := (linesPass_updateRequest _ _ s).trans (linesPass_sendIfComplete _ _)

theorem linesPass_recordLine (t : Fin 64) (k : Nat) (c : Cause) (s : State) : LinesPass s (recordLine t k c s) := by
  unfold recordLine
  split
  · exact LinesPass.refl s
  · split
    · exact LinesPass.refl s
    · exact (linesPass_setOutcome _ _ _ _ s).trans (linesPass_logRefusal _ _)

/-! ### The Memory Port -/

/-- R12: what handing a line to the Memory Port does. -/
theorem enqueue_cases (p : PassedLine) (s : State) :
    enqueue p s = s.setMem { s.mem with port := .passed p } ∨
      enqueue p s = s.setMem { s.mem with queue := s.mem.queue ++ [p] } := by
  unfold enqueue
  split
  · exact .inl rfl
  · exact .inr rfl

theorem linesPass_enqueue (p : PassedLine) (s : State) : LinesPass s (enqueue p s) := by
  rcases enqueue_cases p s with h | h <;> rw [h] <;> constructor <;> first | rfl | exact ⟨[], rfl, rfl⟩

theorem linesPass_handLine (t : Fin 64) (k : Nat) (c : Option EntryCommit) (r : Bool) (s : State) :
    LinesPass s (handLine t k c r s) := by
  unfold handLine
  split
  · exact LinesPass.refl s
  · split
    · exact LinesPass.refl s
    · split
      · exact (linesPass_updateRequest t _ s).trans (linesPass_enqueue _ _)
      · exact LinesPass.refl s

/-! ### The entry of a transaction number -/

theorem findRequest_txn {s : State} {t : Fin 64} {r : Request} (h : findRequest s t = some r) : r.txn = t := by
  simpa using List.find?_some h

theorem findRequest_of_link {s s' : State} (h : s'.link = s.link) (t : Fin 64) : findRequest s' t = findRequest s t := by
  unfold findRequest
  rw [h]

theorem findRequest_updateRequest (s : State) (t : Fin 64) (f : Request → Request) (hf : ∀ r, (f r).txn = r.txn) :
    findRequest (updateRequest t f s) t = (findRequest s t).map f := by
  unfold findRequest updateRequest
  simp only [State.setLink_link]
  induction s.link.requests with
  | nil => rfl
  | cons r rest ih =>
    simp only [List.map_cons, List.find?_cons]
    by_cases h : r.txn = t
    · simp [h, hf]
    · simp only [h, if_false, decide_false]
      exact ih

theorem findRequest_removeRequest (s : State) (t : Fin 64) : findRequest (removeRequest t s) t = none := by
  unfold findRequest removeRequest
  simp

/-! ### The class of a request stays -/

/-- The entry of a transaction number, if any, is not a guest's. -/
def NotGuest (t : Fin 64) (s : State) : Prop := ∀ r, findRequest s t = some r → r.cls ≠ .guest

theorem NotGuest.of_link {t : Fin 64} {s s' : State} (h : NotGuest t s) (e : s'.link = s.link) : NotGuest t s' := by
  intro r hr
  rw [findRequest_of_link e] at hr
  exact h r hr

theorem NotGuest.updateRequest {t : Fin 64} {f : Request → Request} {s : State} (h : NotGuest t s)
    (hf : ∀ r, (f r).txn = r.txn ∧ (f r).cls = r.cls) : NotGuest t (updateRequest t f s) := by
  intro r hr
  rw [findRequest_updateRequest s t f (fun r => (hf r).1), Option.map_eq_some_iff] at hr
  obtain ⟨q, hq, rfl⟩ := hr
  rw [(hf q).2]
  exact h q hq

theorem NotGuest.sendIfComplete {t : Fin 64} {s : State} (h : NotGuest t s) : NotGuest t (sendIfComplete t s) := by
  unfold Machine.sendIfComplete
  split
  · split
    · intro r hr
      rw [show findRequest (sendCompletion _ (removeRequest t s)) t = findRequest (removeRequest t s) t from rfl,
        findRequest_removeRequest] at hr
      simp at hr
    · exact h
  · exact h

theorem NotGuest.setOutcome {t : Fin 64} {k : Nat} {o : LineOutcome} {d : Line} {s : State} (h : NotGuest t s) :
    NotGuest t (setOutcome t k o d s) :=
  (h.updateRequest (f := Request.onLine k _) (fun _ => ⟨rfl, rfl⟩)).sendIfComplete

theorem NotGuest.recordLine {t : Fin 64} {k : Nat} {c : Cause} {s : State} (h : NotGuest t s) :
    NotGuest t (recordLine t k c s) := by
  unfold Machine.recordLine
  split
  · exact h
  · split
    · exact h
    · exact NotGuest.of_link (NotGuest.setOutcome h) (logRefusal_link _ _)

theorem NotGuest.handLine {t : Fin 64} {k : Nat} {c : Option EntryCommit} {b : Bool} {s : State} (h : NotGuest t s) :
    NotGuest t (handLine t k c b s) := by
  unfold Machine.handLine
  split
  · exact h
  · split
    · exact h
    · split
      · exact NotGuest.of_link (NotGuest.updateRequest (f := Request.onLine k _) h (fun _ => ⟨rfl, rfl⟩)) (enqueue_link _ _)
      · exact h

theorem NotGuest.activate {t : Fin 64} {s : State} (h : NotGuest t s) : NotGuest t (activate t s) :=
  h.updateRequest (fun _ => ⟨rfl, rfl⟩)

/-! ### The lines of a request that is not a guest's -/

theorem recordRefusal_of_notGuest {t : Fin 64} {k : Nat} {c : Cause} {s : State} (h : NotGuest t s) :
    recordRefusal t k c s = recordLine t k c s := by
  unfold recordRefusal
  cases hf : findRequest s t with
  | none => simp
  | some r => simp [h r hf]

theorem linesPass_runLines {t : Fin 64} (n : Nat) {s : State} (h : NotGuest t s) : LinesPass s (runLines t n s) := by
  induction n generalizing s with
  | zero => exact LinesPass.refl s
  | succ n ih =>
    unfold runLines
    split
    · exact LinesPass.refl s
    · rename_i r hr
      have hc : r.cls ≠ .guest := h r hr
      split
      · unfold guestStage
        rw [hr]
        simp [hc, LinesPass.refl]
      · rename_i k l _
        have ha : LinesPass s (activate t s) := linesPass_updateRequest _ _ _
        split
        · exact LinesPass.refl s
        · rename_i cause _ _
          rw [recordRefusal_of_notGuest h.activate]
          exact (ha.trans (linesPass_recordLine t k cause _)).trans (ih h.activate.recordLine)
        · split
          · exact LinesPass.refl s
          · exact (ha.trans (linesPass_handLine t k none false _)).trans (ih h.activate.handLine)

/-- R7, R8: passing a line of a request that is not a guest's. -/
theorem linesPass_passTurn {t : Fin 64} {k : Nat} {s : State} (h : NotGuest t s) : LinesPass s (passTurn t k s) := by
  unfold passTurn runRequest
  have ha : LinesPass s (activate t s) := linesPass_updateRequest _ _ _
  exact (ha.trans (linesPass_handLine t k none false _)).trans (linesPass_runLines 5 h.activate.handLine)

end Sys2Proof.Machine
end

