-- ==== Sys2Proof/Laws/Control.lean ====
section
/-! SUPPORT. The line at its turn of a request (`turnLine`), and what taking a control record does (`takeCommand`). -/

namespace Sys2Proof.Machine

open Sys2Proof Sys2Proof.Safety

/-! ### The line at its turn -/

theorem nextTurn_spec {n k : Nat} {ls : List ReqLine} {l : ReqLine} (h : nextTurn n ls = some (k, l)) :
    n ≤ k ∧ ls[k - n]? = some l ∧ l.outcome = .pending ∧ l.stage = .awaitsTurn := by
  induction ls generalizing n with
  | nil => simp [nextTurn] at h
  | cons x rest ih =>
    simp only [nextTurn] at h
    split at h
    · rename_i hx
      obtain ⟨rfl, rfl⟩ := by simpa using h
      simp [hx]
    · obtain ⟨h1, h2, h3⟩ := ih h
      refine ⟨by omega, ?_, h3⟩
      have : k - n = (k - (n + 1)) + 1 := by omega
      rw [this, List.getElem?_cons_succ]
      exact h2

/-- What `turnLine` finds: a started request, its line at its turn, and the handler that receives it. -/
theorem turnLine_spec {t : Fin 64} {s : State} {r : Request} {k : Nat} {l : ReqLine} {h : Handler}
    (e : turnLine t s = some (r, k, l, h)) :
    findRequest s t = some r ∧ r.progress ≠ .queued ∧ r.lines[k]? = some l ∧ l.outcome = .pending ∧
      handlerOf s.loader.running r l = some h := by
  unfold turnLine at e
  split at e
  · simp at e
  · rename_i r' hr
    split at e
    · simp at e
    · rename_i hq
      split at e
      · simp at e
      · rename_i k' l' hn
        simp only [Option.map_eq_some_iff, Prod.mk.injEq] at e
        obtain ⟨h', hh, rfl, rfl, rfl, rfl⟩ := e
        obtain ⟨_, h2, h3, _⟩ := nextTurn_spec hn
        exact ⟨hr, hq, h2, h3, hh⟩

/-- A handler receives a passing write line of a CPU or LABEL request (R8). -/
theorem handlerOf_spec {b : Bool} {r : Request} {l : ReqLine} {h : Handler} (e : handlerOf b r l = some h) :
    r.kind = .write ∧ (r.cls = .cpu ∨ r.cls = .label) ∧ ∃ addr w role i, l.verdict = some (.pass addr w role i) := by
  unfold handlerOf at e
  split at e
  · rename_i addr w role i hv
    split at e <;> simp_all
  · simp at e

/-- The entry once one of its lines has taken effect (R2). -/
theorem findRequest_activate {s : State} {t : Fin 64} {r : Request} (h : findRequest s t = some r) :
    findRequest (activate t s) t = some { r with progress := .active } := by
  have := findRequest_updateRequest s t (fun r => { r with progress := .active }) (fun _ => rfl)
  rw [h] at this
  exact this

/-! ### Lines stay handed over -/

/-- The passed lines at the port and in the queue are only joined by others. -/
def KeepsHanded (s s' : State) : Prop :=
  ∀ p : PassedLine, s.mem.port = .passed p ∨ p ∈ s.mem.queue → s'.mem.port = .passed p ∨ p ∈ s'.mem.queue

theorem KeepsHanded.of_mem {s s' : State} (h : s'.mem = s.mem) : KeepsHanded s s' := by
  intro p hp
  rw [h]
  exact hp

theorem KeepsHanded.trans {a b c : State} (h : KeepsHanded a b) (g : KeepsHanded b c) : KeepsHanded a c :=
  fun p hp => g p (h p hp)

theorem enqueue_handed (p : PassedLine) (s : State) :
    (enqueue p s).mem.port = .passed p ∨ p ∈ (enqueue p s).mem.queue := by
  rcases enqueue_cases p s with h | h <;> rw [h] <;> simp

theorem keepsHanded_enqueue (p : PassedLine) (s : State) : KeepsHanded s (enqueue p s) := by
  intro q hq
  unfold enqueue
  split
  · rename_i h
    rcases hq with hq | hq
    · rw [h.1] at hq; simp at hq
    · rw [h.2.1] at hq; simp at hq
  · rcases hq with hq | hq
    · exact .inl (by simpa using hq)
    · exact .inr (by simp [hq])

theorem keepsHanded_handLine (t : Fin 64) (k : Nat) (c : Option EntryCommit) (b : Bool) (s : State) :
    KeepsHanded s (handLine t k c b s) := by
  unfold handLine
  split
  · exact fun _ h => h
  · split
    · exact fun _ h => h
    · split
      · exact (KeepsHanded.of_mem (updateLine_mem _ _ _ _)).trans (keepsHanded_enqueue _ _)
      · exact fun _ h => h

theorem keepsHanded_runLines {t : Fin 64} (n : Nat) {s : State} (h : NotGuest t s) : KeepsHanded s (runLines t n s) := by
  induction n generalizing s with
  | zero => exact fun _ h => h
  | succ n ih =>
    unfold runLines
    split
    · exact fun _ h => h
    · rename_i r hr
      have hc : r.cls ≠ .guest := h r hr
      split
      · unfold guestStage
        rw [hr]
        simp only [hc, false_and, if_false]
        exact fun _ h => h
      · rename_i k l _
        split
        · exact fun _ h => h
        · rename_i cause _ _
          rw [recordRefusal_of_notGuest h.activate]
          exact (KeepsHanded.of_mem (by simp)).trans (ih h.activate.recordLine)
        · split
          · exact fun _ h => h
          · exact ((KeepsHanded.of_mem (activate_mem t s)).trans (keepsHanded_handLine t k none false _)).trans
              (ih h.activate.handLine)

/-! ### A record's line passes -/

/-- R40: the line of a taken record is handed over unchanged, and only the lines after it act. `v` is the state once its
command has been answered, with the request of `s` made ACTIVE. -/
theorem passTurn_recordPasses {s v : State} {t : Fin 64} {r : Request} {k : Nat} {l : ReqLine} {h : Handler}
    (e : turnLine t s = some (r, k, l, h)) (hv : v.link = (activate t s).link) (hc : r.cls ≠ .guest) :
    RecordPasses t k l v (passTurn t k v) := by
  obtain ⟨hr, _, hl, _, hh⟩ := turnLine_spec e
  obtain ⟨hk, _, addr, w, role, i, hverd⟩ := handlerOf_spec hh
  have hf : findRequest v t = some { r with progress := .active } := by
    rw [findRequest_of_link hv t]
    exact findRequest_activate hr
  have hng : NotGuest t v := by
    intro q hq
    rw [hf] at hq
    obtain rfl := Option.some.inj hq
    exact hc
  have hhand : handLine t k none false (activate t v) =
      enqueue { owner := some ⟨t, k⟩, kind := r.kind, addr := addr, mask := l.mask, data := l.data
                commit := none, released := false }
        (updateLine t k (fun l => { l with stage := .handed }) (activate t v)) := by
    unfold handLine
    rw [findRequest_activate hf]
    simp only [hl, hverd]
  have hkeep := keepsHanded_runLines 5 (hng.activate.handLine (k := k) (c := none) (b := false))
  rw [hhand] at hkeep
  have hpass : passTurn t k v = runLines t 5 (handLine t k none false (activate t v)) := rfl
  rw [hhand] at hpass
  refine ⟨linesPass_passTurn hng, addr, w, role, i, hverd, ?_⟩
  rw [hpass]
  exact ⟨_, rfl, hk, rfl, rfl, rfl, hkeep _ (enqueue_handed _ _)⟩

/-! ### Taking and answering a command -/

theorem arise_eq_reported (b : ReportBody) (s : State) : arise b s = reported b s := rfl

theorem countTaken_eq (s : State) : countTaken s = recordTaken s := by
  unfold countTaken recordTaken LockState.relock
  cases h : s.guard.lock <;> rfl

theorem recordTaken_setLink (s : State) (x : LinkState) : recordTaken (s.setLink x) = (recordTaken s).setLink x := rfl

theorem reported_setLink (b : ReportBody) (s : State) (x : LinkState) :
    reported b (s.setLink x) = (reported b s).setLink x := by
  by_cases h : s.reports.pending.length < 16 <;> simp [reported, State.setLink, h]

theorem setLink_self (s : State) {x : LinkState} (h : x = s.link) : s.setLink x = s := by
  rw [h]
  rfl

/-- `activate` changes the outstanding requests alone. -/
theorem activate_eq (t : Fin 64) (s : State) : activate t s = s.setLink (activate t s).link := rfl

theorem RecordPasses.of_setLink {t : Fin 64} {k : Nat} {l : ReqLine} {u s : State} {x : LinkState}
    (h : RecordPasses t k l (u.setLink x) s) : RecordPasses t k l u s :=
  ⟨(LinesPass.of_link (u := u) (s := u.setLink x) rfl).trans h.1, h.2⟩

theorem lockRefusal_eq_none {lock : LockState} {code : Nat} (h : codeProtected code = true → lock = .open) :
    lockRefusal lock code = none := by
  unfold lockRefusal
  split
  · rename_i hp
    rw [h hp]
  · rfl

theorem answered_setLink (l : Line) (a : Option RefusalCode) (s : State) (x : LinkState) :
    answered l a (s.setLink x) = (answered l a s).setLink x := by
  cases a with
  | none => exact reported_setLink _ s x
  | some c => exact reported_setLink _ (refusedCounted s) x

/-- R41, R42, R44: what a taken record whose lock lets it pass does: its owner acts, and the answer follows. -/
theorem runCommand_eq {owner : Owner} {l : Line} {s u : State} {a : Option RefusalCode}
    (hlock : codeProtected (recordCode l) = true → s.guard.lock = .open) (ho : owner l (recordTaken s) = (u, a)) :
    runCommand owner l s = answered l a u := by
  simp only [runCommand, lockRefusal_eq_none hlock, countTaken_eq, ho]
  cases a <;> rfl

/-- R41, R42: a command in the control window whose lock lets it pass: its owner acts on the state after the record was
taken, the answer follows, and the line passes. -/
theorem takeCommand_passes {t : Fin 64} {code : Nat} {owner : Owner} {s : State} {k : Nat} {l : ReqLine}
    (e : AtTurn s t k l .control) (hcode : recordCode l.data = code)
    (hlock : codeProtected code = true → s.guard.lock = .open) {u : State} {a : Option RefusalCode}
    (ho : ∀ x, owner l.data ((recordTaken s).setLink x) = (u.setLink x, a)) :
    RecordPasses t k l (answered l.data a u) (takeCommand t code owner s) := by
  obtain ⟨r, hr⟩ := e
  have hc : r.cls ≠ .guest := by
    rcases (handlerOf_spec (turnLine_spec hr).2.2.2.2).2.1 with h | h <;> rw [h] <;> simp
  have hrun : runCommand owner l.data (activate t s) = (answered l.data a u).setLink (activate t s).link := by
    rw [← answered_setLink]
    exact runCommand_eq (by rw [hcode]; simpa using hlock) (ho (activate t s).link)
  unfold takeCommand takeRecord
  rw [hr]
  simp only [hcode, beq_self_eq_true, if_true]
  rw [hrun]
  exact RecordPasses.of_setLink (passTurn_recordPasses hr rfl hc)

end Sys2Proof.Machine
end

