-- ==== Sys2Proof/Laws/Memory.lean ====
section
/-! SUPPORT. DRAM as memory: reading after writing, and the canonical form that every memory operation keeps. -/

namespace Sys2Proof.Machine

open Sys2Proof

theorem Memory.wfFrom_mono {m : Memory} {lo hi : Nat} (h : lo ≤ hi) (hm : Memory.wfFrom hi m = true) :
    Memory.wfFrom lo m = true := by
  cases m with
  | nil => rfl
  | cons c rest => simp only [Memory.wfFrom, Bool.and_eq_true, decide_eq_true_eq] at hm ⊢; exact ⟨⟨by omega, hm.1.2⟩, hm.2⟩

/-- An address below every listed one reads as unwritten. -/
theorem Memory.read_below {m : Memory} {lo x : Nat} (hm : Memory.wfFrom lo m = true) (hx : x < lo) :
    Memory.read m x = Config.unwritten := by
  induction m generalizing lo with
  | nil => rfl
  | cons c rest ih =>
    simp only [Memory.wfFrom, Bool.and_eq_true, decide_eq_true_eq] at hm
    simp only [Memory.read]
    rw [if_neg (by omega)]
    exact ih hm.2 (by omega)

theorem Memory.write_wfFrom {m : Memory} {lo x : Nat} (v : Byte) (hm : Memory.wfFrom lo m = true) (hx : lo ≤ x) :
    Memory.wfFrom lo (Memory.write m x v) = true := by
  induction m generalizing lo with
  | nil =>
    simp only [Memory.write]
    split <;> simp_all [Memory.wfFrom]
  | cons c rest ih =>
    obtain ⟨a, b⟩ := c
    simp only [Memory.wfFrom, Bool.and_eq_true, decide_eq_true_eq] at hm
    simp only [Memory.write]
    split
    · rename_i hlt
      split
      · simp only [Memory.wfFrom, Bool.and_eq_true, decide_eq_true_eq]; exact hm
      · rename_i hv
        simp only [Memory.wfFrom, Bool.and_eq_true, decide_eq_true_eq]
        exact ⟨⟨hx, hv⟩, ⟨by omega, hm.1.2⟩, hm.2⟩
    · split
      · split
        · exact Memory.wfFrom_mono (by omega) hm.2
        · rename_i hv
          simp only [Memory.wfFrom, Bool.and_eq_true, decide_eq_true_eq]
          exact ⟨⟨hm.1.1, hv⟩, hm.2⟩
      · simp only [Memory.wfFrom, Bool.and_eq_true, decide_eq_true_eq]
        exact ⟨hm.1, ih hm.2 (by omega)⟩

/-- A byte write keeps the canonical form. -/
theorem Memory.write_wf {m : Memory} (x : Nat) (v : Byte) (hm : m.wf = true) : (Memory.write m x v).wf = true :=
  Memory.write_wfFrom v hm (Nat.zero_le x)

/-- A byte write changes the byte it names and no other. -/
theorem Memory.read_write {m : Memory} {lo : Nat} (hm : Memory.wfFrom lo m = true) (x y : Nat) (v : Byte) :
    Memory.read (Memory.write m x v) y = if y = x then v else Memory.read m y := by
  induction m generalizing lo with
  | nil =>
    simp only [Memory.write]
    split <;> simp_all [Memory.read]
  | cons c rest ih =>
    obtain ⟨a, b⟩ := c
    simp only [Memory.wfFrom, Bool.and_eq_true, decide_eq_true_eq] at hm
    simp only [Memory.write]
    split
    · rename_i hlt
      have hb : Memory.read rest x = Config.unwritten := Memory.read_below hm.2 (by omega)
      split
      · by_cases hy : y = x
        · subst hy; rename_i hv; simp [Memory.read, hv, hb, Nat.ne_of_lt hlt]
        · simp [hy]
      · by_cases hy : y = x <;> simp [Memory.read, hy]
    · split
      · rename_i hxa
        subst hxa
        have hb : Memory.read rest x = Config.unwritten := Memory.read_below hm.2 (by omega)
        split
        · rename_i hv
          by_cases hy : y = x
          · subst hy; simp [hb, hv]
          · simp [Memory.read, hy]
        · by_cases hy : y = x <;> simp [Memory.read, hy]
      · rename_i hxa
        simp only [Memory.read, ih hm.2]
        by_cases hy : y = a
        · subst hy; simp [show y ≠ x from fun h => hxa h.symm]
        · simp [hy]

theorem Memory.writeBytes_wf {m : Memory} (a : Nat) (mask : Mask) (data : Line) (k : Nat) (hm : m.wf = true) :
    (Memory.writeBytes m a mask data k).wf = true := by
  induction k with
  | zero => exact hm
  | succ k ih =>
    simp only [Memory.writeBytes]
    split
    · exact Memory.write_wf _ _ ih
    · exact ih

/-- A line write keeps the canonical form. -/
theorem Memory.writeLine_wf {m : Memory} (a : Nat) (mask : Mask) (data : Line) (hm : m.wf = true) :
    (Memory.writeLine m a mask data).wf = true := Memory.writeBytes_wf a mask data 64 hm

theorem Memory.read_writeBytes {m : Memory} (hm : m.wf = true) (a : Nat) (mask : Mask) (data : Line) (k x : Nat) :
    Memory.read (Memory.writeBytes m a mask data k) x =
      if a ≤ x ∧ x < a + k ∧ mask.getLsbD (x - a) = true then getByte data (x - a) else Memory.read m x := by
  induction k with
  | zero => simp only [Memory.writeBytes]; rw [if_neg (by omega)]
  | succ k ih =>
    simp only [Memory.writeBytes]
    split
    · rename_i hk
      rw [Memory.read_write (Memory.writeBytes_wf a mask data k hm), ih]
      by_cases hx : x = a + k
      · subst hx; simp [hk]
      · rw [if_neg hx]
        by_cases hr : a ≤ x ∧ x < a + k ∧ mask.getLsbD (x - a) = true
        · rw [if_pos hr, if_pos ⟨hr.1, by omega, hr.2.2⟩]
        · rw [if_neg hr, if_neg (fun h => hr ⟨h.1, by omega, h.2.2⟩)]
    · rename_i hk
      rw [ih]
      by_cases hr : a ≤ x ∧ x < a + k ∧ mask.getLsbD (x - a) = true
      · rw [if_pos hr, if_pos ⟨hr.1, by omega, hr.2.2⟩]
      · rw [if_neg hr, if_neg (fun h => hr ⟨h.1, by
          rcases Nat.lt_or_ge x (a + k) with h1 | h1
          · exact h1
          · exfalso; apply hk; have : x - a = k := by omega
            rw [this] at h; exact h.2.2, h.2.2⟩)]

/-- A line write stores the bytes its mask selects and changes no other byte (R3, R12). -/
theorem Memory.read_writeLine {m : Memory} (hm : m.wf = true) (a : Nat) (mask : Mask) (data : Line) (x : Nat) :
    Memory.read (Memory.writeLine m a mask data) x =
      if a ≤ x ∧ x < a + 64 ∧ mask.getLsbD (x - a) = true then getByte data (x - a) else Memory.read m x :=
  Memory.read_writeBytes hm a mask data 64 x

/-- An inserted access keeps the canonical form. -/
theorem storeAccess_wf (b : Bool) (a : Access) (s : State) (h : s.mem.dram.wf = true) :
    (storeAccess b a s).mem.dram.wf = true := by
  unfold storeAccess
  split
  · exact h
  · exact Memory.writeLine_wf _ _ _ h

/-- The memory at reset has the canonical form. -/
theorem reset_dram_wf : State.reset.mem.dram.wf = true := rfl

end Sys2Proof.Machine
end

