-- ==== Sys2Proof/Tests/Slice0.lean ====
section
/-! SUPPORT. Tests: ill-formed commands that WellFormed refuses, the commands at work on small states, and for each
statement of Obligations.lean that has hypotheses a theorem `test_meets_…` that shows concrete states and operands which
meet them, clause by clause, with a field or two of the result as the spec gives it. Expected values are worked out by
hand from the rules named. -/

namespace Sys2Proof.Tests

open Sys2Proof Sys2Proof.Machine Sys2Proof.Safety

-- One kernel evaluation at a time keeps the threads, and with them the memory, of a build of these tests small.
set_option Elab.async false

/-! ### Builders -/

def every (r : Rights) : PerClass Rights := ⟨r, r, r, r, r, r⟩

def win (base limit : Nat) (role : Role) (protect : Bool) : Window :=
  { enabled := true, base := base, limit := limit, offset := 0, role := role, rights := every .readWrite
    writeProtect := protect }

/-- A table with one window for each role, in DRAM at identity addresses. -/
def table : Vector Window 16 :=
  #v[win 16 16 .control false, win 17 17 .report false, win 32 33 .journalA true, win 34 35 .journalB true,
    win 40 40 .price false, win 41 41 .labelQueue false, win 42 42 .labelAck false, Window.disabled, Window.disabled,
    Window.disabled, Window.disabled, Window.disabled, Window.disabled, Window.disabled, Window.disabled, Window.disabled]

/-- A configured part right after its load, with no report waiting. -/
def base : State :=
  let r := State.reset
  { r with
    guard := { r.guard with windows := table, keys := some (1, 2) }
    reports := { r.reports with pending := [] }, loader := { r.loader with running := true } }

/-- The line of a request at a bus address, with its verdict. -/
def lineFor (s : State) (cls : InitClass) (kind : AccessKind) (bus : Nat) (data : Line) : ReqLine :=
  { bus := bus, mask := match kind with | .write => fullMask | .read => 0
    data := data, verdict := some (judgeLine s.guard s.mem.size cls kind bus), stage := .awaitsTurn, outcome := .pending
    delivered := 0 }

/-- A request of one line. -/
def oneLine (s : State) (cls : InitClass) (kind : AccessKind) (bus : Nat) (data : Line) : Request :=
  { txn := 3, tag := 0, kind := kind, cls := cls, view := s.price.views.get cls, progress := .judged
    lines := [lineFor s cls kind bus data], captureReserved := 0, deferralReserved := false }

def withRequest (r : Request) (s : State) : State := { s with link := { s.link with requests := [r] } }

/-- A started one-line write whose line is at its turn. -/
def writing (cls : InitClass) (bus : Nat) (data : Line) (s : State) : State :=
  withRequest (oneLine s cls .write bus data) s

/-- A control record at its turn in line 0 of the control window (page 16). -/
def record (d : Line) (s : State) : State := writing .cpu 65536 d s

/-- A record of a command code and its arguments, with cookie 7 (section 12.4). -/
def args (code : Nat) (fields : List (Nat × Nat)) : Line := packLine ((2, code) :: (2, 7) :: fields)

/-- The state after a command. -/
def after (c : Instr) (s : State) : State :=
  match exec c s with
  | .next s' => s'
  | _ => State.reset

/-- The last report that waits. -/
def lastReport (s : State) : Option ReportBody := s.reports.pending.getLast?.map (fun r => r.body)

theorem atTurn_of {s : State} {t : Fin 64} {k : Nat} {l : ReqLine} {h : Handler}
    (e : (turnLine t s).map (fun x => x.2) = some (k, l, h)) : AtTurn s t k l h := by
  unfold AtTurn
  cases hx : turnLine t s with
  | none => rw [hx] at e; simp at e
  | some x =>
    rw [hx] at e
    obtain ⟨r, y⟩ := x
    exact ⟨r, by simpa using e⟩

/-- A control record at its turn meets the first hypothesis of `CarriesOut` and of `Refuses`. -/
theorem record_at_turn {d : Line} {s : State}
    (h : judgeLine s.guard s.mem.size .cpu .write 65536 = .pass 65536 (some 0) .control 0) :
    AtTurn (record d s) 3 0 (lineFor s .cpu .write 65536 d) .control := by
  apply atTurn_of
  simp [turnLine, findRequest, record, writing, withRequest, oneLine, lineFor, nextTurn, handlerOf, h]

/-- A record at its turn with a command's code, which the lock lets pass: what `CarriesOut` and `Refuses` ask beside their
condition. -/
abbrev Taken (d : Line) (s : State) (code : Nat) : Prop :=
  judgeLine s.guard s.mem.size .cpu .write 65536 = .pass 65536 (some 0) .control 0 ∧ recordCode d = code ∧
    (codeProtected code = true → s.guard.lock = .open)

/-! ### WellFormed (section 1.1) -/

theorem test_write_without_its_lines_refused :
    Instr.wellFormed (.request { kind := .write, txn := 0, tag := 0, addr := 0, count := 1, lines := [⟨0, 0⟩] }) = false := by
  decide

theorem test_read_with_a_line_refused :
    Instr.wellFormed (.request { kind := .read, txn := 0, tag := 0, addr := 0, count := 0, lines := [⟨0, 0⟩] }) = false := by
  decide

theorem test_write_with_its_lines_well_formed :
    Instr.wellFormed (.request { kind := .write, txn := 0, tag := 0, addr := 0, count := 1, lines := [⟨0, 0⟩, ⟨0, 0⟩] }) =
      true := by
  decide

/-! ### The block as a whole -/

theorem test_meets_StepRunsFrontCommand :
    let s := { base with pending := [.secondEvent, .periodBoundary] }
    s.pending = .secondEvent :: [.periodBoundary] ∧
      ∃ s', step s = .next s' ∧ s'.time.seconds = 1 ∧ s'.pending = [.periodBoundary] := by
  refine ⟨rfl, _, rfl, ?_, ?_⟩ <;> decide +kernel

theorem test_meets_EmptyQueueLetsTimePass :
    let s := { base with time := { base.time with micros := 999, millis := 998 } }
    (base.pending = [] ∧ NothingDue base ∧ base.guest.queue = [] ∧ base.time.micros < 999) ∧
    (s.pending = [] ∧ NothingDue s ∧ s.guest.queue = [] ∧ s.time.micros = 999 ∧ s.time.millis < 999 ∧
      s.time.counter + 1 < s.time.inForce.p) := by
  simp only [NothingDue]
  decide +kernel

/-- After reset no row makes an event but those that make it by being sent, and the beginning of a hold. -/
theorem test_no_row_makes_an_event_after_reset (c : Instr) :
    NotMade c State.reset ∨ c ∈ [.periodBoundary, .secondEvent, .pacingExpiry, .linkReset, .powerFailHoldBegin,
      .retainedSupplyLost] ∨ (∃ r, c = .request r) ∨ ∃ e p a, c = .startUp e p a := by
  have idle (t : Fin 64) : turnLine t State.reset = none := rfl
  have found (t : Fin 64) : findRequest State.reset t = none := rfl
  have empty (src : Source) (a : Access) (n : Nat) : State.reset.mem.slots.get src ≠ .waiting a n := by
    cases src <;> exact Slot.noConfusion
  cases c
  case dramGrant => exact .inl (.inr (.inr ⟨rfl, empty⟩))
  all_goals
    simp [NotMade, RecordAbsent, AtTurn, AtStart, InsertedAtPort, idle, found] <;> simp [State.reset] <;> decide

/-- Rows whose event some condition alone holds back: a slot in use, the turn of the other read, a bank still draining, a
grace of 1, a line of another kind, a code of another command, a hold in force. -/
theorem test_meets_EveryCommandAnswersNextState :
    let pairs : State := { base with price := { base.price with
      queue := [⟨none, 163840, 0, .waiting⟩], withdrawals := [5], lastIssue := .capture
      table := [⟨5, 163904, 100, 200, 0, 2, .hold, 0, .staged, 0, false, .withdraw⟩] } }
    let draining : State := { base with journal := { base.journal with
      partWrite := .draining ⟨.a, .dayOpen, 0⟩, bankA := { base.journal.bankA with inFlight := 1 } } }
    let closing : State := { base with day := { base.day with phase := .closing, grace := 1 } }
    let held : State := { base with mem := { base.mem with hold := true } }
    (captureCandidate pairs.price ≠ none ∧ withdrawalCandidate pairs.price ≠ none ∧ NotMade .captureReadIssue pairs ∧
      after .captureReadIssue pairs = pairs ∧ after .checkReadIssue pairs ≠ pairs) ∧
    (NotMade .partWriteIssue draining ∧ after .partWriteIssue draining = draining) ∧
    (NotMade .graceExpiry closing ∧ after .graceExpiry closing = closing) ∧
    (NotMade .powerFailHoldBegin held ∧ after .powerFailHoldBegin held = held) ∧
    (NotMade (.unlock 3) (record (args 0x12 []) base) ∧
      after (.unlock 3) (record (args 0x12 []) base) = record (args 0x12 []) base) := by
  refine ⟨⟨by decide +kernel, by decide +kernel, .inr (.inr (.inr (.inr (by decide +kernel)))), by decide +kernel,
    by decide +kernel⟩, ⟨?_, by decide +kernel⟩, ⟨.inr (by decide +kernel), by decide +kernel⟩,
    ⟨rfl, by decide +kernel⟩, ⟨?_, by decide +kernel⟩⟩
  · intro o h
    obtain rfl : (⟨.a, .dayOpen, 0⟩ : PartOrder) = o := by injection h
    exact .inr (.inl (by decide +kernel))
  · have at_ : (turnLine 3 (record (args 0x12 []) base)).map (fun x => recordCode x.2.2.1.data) = some 0x12 := by
      decide +kernel
    intro k l h
    obtain ⟨r, h⟩ | ⟨r, h⟩ := h <;> rw [h] at at_ <;> simp only [Option.map_some, Option.some.injEq] at at_ <;> omega

/-- A state with a request whose lines are handed over and held, a dropped write, a judged request and a watch entry meets
the invariants, and a step follows. -/
def busy : State :=
  let w : WatchEntry :=
    { item := 5, line := 163840, oldPrice := 100, newPrice := 200, zone := 0, facings := 2, policy := .hold, acked := 0
      state := .staged, attempts := 0, epochSeen := false, exit := .none }
  let l := lineFor base .cpu .write 163840 0
  let r : Request := { oneLine base .cpu .write 163840 0 with
    txn := 4, progress := .active, lines := [{ l with stage := .handed }, { l with stage := .held }] }
  let line : PassedLine :=
    { owner := none, kind := .write, addr := 64, mask := 1, data := 0, commit := none, released := false }
  let s := record (args 0x21 [(4, 10)]) base
  { s with
    link := { s.link with requests := s.link.requests ++ [r] }
    price := { base.price with table := [w], queue := [⟨some ⟨4, 1⟩, 163840, 0, .waiting⟩] }, pending := [.setClock 3]
    mem := { base.mem with dram := [(64, 7)], port := .passed line, queue := [{ line with owner := some ⟨4, 0⟩ }] } }

theorem test_busy_lines_tracked : LinesTracked busy where
  counted := by decide +kernel
  orphans := by
    intro p hp h
    simp [busy] at hp
    subst hp
    cases h
  handed := by
    intro p hp o ho
    simp [busy, passedLines] at hp
    rcases hp with rfl | rfl
    · cases ho
    · cases ho
      exact ⟨_, .tail _ (.head _), rfl, _, rfl, rfl, rfl⟩
  handedOnce := by decide +kernel
  awaiting := by decide +kernel
  captures := by decide +kernel
  capturePlaces := by decide +kernel
  deferralPlaces := by decide +kernel
  held := by
    intro c hc _
    simp [busy] at hc
    subst hc
    exact ⟨_, rfl, _, .tail _ (.head _), rfl, _, rfl, rfl, rfl⟩
  heldOnce := by decide +kernel

theorem test_meets_EveryStepKeeps :
    MemoryCanonical busy ∧ (Bounded busy ∧ TxnsDistinct busy ∧ ItemsDistinct busy ∧ LinesTracked busy) ∧
      WindowsSound busy ∧ ∃ s', step busy = .next s' ∧ s'.time.clock = .set := by
  refine ⟨?_, ⟨⟨?_, ?_, ?_, ?_, ?_, ?_, ?_, fun src => ?_⟩, ?_, ?_, test_busy_lines_tracked⟩, ⟨?_, ?_⟩, _, rfl, ?_⟩
  · unfold MemoryCanonical; decide +kernel
  · decide +kernel
  · decide +kernel
  · decide +kernel
  · decide +kernel
  · decide +kernel
  · decide +kernel
  · decide +kernel
  · cases src <;> exact trivial
  · unfold TxnsDistinct; decide +kernel
  · unfold ItemsDistinct; decide +kernel
  · unfold TableLaws; decide +kernel
  · intro i bk; revert i; cases bk <;> decide +kernel
  · decide +kernel

theorem test_meets_DramChangesOnlyWhereWritesComplete :
    Instr.secondEvent ≠ .passedWriteComplete ∧ Instr.secondEvent ≠ .placementComplete ∧
      Instr.secondEvent ≠ .writeBackComplete ∧ Instr.secondEvent ≠ .partWriteCommit ∧
      Instr.secondEvent ≠ .workRecordComplete ∧ Instr.secondEvent ≠ .resultLineWritten ∧
      ∃ s', exec .secondEvent base = .next s' := by
  refine ⟨?_, ?_, ?_, ?_, ?_, ?_, _, rfl⟩ <;> decide

/-! ### Memory Port -/

/-- A passed line of the request 3 at the port. -/
def passed (kind : AccessKind) (addr : Nat) (data : Line) : PassedLine :=
  { owner := some ⟨3, 0⟩, kind := kind, addr := addr, mask := match kind with | .write => fullMask | .read => 0
    data := data, commit := none, released := false }

/-- The only line of a one-line read, handed to the Memory Port and in progress there. -/
def readAtPort (cls : InitClass) (bus : Nat) (s : State) : State :=
  let r := oneLine s cls .read bus 0
  { withRequest { r with progress := .active, lines := r.lines.map (fun l => { l with stage := .handed }) } s with
    mem := { s.mem with port := .passed (passed .read bus 0) } }

/-- An inserted access in progress at the port. -/
def insertedAtPort (src : Source) (a : Access) (s : State) : State :=
  { s with mem := { s.mem with port := .inserted src, slots := s.mem.slots.put src (.granted a) } }

def fullWrite (addr : Nat) (data : Line) : Access := { kind := .write, addr := addr, mask := fullMask, data := data }

theorem test_meets_CompletedWriteStoresMaskedBytes :
    let line := passed .write 64 0x0201
    let a := fullWrite 128 5
    MemoryCanonical base ∧
    WriteAtPort .passedWriteComplete { base with mem := { base.mem with port := .passed line } } 64 fullMask 0x0201 ∧
    WriteAtPort .placementComplete (insertedAtPort .reportWriter a
      { base with reports := { base.reports with placing := some ⟨true⟩ } }) 128 fullMask 5 ∧
    WriteAtPort .partWriteCommit (insertedAtPort .journalEngine a
      { base with journal := { base.journal with partWrite := .writing ⟨.a, .dayOpen, 0⟩ 5 } }) 128 fullMask 5 ∧
    WriteAtPort .writeBackComplete (insertedAtPort .priceWatch a
      { base with price := { base.price with access := .writeBack 9 } }) 128 fullMask 5 ∧
    WriteAtPort .workRecordComplete (insertedAtPort .labelSequencer a
      { base with label := { base.label with writing := some ⟨[], true, true⟩ } }) 128 fullMask 5 ∧
    WriteAtPort .resultLineWritten (insertedAtPort .configLoader a
      { base with loader := { base.loader with access := .resultWrite } }) 128 fullMask 5 := by
  refine ⟨?_, .inl ⟨rfl, _, rfl, rfl, rfl, rfl, rfl⟩, .inr ⟨.reportWriter, rfl, rfl, .inl ⟨rfl, rfl, ?_⟩⟩,
    .inr ⟨.journalEngine, rfl, rfl, .inr (.inl ⟨rfl, rfl, _, _, rfl⟩)⟩,
    .inr ⟨.priceWatch, rfl, rfl, .inr (.inr (.inl ⟨rfl, rfl, _, rfl⟩))⟩,
    .inr ⟨.labelSequencer, rfl, rfl, .inr (.inr (.inr (.inl ⟨rfl, rfl, ?_⟩)))⟩,
    .inr ⟨.configLoader, rfl, rfl, .inr (.inr (.inr (.inr ⟨rfl, rfl, rfl⟩)))⟩⟩
  · unfold MemoryCanonical; decide +kernel
  · simp [insertedAtPort]
  · simp [insertedAtPort]

theorem test_masked_write_stores_selected_bytes :
    let line := { passed .write 64 0x030201 with mask := 0x5 }
    let s' := after .passedWriteComplete { base with mem := { base.mem with port := .passed line } }
    s'.mem.dram = [(64, 1), (66, 3)] ∧ s'.mem.port = .idle := by
  decide +kernel

/-- A one-line read of plain memory completes its request; the first line of a two-line read leaves it outstanding. -/
theorem test_meets_PlainReadDeliversDram :
    let s := { readAtPort .cpu 256 base with mem := { (readAtPort .cpu 256 base).mem with dram := [(256, 9)] } }
    let r := { oneLine base .cpu .read 256 0 with lines := [lineFor base .cpu .read 256 0, lineFor base .cpu .read 320 0] }
    let two := { s with link := { s.link with requests := [r] } }
    (s.mem.port = .passed (passed .read 256 0) ∧ (passed .read 256 0).owner = some ⟨3, 0⟩ ∧
      (∃ q, findRequest s 3 = some q ∧ q.kind = .read ∧ q.cls = .cpu ∧
        (q.lines[0]?).bind (fun l => l.verdict) = some (.pass 256 none .plain 0)) ∧
      (after .passedReadComplete s).link.completions = [⟨3, .taken [.good] [9]⟩]) ∧
    (findRequest two 3 = some r ∧ (r.lines[0]?).bind (fun l => l.verdict) = some (.pass 256 none .plain 0) ∧
      ((after .passedReadComplete two).link.requests.map (fun q => q.lines.map (fun l => l.outcome))) =
        [[.good, .pending]]) := by
  refine ⟨⟨rfl, rfl, ⟨_, rfl, ?_⟩, ?_⟩, ?_⟩ <;> decide +kernel

/-- A price change in flight for item 5 (price line at page 40). -/
def watched : WatchEntry :=
  { item := 5, line := 163840, oldPrice := 100, newPrice := 200, zone := 1, facings := 2, policy := .hold, acked := 0
    state := .staged, attempts := 0, epochSeen := false, exit := .none }

/-- DRAM that holds the price line of item 5 at its new price, 200. -/
def priced : Memory := [(163840, 5), (163844, 200)]

theorem lone_read (cls : InitClass) (bus : Nat) (s : State) {addr i : Nat} {w : Option (Fin 16)} {role : Role}
    (h : judgeLine s.guard s.mem.size cls .read bus = .pass addr w role i) (ha : addr = bus) :
    ∃ r, LoneReadAtPort (readAtPort cls bus s) 3 r addr role i ∧ r.cls = cls ∧ r.view = s.price.views.get cls := by
  subst ha
  exact ⟨{ oneLine s cls .read addr 0 with
      progress := .active, lines := [{ lineFor s cls .read addr 0 with stage := .handed }] },
    ⟨⟨_, rfl, rfl, rfl, rfl⟩, rfl, rfl, ⟨_, w, rfl, congrArg some h⟩⟩, rfl, rfl⟩

theorem test_meets_TillViewSubstitutesOldPrice :
    let s := { base with mem := { base.mem with dram := priced }, price := { base.price with table := [watched] } }
    (∃ r, LoneReadAtPort (readAtPort .cpu 163840 s) 3 r 163840 .price 0 ∧ r.cls = .cpu ∧ r.view = .substituted) ∧
    (getField (Memory.readLine priced 163840) 0 4 = 5 ∧ watched.oldPrice ≤ 9999999) ∧
    ((after .passedReadComplete (readAtPort .cpu 163840 s)).link.completions.map (fun c => c.answer)) =
      [.taken [.good] [packLine [(4, 5), (4, 100), (3, 0), (1, 1)]]] ∧
    ((after .passedReadComplete (readAtPort .cpu 163840 { s with price := base.price })).link.completions.map
      (fun c => c.answer)) = [.taken [.good] [packLine [(4, 5), (4, 200)]]] := by
  refine ⟨lone_read _ _ _ (w := some 4) (by decide +kernel) rfl, ?_, ?_, ?_⟩ <;> decide +kernel

/-- The queue's only unconsumed slot, slot 63 of 64, is read; then an empty queue; then a slot that is not next. -/
theorem test_meets_LabelReadAdvancesConsumer :
    let s := { base with label := { base.label with producer := 0, consumer := 63 } }
    (∃ r, LoneReadAtPort (readAtPort .label 171968 s) 3 r 171968 .labelQueue 63 ∧ r.cls = .label ∧ r.view = .raw) ∧
    roleWindow s.guard.windows .labelQueue = some (win 41 41 .labelQueue false) ∧
    (171968 : Nat) = (win 41 41 .labelQueue false).dramFirst.toNat * 4096 + 63 * 64 ∧
    (after .passedReadComplete (readAtPort .label 171968 s)).label.consumer = 0 ∧
    (after .passedReadComplete (readAtPort .label 167936 s)).label.consumer = 63 ∧
    (after .passedReadComplete (readAtPort .label 167936 base)).label.consumer = 0 := by
  refine ⟨lone_read _ _ _ (w := some 5) (by decide +kernel) rfl, ?_, ?_, ?_, ?_, ?_⟩ <;> decide +kernel

/-- Bank A EXPORTING at a cursor, with a last entry index, an export chain, and DRAM zero: the chain of a zero line after
chain 0 is 0, after chain 1 it is 32. -/
def exporting (cursor last : Nat) (chain : Word32) : State :=
  { base with journal := { base.journal with bankA := { base.journal.bankA with
      state := .exporting, exportCursor := cursor, lastIndex := some last, exportChain := chain, savedWan := .none } } }

theorem test_meets_ExportReadChecksChain :
    (∃ r, LoneReadAtPort (readAtPort .wan 131136 (exporting 1 2 0)) 3 r 131136 Bank.a.role 1 ∧ r.cls = .wan ∧
      r.view = .raw) ∧
    chainOf 0 (Memory.readLine [] 131136) = getWord (Memory.readLine [] 131136) 56 ∧
    chainOf 1 (Memory.readLine [] 131136) ≠ getWord (Memory.readLine [] 131136) 56 ∧
    (after .passedReadComplete (readAtPort .wan 131136 (exporting 1 2 0))).journal.bankA.exportCursor = 2 ∧
    (after .passedReadComplete (readAtPort .wan 131136 (exporting 1 1 0))).journal.bankA.state = .verified ∧
    lastReport (after .passedReadComplete (readAtPort .wan 131136 (exporting 1 1 0))) = some (.exportVerified .a 0 2 0) ∧
    (after .passedReadComplete (readAtPort .wan 131136 (exporting 1 2 1))).journal.bankA.state = .closed ∧
    lastReport (after .passedReadComplete (readAtPort .wan 131136 (exporting 1 2 1))) =
      some (.exportMismatch .a 1 32 0) ∧
    (after .passedReadComplete (readAtPort .wan 131136 (exporting 0 2 1))).journal.bankA = (exporting 0 2 1).journal.bankA := by
  refine ⟨lone_read _ _ _ (w := some 2) (by decide +kernel) rfl, ?_, ?_, ?_, ?_, ?_, ?_, ?_, ?_⟩ <;> decide +kernel

/-- A passed line waits, and the Journal Engine and the Price Watch wait with the given counts. -/
def waiting (journal price : Nat) : State :=
  { base with mem := { base.mem with
      queue := [passed .write 64 1]
      slots := { base.mem.slots with
        journalEngine := .waiting (fullWrite 128 2) journal, priceWatch := .waiting (fullWrite 192 3) price } } }

theorem test_meets_GrantFollowsQueueAndWaitCounts :
    (waiting 7 0).mem.port = .idle ∧ (waiting 7 0).mem.hold = false ∧
    (after .dramGrant (waiting 7 0)).mem.port = .passed (passed .write 64 1) ∧
    (after .dramGrant (waiting 7 0)).mem.slots.journalEngine = .waiting (fullWrite 128 2) 8 ∧
    (after .dramGrant (waiting 0 8)).mem.port = .inserted .journalEngine ∧
    (after .dramGrant { waiting 0 8 with mem := { (waiting 0 8).mem with lastGranted := .journalEngine } }).mem.port =
      .inserted .priceWatch ∧
    (after .dramGrant { waiting 8 8 with mem := { (waiting 8 8).mem with hold := true } }).mem.port = .idle := by
  decide +kernel

theorem test_grant_hypotheses_met :
    (∀ src a n, (waiting 7 0).mem.slots.get src = .waiting a n → n < 8) ∧
    (∃ x b, (waiting 0 8).mem.slots.get x = .waiting b 8) ∧
    (∀ x, x ∈ (waiting 0 8).mem.lastGranted.after.takeWhile (fun x => decide (x ≠ .journalEngine)) →
      ∀ b m, (waiting 0 8).mem.slots.get x ≠ .waiting b m) ∧
    (fullWrite 128 2).addr < (waiting 0 8).mem.size.bytes := by
  refine ⟨?_, ⟨.priceWatch, _, rfl⟩, ?_, by decide⟩
  · intro src a n h
    cases src <;> simp [waiting, base, State.reset, PerSource.get] at h <;> omega
  · intro x hx b m
    have : x = .reportWriter := by
      revert hx
      cases x <;> decide
    subst this
    simp [waiting, base, State.reset, PerSource.get]

theorem test_meets_HoldAbandonsAndReissues :
    let s := record (args 0x21 [(4, 10)]) (waiting 7 0)
    let held := after .powerFailHoldBegin s
    s.mem.hold = false ∧ TxnsDistinct s ∧ held.mem.hold = true ∧ held.link.completions = [⟨3, .retry⟩] ∧
      held.link.requests = [] ∧ held.mem.slots.journalEngine = .empty ∧ held.mem.selfRefresh = true ∧
      (after .powerFailHoldEnd held).mem.slots.journalEngine = .waiting (fullWrite 128 2) 0 := by
  simp only [TxnsDistinct]
  decide +kernel

/-- A link reset drops the request, keeps the write that waits, and returns an OPEN lock to LOCKED. -/
theorem test_link_reset :
    let s := record (args 0x21 [(4, 10)]) { waiting 7 0 with guard := { base.guard with lock := .open } }
    let s' := after .linkReset s
    s'.link.requests = [] ∧ s'.mem.queue = [{ passed .write 64 1 with owner := none }] ∧ s'.guard.lock = .locked ∧
      s'.mem.slots.journalEngine = .waiting (fullWrite 128 2) 7 := by
  decide +kernel

/-! ### Link Port, Window Guard and Guest Budget -/

def readOf (txn : Fin 64) (count : Fin 4) : LinkRequest :=
  { kind := .read, txn := txn, tag := 0, addr := 0xFFFFFFC7, count := count, lines := [] }

/-- 32 outstanding requests, as many as the table holds. -/
def full : State := { base with link := { base.link with
  requests := (List.finRange 32).map (fun i => { oneLine base .cpu .read 256 0 with txn := ⟨i.val, by omega⟩ }) } }

theorem test_meets_RequestTakenOrAnsweredRetry :
    (readOf 5 1).wellFormed = true ∧
    (after (.request (readOf 5 1)) base).link.requests.map (fun r => r.lines.map (fun l => l.bus)) = [[0xFFFFFFC0, 0]] ∧
    32 ≤ full.link.requests.length ∧
    (after (.request (readOf 40 1)) full).link.completions = [⟨40, .retry⟩] ∧
    (after (.request (readOf 3 0)) (record 0 base)).link.completions = [⟨3, .retry⟩] := by
  decide +kernel

/-- A QUEUED request of one line. -/
def queued (tag : Fin 16) (kind : AccessKind) (bus : Nat) (data : Line) : Request :=
  { txn := 3, tag := tag, kind := kind, cls := .other, view := .raw, progress := .queued
    lines := [{ lineFor base .cpu kind bus data with verdict := none }], captureReserved := 0, deferralReserved := false }

theorem at_start (r : Request) (s : State) (h : r.progress = .queued) (ht : r.txn = 3) : AtStart (withRequest r s) 3 r := by
  refine ⟨by simp [findRequest, withRequest, ht], h, ?_⟩
  simp [withRequest, earlierOfTag, ht]

/-- A full capture queue leaves no place for a price write; a control record waits for its handler; a lone read is handed
on; a read of another class without a right is refused. -/
theorem test_meets_RequestStartJudgesAndPasses :
    let c : CaptureLine := { owner := none, addr := 0, data := 0, stage := .waiting }
    let s := withRequest (queued 0 .write 163840 0) { base with price := { base.price with queue := [c, c, c, c] } }
    let control := withRequest (queued 0 .write 65536 0) base
    let lone := withRequest (queued 0 .read 256 0) base
    let refused := withRequest (queued 9 .read 256 0) base
    (¬PlacesFree s (judgeRequest s (queued 0 .write 163840 0)) ∧ (after (.requestStart 3) s).link.completions = [⟨3, .retry⟩]) ∧
    (PlacesFree control (judgeRequest control (queued 0 .write 65536 0)) ∧
      (handlerOf true (judgeRequest control (queued 0 .write 65536 0))
        (lineFor base .cpu .write 65536 0)) = some .control ∧
      (after (.requestStart 3) control).link.requests.map (fun r => r.progress) = [.judged]) ∧
    (PlacesFree lone (judgeRequest lone (queued 0 .read 256 0)) ∧ lone.guard.classMap[(0 : Fin 16)] = .cpu ∧
      handlerOf true (judgeRequest lone (queued 0 .read 256 0)) (lineFor base .cpu .read 256 0) = none ∧
      (after (.requestStart 3) lone).mem.port = .passed (passed .read 256 0)) ∧
    (PlacesFree refused (judgeRequest refused (queued 9 .read 256 0)) ∧
      judgeLine base.guard base.mem.size .other .read 256 = .refuse .noRight none ∧
      (after (.requestStart 3) refused).guard.log.map (fun e => e.cause) = [.noRight] ∧
      (after (.requestStart 3) refused).link.completions = [⟨3, .taken [.filled] [uniformLine 0xFF]⟩]) := by
  simp only [PlacesFree]
  decide +kernel

theorem test_requests_at_start :
    AtStart (withRequest (queued 0 .read 256 0) base) 3 (queued 0 .read 256 0) ∧
      AtStart (withRequest (queued 9 .read 256 0) base) 3 (queued 9 .read 256 0) :=
  ⟨at_start _ _ rfl rfl, at_start _ _ rfl rfl⟩

/-- The last line of the report window and the first line of no window, a plain line under a class default, a line of role
memory, and the first line beyond the installed 256 MiB. -/
theorem test_meets_VerdictAppliesTestsInOrder :
    let far : Window := { win 80 80 .report false with offset := 20 }
    let below : Window := { win 17 17 .plain false with offset := -18 }
    let aliased := { base.guard with windows := vput (vput table 7 far) 1 Window.disabled }
    tableLaws base.guard.windows = true ∧
    judgeLine base.guard .m256 .lan .read 73664 = .pass 73664 (some 1) .report 63 ∧
    judgeLine base.guard .m256 .lan .write 131072 = .refuse .notJournalWriter (some 2) ∧
    judgeLine base.guard .m256 .cpu .write 131072 = .refuse .writeProtect (some 2) ∧
    judgeLine base.guard .m256 .cpu .write 73728 = .pass 73728 none .plain 0 ∧
    judgeLine base.guard .m256 .lan .write 73728 = .refuse .noRight none ∧
    judgeLine base.guard .m256 .cpu .read 268435456 = .refuse .outOfRange none ∧
    judgeLine aliased .m256 .cpu .read 409600 = .refuse .noRight none ∧
    judgeLine { base.guard with windows := vput table 1 below } .m256 .cpu .read 69632 = .refuse .outOfRange (some 1) := by
  decide +kernel

/-- A GUEST read that starts under a guest setting, usage, latch and timer; tag 2 is of the GUEST class. -/
def guest (mode : GuestMode) (hard soft usage : Nat) (latch : Option LatchCause) (timer : Nat) : State :=
  withRequest (queued 2 .read 65536 0) { base with
    guard := { base.guard with classMap := base.guard.classMap.set 2 .guest }
    guest := { base.guest with
      inForce := { mode := mode, hard := hard, soft := soft, pace := 50, fault := 0 }
      usage := usage, latch := latch, timer := timer } }

/-- Entry ⟨9, 4⟩: a GUEST write of two lines with request 9 waits in the deferral queue for the next period. -/
def queuedGuest : Deferred × Request :=
  let l := { lineFor base .guest .write 73728 0 with stage := .awaitsGuest, verdict := some (.pass 73728 (some 2) .plain 0) }
  (⟨9, 4, 2, .period⟩,
    { oneLine base .guest .write 73728 0 with txn := 9, tag := 4, cls := .guest, progress := .active, lines := [l, l] })

/-- The state with that entry alone in the queue. -/
def behindAnother (s : State) : State :=
  { s with
    link := { s.link with requests := queuedGuest.2 :: s.link.requests }
    guest := { s.guest with queue := [queuedGuest.1] } }

theorem test_queue_is (s : State) : QueueIs (behindAnother s) [queuedGuest] ∧ ∀ x ∈ [queuedGuest], x.1.txn ≠ 3 := by
  refine ⟨⟨rfl, by decide +kernel, ?_⟩, by decide +kernel⟩
  intro x hx
  obtain rfl : x = queuedGuest := by simpa using hx
  refine ⟨?_, by decide +kernel, by decide +kernel⟩
  simp [findRequest, behindAnother, queuedGuest]

/-- A GUEST request of one line in no window, which the class default refuses, at a fault threshold and violation count. -/
def guestRefused (fault violations : Nat) : State :=
  let s := guest .off 0 0 0 none 255
  withRequest (queued 2 .read 256 0) { s with guest := { s.guest with
    inForce := { s.guest.inForce with fault := fault }, violations := violations } }

/-- Two lines; the soft budget with the timer at the pace; the latch set with another request in the queue; violations. -/
theorem test_guest_lines_latch_and_violations :
    let l := { lineFor base .cpu .read 65536 0 with verdict := none }
    let two (s : State) : State := withRequest { queued 2 .read 65536 0 with lines := [l, { l with bus := 65600 }] } s
    let latched := after (.requestStart 3) (behindAnother (guest .latched 4 2 4 none 255))
    let faulted := after (.requestStart 3) (behindAnother (guestRefused 2 1))
    ((after (.requestStart 3) (two (guest .cycle 4 2 1 none 0))).guest.usage = 3 ∧
      (after (.requestStart 3) (two (guest .cycle 4 2 1 none 0))).mem.queue = [{ passed .read 65600 0 with owner := some ⟨3, 1⟩ }] ∧
      (after (.requestStart 3) (two (guest .cycle 4 2 3 none 0))).guest.queue = [⟨3, 2, 2, .period⟩]) ∧
    ((guest .cycle 4 2 2 none 50).guest.queue = [] ∧
      (after (.requestStart 3) (guest .cycle 4 2 2 none 50)).guest.usage = 3) ∧
    (latched.guest.queue = [] ∧ latched.guest.latch = some .budget ∧
      latched.link.completions.map (fun c => c.txn) = [9, 3] ∧ latched.guard.log.map (fun e => (e.tag, e.count)) = [(2, 1), (4, 2)]) ∧
    (judgeLine (guestRefused 2 0).guard .m256 .guest .read 256 = .refuse .noRight none ∧
      (after (.requestStart 3) (guestRefused 2 0)).guest.violations = 1 ∧
      (after (.requestStart 3) (guestRefused 2 0)).guest.latch = none) ∧
    (faulted.guest.latch = some .guardFault ∧ faulted.guest.violations = 2 ∧
      faulted.reports.pending.map (fun r => r.body) =
        [.guard ⟨2, .guest, 256, .read, .noRight, none, 1⟩ false, .guestLatched .guardFault 0 2,
          .guard ⟨4, .guest, 73728, .write, .guestLatch, some 2, 1⟩ false]) := by
  decide +kernel

theorem test_meets_GuestRequestJudgedInOrder :
    let r := judgeRequest (guest .cycle 4 2 1 none 0) (queued 2 .read 65536 0)
    let off := guest .off 0 0 0 none 255
    let behind := { off with guest := { off.guest with queue := [⟨9, 2, 1, .period⟩] } }
    (AtStart (guest .cycle 4 2 1 none 0) 3 (queued 2 .read 65536 0) ∧ PlacesFree (guest .cycle 4 2 1 none 0) r ∧
      r.cls = .guest ∧ r.lines.map (fun l => l.verdict) = [some (.pass 65536 (some 0) .control 0)]) ∧
    (after (.requestStart 3) (guest .cycle 4 2 1 none 0)).guest.usage = 2 ∧
    (after (.requestStart 3) (guest .cycle 4 2 2 none 49)).guest.queue = [⟨3, 2, 1, .pace⟩] ∧
    (after (.requestStart 3) (guest .cycle 4 2 4 none 255)).guest.queue = [⟨3, 2, 1, .period⟩] ∧
    (after (.requestStart 3) (guest .latched 4 2 4 none 255)).guest.latch = some .budget ∧
    (after (.requestStart 3) (guest .latched 4 2 4 none 255)).link.completions =
      [⟨3, .taken [.filled] [uniformLine 0xFF]⟩] ∧
    (after (.requestStart 3) (guest .off 0 0 65535 none 255)).mem.port = .passed (passed .read 65536 0) ∧
    (after (.requestStart 3) (guest .off 0 0 0 (some .guardFault) 255)).guard.log.map (fun e => e.cause) = [.guestLatch] ∧
    (after (.requestStart 3) behind).guest.queue = [⟨9, 2, 1, .period⟩, ⟨3, 2, 1, .follow⟩] := by
  refine ⟨⟨at_start _ _ rfl rfl, ?_, ?_, ?_⟩, ?_⟩
  · simp only [PlacesFree]; decide +kernel
  all_goals decide +kernel

/-! ### Report Writer -/

def note : Report := ⟨1, 2, .set, .guestCleared 9⟩

theorem test_meets_PlacementIssuedAndCompleted :
    let s := { base with reports := { base.reports with pending := [note], producer := 63, consumer := 1, overflow := true } }
    let issued := after .placementIssue s
    let a := fullWrite 73664 (reportLine note true true)
    let done := insertedAtPort .reportWriter a issued
    let lost := { done with reports := { done.reports with placing := some ⟨false⟩ } }
    (roleWindow s.guard.windows .report = some (win 17 17 .report false) ∧ s.reports.placing = none ∧
      s.mem.slots.reportWriter = .empty ∧ issued.mem.slots.reportWriter = .waiting a 0 ∧
      issued.reports.overflow = false) ∧
    (done.reports.placing = some ⟨true⟩ ∧ done.reports.pending = [note] ∧
      (after .placementComplete done).reports = { base.reports with producer := 0, consumer := 1, phase := false, irq := true }) ∧
    (lost.reports.placing = some ⟨false⟩ ∧ (after .placementComplete lost).reports.pending = [note]) := by
  decide +kernel

/-- A placement beyond the installed 256 MiB completes in its grant and stores nothing. -/
theorem test_grant_beyond_size_completes :
    let s := { base with
      mem := { base.mem with slots := { base.mem.slots with reportWriter := .waiting (fullWrite 268435456 5) 0 } }
      reports := { base.reports with placing := some ⟨false⟩, pending := [note] } }
    (s.mem.port = .idle ∧ s.mem.hold = false ∧ s.mem.queue = [] ∧ s.mem.size.bytes ≤ (fullWrite 268435456 5).addr) ∧
    (∀ src b m, src ≠ .reportWriter → s.mem.slots.get src ≠ .waiting b m) ∧
    ((after .dramGrant s).mem.dram = [] ∧ (after .dramGrant s).mem.slots.reportWriter = .empty ∧
      (after .dramGrant s).reports.placing = none ∧ (after .dramGrant s).reports.pending = [note]) := by
  refine ⟨by decide +kernel, ?_, by decide +kernel⟩
  intro src b m h
  cases src <;> first | exact absurd rfl h | exact Slot.noConfusion

/-- The WATCH report of an entry, its payload read back at offsets of section 12.5. -/
theorem test_watch_report_bytes :
    let l := reportLine ⟨70000, 999, .set, .watch 5 (some (watched, 3))⟩ true true
    getField l 0 4 = 0x1A + 7 * 256 + 999 * 65536 ∧ getField l 4 4 = 70000 ∧ getField l 12 5 = 1 + 256 * 163840 ∧
      getField l 34 2 = 3 ∧ getField l 36 28 = 0 := by
  decide +kernel

/-! ### Commands of the control window

Each theorem gives a record and a state that meet a command's conditions, then what the command did. -/

def withLock (x : LockState) (s : State) : State := { s with guard := { s.guard with lock := x } }

theorem test_meets_ProtectedCommandsNeedOpenLock :
    let d := args 0x80 []
    Taken d base 0x81 = Taken d base 0x81 ∧ recordCode d = 0x80 ∧
    (withLock .locked base).guard.lock = .locked ∧ (withLock .barred base).guard.lock = .barred ∧
    lastReport (after (.reloadConfig 3) (record d base)) = some (.cmdRefused 0x80 7 .locked) ∧
    lastReport (after (.reloadConfig 3) (record d (withLock .barred base))) = some (.cmdRefused 0x80 7 .barred) ∧
    AtTurn (record d base) 3 0 (lineFor base .cpu .write 65536 d) .control ∧
    AtTurn (record d (withLock .barred base)) 3 0 (lineFor (withLock .barred base) .cpu .write 65536 d) .control := by
  refine ⟨rfl, ?_, rfl, rfl, ?_, ?_, record_at_turn ?_, record_at_turn ?_⟩ <;> decide +kernel

/-- Line 0 of the bootstrap page of an UNCONFIGURED part, at its turn. -/
def boot (d : Line) (s : State) : State := writing .cpu 61440 d s

theorem boot_at_turn {d : Line} {s : State} (h : judgeLine s.guard s.mem.size .cpu .write 61440 = .pass 61440 none .plain 0)
    (hr : s.loader.running = false) : AtTurn (boot d s) 3 0 (lineFor s .cpu .write 61440 d) .bootstrap := by
  apply atTurn_of
  simp [turnLine, findRequest, boot, writing, withRequest, oneLine, lineFor, nextTurn, handlerOf, h, hr, Config.bootstrapLine]

theorem test_meets_UndefinedAndBootstrapCommandsRefused :
    let d := args 0xFFFF []
    let e := args 0x01 []
    (codeDefined (recordCode d) = false ∧ AtTurn (record d base) 3 0 (lineFor base .cpu .write 65536 d) .control ∧
      lastReport (after (.unknownCommand 3) (record d base)) = some (.cmdRefused 0xFFFF 7 .unknownCommand)) ∧
    (AtTurn (boot d State.reset) 3 0 (lineFor State.reset .cpu .write 61440 d) .bootstrap ∧
      (after (.unknownCommand 3) (boot d State.reset)).loader.result =
        some ⟨0xFFFF, 7, 1, .refused, some .unknownCommand, none⟩) ∧
    (recordCode e = 0x01 ∧ AtTurn (boot e State.reset) 3 0 (lineFor State.reset .cpu .write 61440 e) .bootstrap ∧
      (after (.ackReports 3) (boot e State.reset)).loader.result = some ⟨1, 7, 1, .refused, some .wrongState, none⟩ ∧
      (after (.ackReports 3) (boot e State.reset)).decoder.taken = 0) := by
  refine ⟨⟨?_, record_at_turn ?_, ?_⟩, ⟨boot_at_turn ?_ rfl, ?_⟩, ?_, boot_at_turn ?_ rfl, ?_, ?_⟩ <;> decide +kernel

/-- The last index of the 64-slot ring is in range and acknowledged; index 64 is not, nor is one past the producer. -/
theorem test_meets_ReportRingCommands :
    let s := { base with reports := { base.reports with producer := 63, consumer := 62, irq := true } }
    let bare := { base with guard := { base.guard with windows := vput table 1 Window.disabled } }
    (Taken (args 1 [(2, 63)]) s 1 ∧ reportCapacity s = 64 ∧ getField (args 1 [(2, 63)]) 4 2 = 63 ∧
      (after (.ackReports 3) (record (args 1 [(2, 63)]) s)).reports.consumer = 63 ∧
      (after (.ackReports 3) (record (args 1 [(2, 63)]) s)).reports.irq = false) ∧
    (Taken (args 1 [(2, 0)]) bare 1 ∧ roleWindow bare.guard.windows .report = none ∧
      lastReport (after (.ackReports 3) (record (args 1 [(2, 0)]) bare)) = some (.cmdRefused 1 7 .wrongState)) ∧
    (Taken (args 1 [(2, 64)]) s 1 ∧
      lastReport (after (.ackReports 3) (record (args 1 [(2, 64)]) s)) = some (.cmdRefused 1 7 .badArg) ∧
      lastReport (after (.ackReports 3) (record (args 1 [(2, 0)]) s)) = some (.cmdRefused 1 7 .badArg)) ∧
    (Taken (args 2 [(1, 0)]) s 2 ∧ (after (.setIrqThreshold 3) (record (args 2 [(1, 0)]) s)).reports.threshold = 1) := by
  decide +kernel

theorem test_meets_QueriesReportStateAsItStands :
    let s := { base with price := { base.price with table := [{ watched with item := 4 }, watched] } }
    (Taken (args 3 []) base 3 ∧
      (after (.queryStatus 3) (record (args 3 []) base)).reports.pending.map (fun r => r.body.kind) = [0x18, 0x01]) ∧
    (Taken (args 0x30 [(1, 1), (1, 31)]) base 0x30 ∧
      (after (.queryTotals 3) (record (args 0x30 [(1, 1), (1, 31)]) base)).reports.pending.map (fun r => r.body) =
        [.totalsTill .b 31 {}, .cmdDone 0x30 7]) ∧
    (Taken (args 0x30 [(1, 0), (1, 255)]) base 0x30 ∧
      (after (.queryTotals 3) (record (args 0x30 [(1, 0), (1, 255)]) base)).reports.pending.map (fun r => r.body) =
        [.totalsStore .a {}, .cmdDone 0x30 7]) ∧
    (lastReport (after (.queryTotals 3) (record (args 0x30 [(1, 0), (1, 32)]) base)) = some (.cmdRefused 0x30 7 .badArg) ∧
      lastReport (after (.queryTotals 3) (record (args 0x30 [(1, 2), (1, 0)]) base)) = some (.cmdRefused 0x30 7 .badArg)) ∧
    (Taken (args 0x43 [(4, 5)]) s 0x43 ∧ s.price.table[1]? = some watched ∧ (s.price.table.map (fun e => e.item)).Nodup ∧
      (after (.queryWatch 3) (record (args 0x43 [(4, 5)]) s)).reports.pending.map (fun r => r.body) =
        [.watch 5 (some (watched, 1)), .cmdDone 0x43 7]) ∧
    ((∀ e ∈ s.price.table, e.item ≠ 6) ∧
      (after (.queryWatch 3) (record (args 0x43 [(4, 6)]) s)).reports.pending.map (fun r => r.body) =
        [.watch 6 none, .cmdDone 0x43 7]) := by
  decide +kernel

def logged : GuardEntry :=
  { tag := 1, cls := .lan, bus := 64, kind := .read, cause := .noRight, window := none, count := 2 }

theorem test_meets_GuardLogDumpAndClear :
    let s := { base with guard := { base.guard with log := [logged] } }
    (Taken (args 0x14 []) s 0x14 ∧
      (after (.dumpGuardLog 3) (record (args 0x14 []) s)).reports.pending.map (fun r => r.body) =
        [.guard logged true, .cmdDone 0x14 7]) ∧
    (Taken (args 0x15 []) s 0x15 ∧ (after (.clearGuardLog 3) (record (args 0x15 []) s)).guard.log = []) ∧
    base.guard.log = [] ∧ lastReport (logRefusal logged base) = some (.guard logged false) := by
  decide +kernel

theorem test_meets_UnlockJudgesTheKeyPair :
    let two := { base with guard := { base.guard with badKeys := 2 } }
    let good := args 0x10 [(4, 1), (4, 2)]
    let bad := args 0x10 [(4, 1), (4, 3)]
    (Taken good two 0x10 ∧ two.guard.lock ≠ .barred ∧ two.guard.keys = some (getWord good 4, getWord good 8) ∧
      (after (.unlock 3) (record good two)).guard.lock = .open ∧ (after (.unlock 3) (record good two)).guard.badKeys = 0) ∧
    (two.guard.keys ≠ some (getWord bad 4, getWord bad 8) ∧
      (after (.unlock 3) (record bad base)).guard.lock = .locked ∧ (after (.unlock 3) (record bad two)).guard.lock = .barred) ∧
    ((withLock .barred base).guard.lock = .barred ∧
      lastReport (after (.unlock 3) (record good (withLock .barred base))) = some (.cmdRefused 0x10 7 .barred)) := by
  decide +kernel

/-- A window entry of 32 bytes as SET_WINDOW carries it from byte 8 on (section 12.6), rights all READ_WRITE. -/
def setWindow (i : Nat) (role base limit : Nat) : Line :=
  args 0x11 [(1, i), (3, 0), (1, 1), (1, role), (2, 0), (4, base), (4, limit), (4, 0),
    (1, 2), (1, 2), (1, 2), (1, 2), (1, 2), (1, 2)]

def unlocked : State := withLock .open base

/-- The table without the window at an index. -/
def without (i : Fin 16) : State := { unlocked with guard := { unlocked.guard with windows := vput table i Window.disabled } }

theorem test_meets_SetWindowReplacesEntry :
    (Taken (setWindow 15 0 64 64) unlocked 0x11 ∧ getField (setWindow 15 0 64 64) 4 1 = 15 ∧
      readWindow (setWindow 15 0 64 64) 8 = some (win 64 64 .plain false) ∧
      editRefusal unlocked 15 (win 64 64 .plain false) = none ∧
      (after (.setWindow 3) (record (setWindow 15 0 64 64) unlocked)).guard.windows[(15 : Fin 16)] = win 64 64 .plain false) ∧
    (editRefusal (without 3) 3 (win 70 71 .journalB false) = none ∧
      (after (.setWindow 3) (record (setWindow 3 4 70 71) (without 3))).guard.windows[(3 : Fin 16)] =
        win 70 71 .journalB true ∧
      (after (.setWindow 3) (record (setWindow 3 4 70 71) (without 3))).retained.recordB = some ⟨70, 71, 0⟩) ∧
    (editRefusal (without 5) 5 (win 72 72 .labelQueue false) = none ∧
      (after (.setWindow 3) (record (setWindow 5 6 72 72) (without 5))).guard.windows[(5 : Fin 16)].base = 72) ∧
    (editRefusal (without 1) 1 (win 73 73 .report false) = none ∧ 1 ≤ (without 1).reports.threshold ∧
      (after (.setWindow 3) (record (setWindow 1 2 73 73) (without 1))).guard.windows[(1 : Fin 16)].base = 73) := by
  decide +kernel

/-- Enabled entries edited: the REPORT window moves, the JOURNAL_B window becomes PLAIN, the LABEL_QUEUE window REPORT. -/
theorem test_set_window_edits_enabled_entries :
    let rings (s : State) : State := { s with
      reports := { s.reports with producer := 5, consumer := 2 }, label := { s.label with producer := 7 }
      retained := { s.retained with recordA := some ⟨32, 33, 0⟩, recordB := some ⟨34, 35, 0⟩ } }
    let edit (i role page : Nat) (s : State) := after (.setWindow 3) (record (setWindow i role page (page + 1)) (rings s))
    (editRefusal (rings unlocked) 1 (win 73 74 .report false) = none ∧ (edit 1 2 73 unlocked).reports.producer = 0 ∧
      (edit 1 2 73 unlocked).label.producer = 7) ∧
    (editRefusal (rings unlocked) 3 (win 34 35 .plain false) = none ∧ (edit 3 0 34 unlocked).retained.recordB = none ∧
      (edit 3 0 34 unlocked).retained.recordA = some ⟨32, 33, 0⟩ ∧ (edit 3 0 34 unlocked).reports.producer = 5) ∧
    (editRefusal (rings (without 1)) 5 (win 73 74 .report false) = none ∧ (edit 5 2 73 (without 1)).label.producer = 0 ∧
      (edit 5 2 73 (without 1)).reports.producer = 0) := by
  decide +kernel

theorem test_laws_hold : LawsHold table ∧ rolePlace table .report = some ⟨17, 17, 0⟩ := by
  unfold LawsHold
  decide +kernel

/-- Index 16, then each of the checks of R34 in order. -/
theorem test_meets_SetWindowRefusedByFirstCheck :
    let day := { unlocked with journal := { unlocked.journal with bankA := { unlocked.journal.bankA with state := .open } } }
    let reply (s : State) (d : Line) := lastReport (after (.setWindow 3) (record d s))
    Taken (setWindow 16 0 64 64) unlocked 0x11 ∧
    reply unlocked (setWindow 16 0 64 64) = some (.cmdRefused 0x11 7 .badArg) ∧
    readWindow (setWindow 2 8 64 64) 8 = none ∧
    reply unlocked (setWindow 2 8 64 64) = some (.cmdRefused 0x11 7 .badArg) ∧
    editRefusal day 2 (win 64 64 .plain false) = some .roleBusy ∧
    reply day (setWindow 2 0 64 64) = some (.cmdRefused 0x11 7 .roleBusy) ∧
    editRefusal unlocked 15 (win 1048576 1048576 .plain false) = some .badRange ∧
    reply unlocked (setWindow 15 3 64 64) = some (.cmdRefused 0x11 7 .badRange) ∧
    editRefusal unlocked 15 (win 42 43 .plain false) = some .overlap ∧
    editRefusal unlocked 15 (win 64 64 .report false) = some .roleTaken ∧
    (let w : Window := { win 64 64 .plain false with offset := -24 }; editRefusal unlocked 15 w) = some .alias_ := by
  decide +kernel

theorem test_meets_ClassTablesReplacedWhole :
    let d := args 0x12 (List.replicate 15 (1, 5) ++ [(1, 0)])
    let e := args 0x13 [(1, 0), (1, 1), (1, 2), (1, 0), (1, 1), (1, 2)]
    let f := args 0x40 [(1, 5), (1, 1)]
    (Taken d unlocked 0x12 ∧
      (after (.setClassMap 3) (record d unlocked)).guard.classMap = (Vector.replicate 16 InitClass.other).set 15 .cpu) ∧
    (6 ≤ getField (args 0x12 [(1, 6)]) 4 1 ∧
      lastReport (after (.setClassMap 3) (record (args 0x12 [(1, 6)]) unlocked)) = some (.cmdRefused 0x12 7 .badArg)) ∧
    (Taken e unlocked 0x13 ∧
      (after (.setClassDefaults 3) (record e unlocked)).guard.defaults = ⟨.none, .read, .readWrite, .none, .read, .readWrite⟩) ∧
    lastReport (after (.setClassDefaults 3) (record (args 0x13 [(1, 3)]) unlocked)) = some (.cmdRefused 0x13 7 .badArg) ∧
    (Taken f unlocked 0x40 ∧ (after (.setPriceView 3) (record f unlocked)).price.views.other = .raw) ∧
    lastReport (after (.setPriceView 3) (record (args 0x40 [(1, 6)]) unlocked)) = some (.cmdRefused 0x40 7 .badArg) := by
  decide +kernel

theorem test_meets_TimeSettingsClampedAndTaken :
    let d := args 0x20 [(2, 9), (2, 10), (1, 65), (1, 0)]
    let e := args 0x22 [(4, 86400), (4, 0xFFFFFFFF), (2, 3601), (1, 1)]
    let f := args 0x22 [(4, 0), (4, 0), (2, 0), (1, 2)]
    (Taken d base 0x20 ∧ (after (.setTimebase 3) (record d base)).time.staged = some ⟨10, 9, 64, 1⟩) ∧
    (Taken (args 0x21 [(4, 86400)]) base 0x21 ∧
      (after (.setClock 3) (record (args 0x21 [(4, 86400)]) base)).time.seconds = 86399) ∧
    (Taken e base 0x22 ∧ getField e 14 1 = CarryMode.drop.code ∧
      (after (.setSchedule 3) (record e base)).time.schedule = ⟨some 86399, none, 3600, .drop⟩) ∧
    (Taken f base 0x22 ∧ lastReport (after (.setSchedule 3) (record f base)) = some (.cmdRefused 0x22 7 .badArg)) := by
  decide +kernel

def withWatch (e : WatchEntry) : State :=
  { unlocked with price := { unlocked.price with table := [e], withdrawals := if e.exit = .withdraw then [e.item] else [] } }

theorem test_meets_PriceEntriesForcedAndWithdrawn :
    let d := args 0x41 [(4, 5)]
    let e := args 0x42 [(4, 5)]
    let leaving := withWatch { watched with exit := .withdraw }
    let written := withWatch { watched with exit := .afterWrite 163840 }
    let awaited := { withWatch watched with label := { unlocked.label with awaited := [5] } }
    (Taken d (withWatch watched) 0x41 ∧ entryOf (withWatch watched) 5 = some watched ∧ watched.exit = .none ∧
      (after (.forceEffective 3) (record d (withWatch watched))).reports.pending.map (fun r => r.body) =
        [.priceEffective 5 100 200 true, .cmdDone 0x41 7] ∧
      (after (.forceEffective 3) (record d awaited)).label.awaited = []) ∧
    ((∀ x ∈ unlocked.price.table, x.item ≠ 5) ∧
      lastReport (after (.forceEffective 3) (record d unlocked)) = some (.cmdRefused 0x41 7 .notFound)) ∧
    lastReport (after (.forceEffective 3) (record d leaving)) = some (.cmdRefused 0x41 7 .wrongState) ∧
    (Taken e (withWatch watched) 0x42 ∧ (after (.withdrawPrice 3) (record e (withWatch watched))).price.withdrawals = [5]) ∧
    lastReport (after (.withdrawPrice 3) (record e unlocked)) = some (.cmdRefused 0x42 7 .notFound) ∧
    (entryOf leaving 5 = some { watched with exit := .withdraw } ∧
      lastReport (after (.withdrawPrice 3) (record e leaving)) = some (.cmdRefused 0x42 7 .busy)) ∧
    (entryOf written 5 = some { watched with exit := .afterWrite 163840 } ∧
      lastReport (after (.withdrawPrice 3) (record e written)) = some (.cmdRefused 0x42 7 .wrongState)) ∧
    (5 : Nat) ∉ unlocked.label.awaited := by
  decide +kernel

theorem test_meets_RoundCommandsJudgedByRoundState :
    let d := args 0x50 [(2, 0x8001), (1, 1), (1, 1), (1, 0), (1, 16)]
    let withRound (r : RoundState) (z : Option (Fin 16)) : State := { base with label := { base.label with round := r, zone := z } }
    let timed : State := { base with label := { base.label with settings := { base.label.settings with trigger := .timebase } } }
    let bare : State := { base with guard := { base.guard with windows := vput table 5 Window.disabled } }
    let start (s : State) := lastReport (after (.startRound 3) (record (args 0x51 []) s))
    let stop (s : State) := (after (.stopRound 3) (record (args 0x52 []) s)).label.round
    (Taken d base 0x50 ∧ RoundMode.ofCode (getField d 6 1) = some .continuous ∧
      RoundTrigger.ofCode (getField d 7 1) = some .timebase ∧
      (after (.setRounds 3) (record d base)).label.settings = ⟨0x8001, .continuous, .timebase, 1, 15⟩) ∧
    lastReport (after (.setRounds 3) (record d (withRound .running none))) = some (.cmdRefused 0x50 7 .busy) ∧
    lastReport (after (.setRounds 3) (record (args 0x50 [(2, 0), (1, 2)]) base)) = some (.cmdRefused 0x50 7 .badArg) ∧
    (Taken (args 0x51 []) base 0x51 ∧ base.label.settings.trigger = .command ∧ base.label.round = .idle ∧
      base.guard.windows[(5 : Fin 16)].role = .labelQueue ∧ start base = some (.cmdDone 0x51 7) ∧
      (after (.startRound 3) (record (args 0x51 []) base)).label.number = 1) ∧
    start timed = some (.cmdRefused 0x51 7 .wrongState) ∧ start (withRound .running none) = some (.cmdRefused 0x51 7 .busy) ∧
    start bare = some (.cmdRefused 0x51 7 .notFound) ∧ Taken (args 0x52 []) base 0x52 ∧
    stop (withRound .running (some 3)) = .stopping ∧ stop (withRound .running none) = .idle ∧ stop base = .idle := by
  decide +kernel

/-- Zone 1 is the lowest with staged work; with none staged the round ends at once. -/
theorem test_meets_RoundVisitsLowestZoneWithWork :
    let s := withWatch watched
    let v := (startRound s).label
    (s.label.settings.mask.getLsbD 1 = true ∧ watched ∈ s.price.table ∧ watched.state = .staged ∧ watched.zone = 1 ∧
      watched.exit = .none ∧ v.zone = some 1 ∧ v.visit = [⟨5, false⟩] ∧ v.zones[(0 : Fin 16)] = .done ∧
      v.zones[(1 : Fin 16)] = .queueing ∧ v.zones[(2 : Fin 16)] = .standby ∧ v.visited = 1) ∧
    (base.price.table = [] ∧ lastReport (startRound base) = some (.roundDone 1 16 false) ∧
      (startRound base).label.round = .idle) := by
  decide +kernel

/-- The visit of zone 0 ends while the round is RUNNING: zone 1 follows; under CONTINUOUS a round without work rests. -/
theorem test_visit_ends_while_running :
    let visiting (s : State) : State := { s with label := { s.label with
      round := .running, zone := some 0, zones := vput s.label.zones 0 .waiting, number := 2
      settings := { s.label.settings with mode := .continuous } } }
    let next := (endVisit (visiting (withWatch watched))).label
    let rest := endVisit (visiting base)
    (next.zone = some 1 ∧ next.zones[(0 : Fin 16)] = .done ∧ next.zones[(1 : Fin 16)] = .queueing ∧ next.visited = 1) ∧
    (rest.label.zone = none ∧ rest.label.round = .running ∧ lastReport rest = some (.roundDone 2 16 false)) := by
  decide +kernel

theorem test_meets_GuestBudgetStagedAndLatchCleared :
    let d := args 0x60 [(1, 2), (1, 5), (2, 10), (2, 11), (2, 256)]
    let latched := { base with guest := { base.guest with latch := some .budget, usage := 12 } }
    (Taken d base 0x60 ∧ getField d 4 1 = GuestMode.latched.code ∧
      (after (.setGuestBudget 3) (record d base)).guest.staged = some ⟨.latched, 10, 10, 255, 5⟩) ∧
    lastReport (after (.setGuestBudget 3) (record (args 0x60 [(1, 3)]) base)) = some (.cmdRefused 0x60 7 .badArg) ∧
    (Taken (args 0x61 []) latched 0x61 ∧ latched.guest.latch ≠ none ∧
      (after (.clearGuestLatch 3) (record (args 0x61 []) latched)).reports.pending.map (fun r => r.body) =
        [.guestCleared 12, .cmdDone 0x61 7]) ∧
    (base.guest.latch = none ∧
      (after (.clearGuestLatch 3) (record (args 0x61 []) base)).reports.pending.map (fun r => r.body) = [.cmdDone 0x61 7]) := by
  decide +kernel

theorem test_meets_OpenDayOpensNamedBank :
    let d := args 0x70 [(1, 1), (1, 0), (2, 9)]
    let bare : State := { base with guard := { base.guard with windows := vput table 2 Window.disabled } }
    let day : State := { base with day := { base.day with phase := .dayOpen } }
    let s' := after (.openDay 3) (record d base)
    (Taken d base 0x70 ∧ getField d 4 1 = Bank.b.code ∧ base.day.phase = .noDay ∧ base.journal.bankA.state = .idle ∧
      base.journal.bankB.state = .idle ∧ hasJournalWindow base .a = true ∧ hasJournalWindow base .b = true ∧
      s'.journal.bankB.state = .open ∧ s'.journal.bankB.dayNumber = 9 ∧ s'.day.openBank = some .b ∧
      s'.guard.windows[(3 : Fin 16)].writeProtect = false ∧ s'.guard.windows[(2 : Fin 16)].writeProtect = true) ∧
    lastReport (after (.openDay 3) (record (args 0x70 [(1, 2)]) base)) = some (.cmdRefused 0x70 7 .badArg) ∧
    lastReport (after (.openDay 3) (record d day)) = some (.cmdRefused 0x70 7 .wrongState) ∧
    lastReport (after (.openDay 3) (record d bare)) = some (.cmdRefused 0x70 7 .notFound) := by
  decide +kernel

/-- DAY_OPEN with bank A open at a cursor and bank B in a state. -/
def dayOpen (cursor : Nat) (other : BankState) : State :=
  { base with
    guard := { base.guard with windows := vput table 2 (win 32 33 .journalA false) }
    day := { base.day with phase := .dayOpen, openBank := some .a }
    journal := { base.journal with
      bankA := { base.journal.bankA with state := .open, cursor := cursor, dayNumber := 6 }
      bankB := { base.journal.bankB with state := other } } }

/-- A transaction of till 0 is open. -/
def inTxn (s : State) : State :=
  { s with journal := { s.journal with
      contexts := s.journal.contexts.set 0 { s.journal.contexts[(0 : Fin 32)] with state := .inTxn, txnNo := 77 } } }

def inPhase (p : DayPhase) (s : State) : State := { s with day := { s.day with phase := p } }

def noWindowB (s : State) : State := { s with guard := { s.guard with windows := vput s.guard.windows 3 Window.disabled } }

theorem test_meets_CloseDayAndCloseNow :
    let d := args 0x71 [(2, 3601), (1, 1)]
    let reply (s : State) := lastReport (after (.closeDay 3) (record d s))
    let s' := after (.closeDay 3) (record d (inTxn (dayOpen 1 .idle)))
    (Taken d (dayOpen 1 .idle) 0x71 ∧ getField d 6 1 = CarryMode.drop.code ∧ (dayOpen 1 .idle).day.openBank = some .a ∧
      hasJournalWindow (dayOpen 1 .idle) .b = true ∧ s'.day.phase = .closing ∧ s'.day.grace = 3600 ∧
      s'.reports.pending.map (fun r => r.body) = [.dayClosing .a 6 3600 .drop false, .cmdDone 0x71 7] ∧
      (after (.closeDay 3) (record d (dayOpen 1 .idle))).day.phase = .switching) ∧
    lastReport (after (.closeDay 3) (record (args 0x71 [(2, 0), (1, 2)]) base)) = some (.cmdRefused 0x71 7 .badArg) ∧
    reply base = some (.cmdRefused 0x71 7 .wrongState) ∧
    reply (inPhase .closing base) = some (.cmdRefused 0x71 7 .busy) ∧
    reply (inPhase .switching base) = some (.cmdRefused 0x71 7 .busy) ∧
    reply (dayOpen 0 .idle) = some (.cmdRefused 0x71 7 .wrongState) ∧
    reply (dayOpen 1 .closed) = some (.cmdRefused 0x71 7 .otherBankBusy) ∧
    reply (noWindowB (dayOpen 1 .idle)) = some (.cmdRefused 0x71 7 .notFound) ∧
    (Taken (args 0x72 []) base 0x72 ∧
      (after (.closeNow 3) (record (args 0x72 []) (inPhase .closing (inTxn base)))).day.phase = .switching ∧
      lastReport (after (.closeNow 3) (record (args 0x72 []) base)) = some (.cmdRefused 0x72 7 .wrongState)) := by
  decide +kernel

def bankB (st : BankState) : State :=
  { base with journal := { base.journal with bankB := { base.journal.bankB with state := st, seed := 4, savedWan := .none } } }

theorem test_meets_ExportCommandsLendAndRestoreRights :
    let d (code : Nat) := args code [(1, 1)]
    let wan (s : State) := s.guard.windows[(3 : Fin 16)].rights.wan
    (Taken (d 0x73) (bankB .closed) 0x73 ∧ getField (d 0x73) 4 1 = Bank.b.code ∧
      (after (.exportBegin 3) (record (d 0x73) (bankB .closed))).journal.bankB.state = .exporting ∧
      (after (.exportBegin 3) (record (d 0x73) (bankB .closed))).journal.bankB.savedWan = .readWrite ∧
      (after (.exportBegin 3) (record (d 0x73) (bankB .closed))).journal.bankB.exportChain = 4 ∧
      wan (after (.exportBegin 3) (record (d 0x73) (bankB .closed))) = .read) ∧
    (Taken (d 0x74) (bankB .verified) 0x74 ∧
      (after (.exportComplete 3) (record (d 0x74) (bankB .verified))).journal.bankB.state = .idle ∧
      wan (after (.exportComplete 3) (record (d 0x74) (bankB .verified))) = .none) ∧
    (Taken (d 0x75) (bankB .exporting) 0x75 ∧
      (after (.exportAbort 3) (record (d 0x75) (bankB .exporting))).journal.bankB.state = .closed ∧
      (after (.exportAbort 3) (record (d 0x75) (bankB .verified))).journal.bankB.state = .closed) ∧
    lastReport (after (.exportBegin 3) (record (d 0x73) base)) = some (.cmdRefused 0x73 7 .wrongState) ∧
    lastReport (after (.exportBegin 3) (record (d 0x73) (noWindowB (bankB .closed)))) = some (.cmdRefused 0x73 7 .notFound) ∧
    lastReport (after (.exportComplete 3) (record (d 0x74) (bankB .exporting))) = some (.cmdRefused 0x74 7 .notVerified) ∧
    lastReport (after (.exportComplete 3) (record (d 0x74) (bankB .closed))) = some (.cmdRefused 0x74 7 .wrongState) ∧
    lastReport (after (.exportAbort 3) (record (d 0x75) (bankB .open))) = some (.cmdRefused 0x75 7 .wrongState) ∧
    lastReport (after (.exportBegin 3) (record (args 0x73 [(1, 2)]) base)) = some (.cmdRefused 0x73 7 .badArg) ∧
    lastReport (after (.exportComplete 3) (record (args 0x74 [(1, 2)]) base)) = some (.cmdRefused 0x74 7 .badArg) ∧
    lastReport (after (.exportAbort 3) (record (args 0x75 [(1, 2)]) base)) = some (.cmdRefused 0x75 7 .badArg) := by
  decide +kernel

def loading (s : State) : State := { s with loader := { s.loader with load := .readingEeprom ⟨true, 0x80, 7⟩ } }

/-- The status and refusal of the pending bootstrap result, and the load. -/
def boots (s : State) : Option (BootStatus × Option RefusalCode) × Load :=
  (s.loader.result.map (fun r => (r.status, r.refusal)), s.loader.load)

theorem test_meets_LoadCommandsBeginLoads :
    let d := args 0x80 []
    let e (addr : Nat) := args 0x81 [(4, addr)]
    (Taken d unlocked 0x80 ∧ unlocked.loader.load = .idle ∧ unlocked.day.phase = .noDay ∧ unlocked.label.round = .idle ∧
      (after (.reloadConfig 3) (record d unlocked)).loader.load = .readingEeprom ⟨false, 0x80, 7⟩) ∧
    lastReport (after (.reloadConfig 3) (record d (loading unlocked))) = some (.cmdRefused 0x80 7 .busy) ∧
    lastReport (after (.reloadConfig 3) (record d (withLock .open (bankB .closed)))) = some (.cmdRefused 0x80 7 .wrongState) ∧
    (Taken (e 0) base 0x81 ∧ lastReport (after (.loadConfig 3) (record (e 0) base)) = some (.cmdRefused 0x81 7 .wrongState)) := by
  decide +kernel

theorem test_bootstrap_loads :
    let d := args 0x80 []
    let e (addr : Nat) := args 0x81 [(4, addr)]
    boots (after (.reloadConfig 3) (boot d (loading State.reset))) =
      (some (.refused, some .busy), .readingEeprom ⟨true, 0x80, 7⟩) ∧
    boots (after (.reloadConfig 3) (boot d State.reset)) = (some (.accepted, none), .readingEeprom ⟨true, 0x80, 7⟩) ∧
    boots (after (.loadConfig 3) (boot (e 0) (loading State.reset))) =
      (some (.refused, some .busy), .readingEeprom ⟨true, 0x80, 7⟩) ∧
    boots (after (.loadConfig 3) (boot (e 0x10000000) State.reset)) = (some (.refused, some .badArg), .idle) ∧
    boots (after (.loadConfig 3) (boot (e 0x0FFFFFFF) State.reset)) =
      (some (.accepted, none), .readingMemory ⟨true, 0x81, 7⟩ 0x0FFFFFC0 [] none) := by
  decide +kernel

theorem test_loads_at_turn :
    AtTurn (boot (args 0x80 []) State.reset) 3 0 (lineFor State.reset .cpu .write 61440 (args 0x80 [])) .bootstrap ∧
      AtTurn (boot (args 0x81 []) (loading State.reset)) 3 0
        (lineFor (loading State.reset) .cpu .write 61440 (args 0x81 [])) .bootstrap := by
  exact ⟨boot_at_turn (s := State.reset) (by decide +kernel) (by decide +kernel),
    boot_at_turn (s := loading State.reset) (by decide +kernel) (by decide +kernel)⟩

/-! ### Time Base and the blocks it drives -/

/-- Zone 1 WAITING with a timeout count, an epoch ending, and staged settings. -/
def boundary (timeout : Nat) : State :=
  { withWatch watched with
    time := { base.time with counter := 999, epochCount := 9, roundCount := 3, staged := some ⟨20, 0, 2, 4⟩ }
    label := { base.label with
      round := .running, zone := some 1, zones := vput base.label.zones 1 .waiting, timeout := timeout } }

theorem test_meets_PeriodBoundaryActsInOrder :
    let resting : State := { withWatch watched with label := { base.label with round := .running } }
    let held : State := { boundary 4 with mem := { base.mem with hold := true } }
    let s' := after .periodBoundary (boundary 4)
    ((boundary 4).guest.queue = [] ∧ (boundary 4).mem.hold = false ∧ (boundary 4).label.zones[(1 : Fin 16)] = .waiting ∧
      s'.time.epochDue = 1 ∧ s'.time.inForce = ⟨20, 0, 2, 4⟩ ∧ s'.time.compareDue = 1 ∧ s'.time.roundCount = 0 ∧
      s'.label.timeout = 3) ∧
    (held.mem.hold = true ∧ (after .periodBoundary held).label.timeout = 4) ∧
    (resting.label.zone = none ∧ watched ∈ resting.price.table ∧ resting.label.settings.mask.getLsbD 1 = true ∧
      (after .periodBoundary resting).label.zone = some 1) ∧
    (after .periodBoundary base).time.epochCount = 1 := by
  decide +kernel

/-- A GUEST read of one line stands alone in the deferral queue with a condition. -/
def deferred (c : DeferCond) (usage : Nat) : State :=
  let r := queued 2 .read 65536 0
  withRequest { r with
      cls := .guest, progress := .active, lines := r.lines.map (fun l => { l with stage := .awaitsGuest }) }
    { base with
      guard := { base.guard with classMap := base.guard.classMap.set 2 .guest }
      guest := { base.guest with
        inForce := { mode := .cycle, hard := 2, soft := 1, pace := 50, fault := 0 }
        usage := usage, queue := [⟨3, 2, 1, c⟩], timer := 3 } }

theorem test_meets_DeferredGuestRequestsReleased :
    (TxnsDistinct (deferred .period 2) ∧ (deferred .period 2).guest.queue = [⟨3, 2, 1, .period⟩] ∧
      judgeLine (deferred .period 2).guard .m256 .guest .read 65536 = .pass 65536 (some 0) .control 0 ∧
      (deferred .period 2).guest.latch = none ∧ (deferred .period 2).guest.staged = none ∧
      (after .periodBoundary (deferred .period 2)).guest.usage = 1 ∧
      (after .periodBoundary (deferred .period 2)).guest.queue = [] ∧
      (after .periodBoundary (deferred .period 2)).mem.port = .passed (passed .read 65536 0)) ∧
    ((deferred .pace 1).guest.usage + 1 ≤ (deferred .pace 1).guest.inForce.hard ∧
      (after .pacingExpiry (deferred .pace 1)).guest.usage = 2 ∧ (after .pacingExpiry (deferred .pace 1)).guest.timer = 0) ∧
    ((after .pacingExpiry (deferred .period 2)).guest.queue = [⟨3, 2, 1, .period⟩] ∧
      (after .pacingExpiry (deferred .period 2)).guest.timer = 50) := by
  simp only [TxnsDistinct]
  decide +kernel

/-- The head judged again: above the hard budget under CYCLE and LATCHED, at the pace and at the boundary; without a right. -/
theorem test_deferred_request_judged_again :
    let mode (m : GuestMode) (h f : Nat) (s : State) : State := { s with guest := { s.guest with
      inForce := { s.guest.inForce with mode := m, hard := h, fault := f } } }
    let r : Request := { queued 2 .read 65536 0 with
      cls := .guest, progress := .active, lines := [{ lineFor base .cpu .read 65536 0 with verdict := none, stage := .awaitsGuest }] }
    let bare (s : State) : State := { s with guard := { s.guard with windows := vput s.guard.windows 0 Window.disabled } }
    let s := deferred .pace 1
    (findRequest s 3 = some r ∧ AllWait r ∧ (judgedAgain s r).lines.map (fun l => l.verdict) =
      [some (.pass 65536 (some 0) .control 0)] ∧ s.guest.inForce.mode = .cycle ∧ s.label.round = .idle ∧ s.label.zone = none) ∧
    (1 < (deferred .pace 2).guest.usage + 1 ∧ (after .pacingExpiry (deferred .pace 2)).guest.queue = [⟨3, 2, 1, .period⟩] ∧
      (after .periodBoundary (mode .cycle 0 0 s)).guest.queue = [⟨3, 2, 1, .period⟩]) ∧
    ((after .pacingExpiry (mode .latched 1 0 s)).guest.latch = some .budget ∧
      (after .pacingExpiry (mode .latched 1 0 s)).link.completions = [⟨3, .taken [.filled] [uniformLine 0xFF]⟩] ∧
      (after .periodBoundary (mode .latched 0 0 s)).guest.latch = some .budget) ∧
    (judgeLine (bare s).guard .m256 .guest .read 65536 = .refuse .noRight none ∧
      (after .pacingExpiry (bare s)).guest.violations = 1 ∧ (after .pacingExpiry (bare s)).guest.queue = [] ∧
      (after .pacingExpiry (bare (mode .cycle 2 1 s))).guest.latch = some .guardFault ∧
      (after .periodBoundary (bare (mode .cycle 2 2 s))).guest.violations = 1 ∧
      (after .periodBoundary (bare (mode .cycle 2 2 s))).guard.log.map (fun e => e.cause) = [.noRight]) := by
  simp only [AllWait]
  decide +kernel

theorem test_meets_CompareEventsAndRoundTriggers :
    let s : State := { base with time := { base.time with compareDue := 1, inForce := ⟨1000, 0, 10, 2⟩, roundCount := 1 } }
    let label : LabelState := { base.label with settings := { base.label.settings with trigger := .timebase } }
    let ready : State := { withWatch watched with time := { base.time with triggerDue := 1 }, label := label }
    (0 < s.time.compareDue ∧ (after .compareEvent s).time.roundCount = 0 ∧ (after .compareEvent s).time.triggerDue = 1) ∧
    (0 < ready.time.triggerDue ∧ (after .roundTrigger ready).label.zone = some 1) ∧
    ((after .roundTrigger { ready with mem := { base.mem with hold := true } }).label.zone = none ∧
      (after .roundTrigger { ready with mem := { base.mem with hold := true } }).time.triggerDue = 0) := by
  decide +kernel

theorem test_meets_EpochBoundaryRetiresMarkedEntries :
    let old : WatchEntry := { watched with state := .shown, epochSeen := true }
    let new : WatchEntry := { watched with item := 6, state := .shown }
    let s : State := { base with price := { base.price with table := [old, new] }, time := { base.time with epochDue := 1 } }
    0 < s.time.epochDue ∧ (s.price.table.map (fun e => e.item)).Nodup ∧ old.item ∉ s.label.awaited ∧
      old.item ∉ s.price.withdrawals ∧ (after .epochBoundary s).price.table = [{ new with epochSeen := true }] ∧
      lastReport (after .epochBoundary s) = some (.priceEffective 5 100 200 false) := by
  decide +kernel

/-- A close of bank A in progress with a grace. -/
def closing (grace : Nat) : State :=
  let s := dayOpen 1 .idle
  { s with
    day := { s.day with phase := .closing, closingBank := some .a, grace := grace }
    journal := { s.journal with bankA := { s.journal.bankA with state := .closing } } }

theorem test_meets_SecondEventAdvancesClockAndGrace :
    let last : State := { base with time := { base.time with seconds := 86399, clock := .set } }
    let count (n : Nat) : State := { base with day := { base.day with deferred := some n } }
    let held : State := { inTxn (closing 2) with mem := { base.mem with hold := true } }
    (last.time.schedule.closeAt ≠ some 0 ∧ last.time.schedule.exportEnd ≠ some 0 ∧ last.day.phase ≠ .closing ∧
      (after .secondEvent last).time.seconds = 0) ∧
    (after .secondEvent (count 58)).day.deferred = some 59 ∧
    ((after .secondEvent (count 59)).day.deferred = some 0 ∧ (after .secondEvent (count 59)).day.retryDue = true) ∧
    ((closing 2).time.clock = .unset ∧ (inTxn (closing 2)).journal.contexts[(0 : Fin 32)].state = .inTxn ∧
      (after .secondEvent (inTxn (closing 2))).day.grace = 1 ∧ (after .secondEvent (inTxn (closing 1))).day.phase = .closing ∧
      (after .secondEvent held).day.grace = 2) ∧
    ((closing 2).journal.contexts[(31 : Fin 32)].state = .idle ∧ (after .secondEvent (closing 2)).day.phase = .switching) := by
  decide +kernel

def scheduled (closeAt exportEnd : Option Nat) (s : State) : State :=
  { s with time := { s.time with clock := .set, seconds := 9, schedule := ⟨closeAt, exportEnd, 30, .drop⟩ } }

theorem test_meets_MatchesMakeTimedCloseAndExportLate :
    let close (s : State) := after .secondEvent (scheduled (some 10) none s)
    let late := after .secondEvent (scheduled none (some 10) (bankB .exporting))
    ((scheduled (some 10) none (inTxn (dayOpen 1 .idle))).day.openBank = some .a ∧
      hasJournalWindow (dayOpen 1 .idle) .b = true ∧ (close (inTxn (dayOpen 1 .idle))).day.grace = 30 ∧
      lastReport (close (inTxn (dayOpen 1 .idle))) = some (.dayClosing .a 6 30 .drop true)) ∧
    lastReport (close (dayOpen 0 .idle)) = some (.closeDeferred .a .open) ∧
    (lastReport (close (dayOpen 1 .closed)) = some (.closeDeferred .b .closed) ∧
      (close (dayOpen 1 .closed)).day.deferred = some 0) ∧
    lastReport (close (noWindowB (dayOpen 1 .idle))) = some (.closeDeferred .b .idle) ∧
    ((bankB .exporting).journal.bankA.state ≠ .exporting ∧ late.journal.bankB.state = .closed ∧
      lastReport late = some (.exportLate .b 0)) := by
  decide +kernel

theorem test_meets_GraceExpiryAndDeferredRetry :
    let due (s : State) : State := { s with day := { s.day with retryDue := true, deferred := some 0 } }
    ((inTxn (closing 0)).day.phase = .closing ∧ (after .graceExpiry (inTxn (closing 0))).day.phase = .switching) ∧
    ((due (inTxn (dayOpen 1 .idle))).day.retryDue = true ∧
      (after .deferredCloseRetry (due (inTxn (dayOpen 1 .idle)))).day.phase = .closing ∧
      (after .deferredCloseRetry (due (inTxn (dayOpen 1 .idle)))).day.deferred = none) ∧
    ((after .deferredCloseRetry (due (dayOpen 0 .idle))).day.deferred = some 0 ∧
      (after .deferredCloseRetry (due (dayOpen 1 .closed))).day.retryDue = false) := by
  decide +kernel

/-! ### Line arithmetic and journal entries -/

/-- 1.995 kg at 2.49 with 10 per cent off: 4.96755 rounds to 497 cents, its discount of 49.7 to 50 cents. -/
theorem test_meets_LineAmountRoundsGrossAndDiscount :
    (0 < 1000) ∧ ((249 : Nat) ≤ 9999999 ∧ Int.natAbs 1995 ≤ 1000000 ∧ 1000 ≤ 10000) ∧
    lineAmount false 249 1995 1000 = ⟨true, 447, 0⟩ ∧ lineAmount true 249 (-1995) 1000 = ⟨true, 447, 0x8000⟩ ∧
    lineAmount false 9999999 1000000 0 = ⟨true, 9999999000, 0⟩ ∧ lineAmount false 9999999 (-1000000) 10000 = ⟨true, 0, 0x8000⟩ ∧
    lineAmount true 1 1 10001 = ⟨true, 0, 0x100⟩ ∧ lineAmount false 10000000 1 0 = ⟨false, 0, 0x80⟩ ∧
    lineAmount false 1 (-1000001) 10001 = ⟨false, 0, 0x80⟩ := by
  decide +kernel

/-- An entry of till 0 (section 12.2): kind, sequence, transaction, item, price, quantity, discount, reference, amount. -/
def entry (kind seq txn item price : Nat) (quantity : Int) (discount ref : Nat) (amount : Int) : Line :=
  packLine [(1, kind), (1, 0), (2, seq), (4, txn), (4, item), (4, price), (4, twos 4 quantity), (2, discount), (2, ref),
    (8, twos 8 amount), (4, 0xFFFFFFFF), (4, 0xFFFFFFFF)]

def ctx (seq : Nat) (state : TillState) : TillContext := { seqValid := true, lastSeq := seq, state := state }

/-- How till 0 handles an entry with a watch table. -/
def handled (watch : List WatchEntry) (d : Line) (c : TillContext) : Handling := handleEntry watch (readEntry d) 0 c {}

theorem test_meets_EntryHandledBySequenceAndKind :
    let sale := entry 2 5 0 5 200 2000 0 0 0
    let h := handled [watched] sale (ctx 4 .inTxn)
    (watched.oldPrice ≠ watched.newPrice ∧ (readEntry sale).seq = 5 ∧ (ctx 4 .inTxn).lastSeq = 4 ∧
      (readEntry sale).kind = .sale ∧ seqStep (readEntry sale) (ctx 4 .inTxn) = 1) ∧
    (h.amount = some 200 ∧ h.flags = flagPriceHeld ∧ h.price = some 100 ∧ h.context.total = ⟨200, false⟩ ∧
      h.context.sales.value = 200 ∧ h.context.list = [⟨5, 5, false, 200⟩] ∧ h.totals.store.entries = 1 ∧
      h.totals.store.flagged = 1) ∧
    ((handled [] sale (ctx 5 .inTxn)).flags = flagDuplicate ∧ (handled [] sale (ctx 6 .inTxn)).flags = flagLate ∧
      (handled [] sale (ctx 32773 .inTxn)).flags = flagLate ∧ (handled [] sale (ctx 32774 .inTxn)).flags = flagSeqGap ∧
      (handled [] sale { (ctx 9 .inTxn) with seqValid := false }).flags = 0) ∧
    (handled [] sale (ctx 4 .idle)).flags = flagNoTxn ∧
    (handled [] (entry 3 5 0 5 200 2000 0 0 0) (ctx 4 .inTxn)).amount = some (-400) ∧
    (handled [] (entry 1 5 77 0 0 0 0 0 0) (ctx 4 .idle)).context = { (ctx 5 .inTxn) with txnNo := 77 } ∧
    ((handled [] (entry 1 5 77 0 0 0 0 0 0) (ctx 4 .inTxn)).flags = flagAbandoned ∧
      (handled [] (entry 1 5 77 0 0 0 0 0 0) (ctx 4 .inTxn)).totals.tills[(0 : Fin 32)].abandoned = 1) := by
  decide +kernel

theorem test_void_tender_and_close :
    let open_ : TillContext := { (ctx 4 .inTxn) with total := ⟨300, false⟩, list := [⟨3, 5, false, 300⟩] }
    let void := handled [] (entry 4 5 0 0 0 0 0 3 0) open_
    let tender (n : Int) := handled [] (entry 5 5 0 0 0 0 0 0 n) open_
    let close := handled [] (entry 7 5 0 0 0 0 0 0 0) open_
    (void.amount = some (-300) ∧ void.context.list = [] ∧ void.context.voids.value = -300 ∧ void.context.total.value = 0) ∧
    (handled [] (entry 4 5 0 0 0 0 0 9 0) open_).flags = flagVoidUnmatched ∧
    ((tender 9999999999).amount = none ∧ (tender 9999999999).context.tender.value = 9999999999) ∧
    (tender 10000000000).flags = flagRange ∧ (tender (-1)).flags = flagRange ∧
    (close.amount = some 300 ∧ close.flags = flagShortTender ∧ close.context = ctx 5 .idle ∧
      close.totals.store.net.value = 300 ∧ close.totals.tills[(0 : Fin 32)].lines = 1) ∧
    ((handled [] (entry 7 5 0 0 0 0 0 0 0) (ctx 4 .idle)).flags = flagNoTxn ∧
      (handled [] (entry 11 5 0 0 0 0 0 0 0) (ctx 4 .idle)).flags = flagUnknownKind) := by
  decide +kernel

/-- Line `k` of the JOURNAL_A window (page 32), written by the CPU, at its turn. -/
def journalLine (k : Nat) (d : Line) (s : State) : State := writing .cpu (131072 + 64 * k) d s

theorem journal_at_turn {s : State} {k : Nat} {d : Line}
    (h : judgeLine s.guard s.mem.size .cpu .write (131072 + 64 * k) = .pass (131072 + 64 * k) (some 2) .journalA k) :
    AtTurn (journalLine k d s) 3 0 (lineFor s .cpu .write (131072 + 64 * k) d) (.journal .a) := by
  apply atTurn_of
  simp [turnLine, findRequest, journalLine, writing, withRequest, oneLine, lineFor, nextTurn, handlerOf, h]

/-- The passed line in progress at the port. -/
def atPort (s : State) : Option PassedLine :=
  match s.mem.port with
  | .passed p => some p
  | _ => none

/-- The access that waits in a slot with count 0. -/
def issued : Slot → Option Access
  | .waiting a 0 => some a
  | _ => none

/-- TXN_OPEN at the last cursor that takes one, 94 of 128 lines. -/
theorem test_meets_JournalEntryTakenAtCursor :
    let d := entry 1 5 77 0 0 0 0 0 0
    let s' := after (.journalEntry 3) (journalLine 94 d (dayOpen 94 .idle))
    (AtTurn (journalLine 94 d (dayOpen 94 .idle)) 3 0 (lineFor (dayOpen 94 .idle) .cpu .write (131072 + 64 * 94) d)
        (.journal .a) ∧
      Admits (dayOpen 94 .idle) .a ∧ TxnsDistinct (journalLine 94 d (dayOpen 94 .idle))) ∧
    ((readEntry d).till = (0 : Fin 32).val ∧ (readEntry d).kind ≠ .part ∧ (94 : Nat) + 34 ≤ linesOf (dayOpen 94 .idle) .a) ∧
    (s'.journal.bankA.cursor = 95 ∧ s'.journal.bankA.lastIndex = some 94 ∧ s'.journal.bankA.inFlight = 1 ∧
      s'.journal.contexts[(0 : Fin 32)].txnNo = 77 ∧ s'.retained = (dayOpen 94 .idle).retained ∧
      (atPort s').map (fun p => (p.addr, getField p.data 24 8, getWord p.data 32, getWord p.data 36)) =
        some (131072 + 64 * 94, 0, 0, 94) ∧
      (atPort s').map (fun p => decide (getWord p.data 56 = chainOf 0 p.data)) = some true) := by
  refine ⟨⟨journal_at_turn ?_, ⟨?_, ?_, ?_, ?_⟩, ?_⟩, ?_, ?_⟩
  · decide +kernel
  · decide +kernel
  · intro o h; simp [dayOpen, base, State.reset] at h
  · intro o x h; simp [dayOpen, base, State.reset] at h
  · decide +kernel
  · unfold TxnsDistinct; decide +kernel
  · decide +kernel
  · decide +kernel

/-- The cause of the refusal of an entry, and whether the bank changed. -/
def refusal (s : State) : List Cause × Bool :=
  let s' := after (.journalEntry 3) s
  (s'.guard.log.map (fun e => e.cause), decide (s'.journal = s.journal))

theorem test_meets_JournalEntryRefusedByFirstCheck :
    let sale := entry 2 5 0 5 200 2000 0 0 0
    let open_ := entry 1 5 77 0 0 0 0 0 0
    let full := after (.journalEntry 3) (journalLine 95 sale (dayOpen 95 .idle))
    let marked (s : State) : State :=
      { s with journal := { s.journal with bankA := { s.journal.bankA with fullMarker := true } } }
    refusal (journalLine 1 sale (inPhase .switching (dayOpen 1 .idle))) = ([.switching], true) ∧
    refusal (journalLine 0 sale (dayOpen 0 .idle)) = ([.switching], true) ∧
    refusal (journalLine 2 sale (dayOpen 1 .idle)) = ([.appendOrder], true) ∧
    refusal (journalLine 1 (entry 6 5 0 5 200 2000 0 0 0) (dayOpen 1 .idle)) = ([.format], true) ∧
    refusal (journalLine 1 (putField sale 1 1 32) (dayOpen 1 .idle)) = ([.format], true) ∧
    refusal (journalLine 95 sale (marked (dayOpen 95 .idle))) = ([.bankFull], true) ∧
    (full.journal.bankA.fullMarker = true ∧ full.guard.log.map (fun e => e.cause) = [.bankFull] ∧
      full.reports.pending.map (fun r => r.body.kind) = [0x0E, 0x03]) ∧
    refusal (journalLine 1 open_ (closing 9)) = ([.closing], true) ∧
    (after (.journalEntry 3) (journalLine 2 sale (dayOpen 1 .idle))).link.completions = [⟨3, .taken [.discarded] []⟩] := by
  decide +kernel

/-- An accepted entry of bank A whose write is at the port. -/
def committing (owner : Option LineRef) (flags : Word32) : State :=
  let r := oneLine base .cpu .write 131136 5
  let c : EntryCommit :=
    { bank := .a, cursor := 2, lastIndex := some 1, running := 8, totals := {}, till := 4, context := ctx 6 .inTxn
      index := 1, seq := 6, kind := 2, flags := flags }
  { withRequest { r with progress := .active, lines := r.lines.map (fun l => { l with stage := .handed }) } base with
    mem := { base.mem with port := .passed { passed .write 131136 5 with owner := owner, commit := some c } }
    journal := { base.journal with bankA := { base.journal.bankA with inFlight := 1, cursor := 3 } } }

theorem test_meets_EntryCommitsWhenItsWriteCompletes :
    let s' := after .passedWriteComplete (committing (some ⟨3, 0⟩) 0x8001)
    let dropped := after .passedWriteComplete (committing none 0x8000)
    ((∃ q, findRequest (committing (some ⟨3, 0⟩) 0x8001) 3 = some q ∧ q.kind = .write ∧ q.lines.length = 1) ∧
      s'.retained.bankA.cursor = 2 ∧ s'.retained.contexts[(4 : Fin 32)] = ctx 6 .inTxn ∧ s'.journal.bankA.inFlight = 0 ∧
      s'.journal.bankA.cursor = 3 ∧ lastReport s' = some (.entryFlagged .a 1 4 6 2 0x8001) ∧
      s'.link.completions = [⟨3, .taken [.good] []⟩]) ∧
    (dropped.retained.bankA.running = 8 ∧ lastReport dropped = none ∧ dropped.link.completions = []) := by
  refine ⟨⟨⟨_, rfl, ?_⟩, ?_⟩, ?_⟩ <;> decide +kernel

/-- A passed write of transaction 3 at the port, and the outcomes that its request's lines have reached. -/
def writtenLine (p : PassedLine) (outcomes : List LineOutcome) (s : State) : State :=
  let r := oneLine s .cpu .write p.addr p.data
  { withRequest { r with
      progress := .active
      lines := r.lines.flatMap (fun l => outcomes.map (fun o => { l with stage := .handed, outcome := o })) } s with
    mem := { s.mem with port := .passed p } }

/-- R3, R12, R16: the last line completes the request, an earlier one does not, and an orphan is recorded nowhere. -/
theorem test_meets_EntryCommitsWhenItsWriteCompletes_plain :
    let p := passed .write 64 5
    let one := writtenLine p [.pending] base
    let last := after .passedWriteComplete (writtenLine p [.pending, .discarded] base)
    let first := after .passedWriteComplete (writtenLine p [.pending, .pending] base)
    let orphan := writtenLine { p with owner := none } [.pending] base
    (findRequest one 3).map (fun r => r.kind) = some .write ∧
    (after .passedWriteComplete one).link.completions = [⟨3, .taken [.good] []⟩] ∧
    (after .passedWriteComplete one).link.requests = [] ∧ last.link.completions = [⟨3, .taken [.good, .discarded] []⟩] ∧
    (first.link.completions = [] ∧
      first.link.requests.flatMap (fun r => r.lines.map (fun l => l.outcome)) = [.good, .pending]) ∧
    (after .passedWriteComplete orphan).link = orphan.link ∧
    Memory.read (after .passedWriteComplete orphan).mem.dram 64 = 5 := by
  decide +kernel

/-- A RELEASED line of the price table is at the port, and item 5 is SENDING and awaited, with an exit marker. -/
def letGoLine (exit : ExitMarker) : State :=
  let s := withWatch { watched with state := .sending, exit := exit }
  writtenLine { passed .write 163840 5 with released := true } [.pending] { s with
    price := { s.price with queue := [⟨some ⟨3, 0⟩, 163840, 5, .released⟩, ⟨none, 163904, 6, .waiting⟩] }
    label := { s.label with awaited := [5, 7] } }

/-- R120, R144: with the AFTER_WRITE marker the entry leaves the table and the awaited set; without it, it stays. -/
theorem test_meets_EntryCommitsWhenItsWriteCompletes_released :
    let stays := after .passedWriteComplete (letGoLine (.afterWrite 163904))
    let leaves := after .passedWriteComplete (letGoLine (.afterWrite 163840))
    (stays.price.queue = [⟨none, 163904, 6, .waiting⟩] ∧ stays.price.table.length = 1 ∧
      stays.link.completions = [⟨3, .taken [.good] []⟩]) ∧
    (leaves.price.queue = [⟨none, 163904, 6, .waiting⟩] ∧ leaves.price.table = [] ∧ leaves.label.awaited = [7] ∧
      lastReport leaves = some (.priceWithdrawn 5 100 false)) := by
  decide +kernel

/-- The switch of bank A at a progress, with till 0 IN_TXN. -/
def switching (progress : Nat) (mode : CarryMode) : State :=
  let s := inTxn (closing 0)
  { s with
    day := { s.day with phase := .switching, progress := progress, carry := mode }
    journal := { s.journal with bankB := { s.journal.bankB with state := if progress < 2 then .idle else .open } } }

theorem test_meets_PartWritesOrderedAndIssued :
    let order (p : Nat) (m : CarryMode) := (after .switchOrder (switching p m)).journal.partWrite
    let forming : State := { dayOpen 0 .idle with journal := { (dayOpen 0 .idle).journal with
      partWrite := .draining ⟨.a, .dayOpen, 0⟩ } }
    let draining : State := { forming with journal := { forming.journal with
      bankA := { forming.journal.bankA with inFlight := 1 } } }
    ((dayOpen 0 .idle).day.openBank = some .a ∧ hasJournalWindow (dayOpen 0 .idle) .a = true ∧
      (after .dayOpenOrder (dayOpen 0 .idle)).journal.partWrite = .draining ⟨.a, .dayOpen, 0⟩ ∧
      (after .dayOpenOrder (dayOpen 0 .idle)).day.ordered = true) ∧
    (openTills (switching 0 .carry) = [0] ∧ order 0 .carry = .draining ⟨.a, .txnSuspend, 0⟩ ∧
      order 1 .carry = .draining ⟨.a, .dayClose, 0⟩ ∧ order 2 .carry = .draining ⟨.b, .dayOpen, 0⟩ ∧
      order 3 .carry = .draining ⟨.b, .txnResume, 0⟩ ∧ order 3 .drop = .idle ∧
      (after .switchOrder (noWindowB (switching 2 .carry))).journal.partWrite = .idle) ∧
    (roleWindow forming.guard.windows .journalA = some (win 32 33 .journalA false) ∧
      (issued (after .partWriteIssue forming).mem.slots.journalEngine).map (fun a =>
        (a.addr, getField a.data 0 1, getField a.data 42 2, getWord a.data 32)) = some (131072, 6, 6, 0x10000)) ∧
    (0 < draining.journal.bankA.inFlight ∧ (after .partWriteIssue draining).journal.partWrite = .draining ⟨.a, .dayOpen, 0⟩) := by
  decide +kernel

theorem test_switch_positions :
    AtPosition (switching 0 .carry) .a 0 ⟨.a, .txnSuspend, 0⟩ ∧ AtPosition (switching 1 .carry) .a 1 ⟨.a, .dayClose, 0⟩ ∧
      AtPosition (switching 2 .carry) .a 2 ⟨.b, .dayOpen, 0⟩ ∧ AtPosition (switching 3 .carry) .a 3 ⟨.b, .txnResume, 0⟩ := by
  refine ⟨.inl ⟨0, ?_, rfl⟩, .inr (.inl ⟨?_, rfl⟩), .inr (.inr (.inl ⟨?_, rfl⟩)),
    .inr (.inr (.inr ⟨?_, 0, 0, ?_, ?_, rfl⟩))⟩ <;> decide +kernel

/-- A part-written entry, chain 9, is at the port. -/
def partAtPort (o : PartOrder) (s : State) : State :=
  let line := putField (packLine [(1, o.kind.code)]) 56 4 9
  insertedAtPort .journalEngine (fullWrite 131072 line)
    { s with journal := { s.journal with partWrite := .writing o line }, day := { s.day with ordered := true } }

theorem test_meets_PartWriteCommitsAndSwitchAdvances :
    let opened := after .partWriteCommit (partAtPort ⟨.a, .dayOpen, 0⟩ (dayOpen 0 .idle))
    let suspended := after .partWriteCommit (partAtPort ⟨.a, .txnSuspend, 0⟩ (switching 0 .carry))
    let closed := after .partWriteCommit (partAtPort ⟨.a, .dayClose, 0⟩ (switching 1 .carry))
    let carried := after .partWriteCommit (partAtPort ⟨.b, .txnResume, 0⟩ (switching 3 .carry))
    let dropped := after .partWriteCommit (partAtPort ⟨.b, .dayOpen, 0⟩ (switching 2 .drop))
    (opened.journal.bankA.cursor = 1 ∧
      opened.journal.bankA.running = 9 ∧ opened.retained.bankA.cursor = 1 ∧ opened.day.ordered = false ∧
      lastReport opened = some (.dayOpened .a 6)) ∧
    (0 + 1 < listLength (switching 0 .carry) ∧ suspended.day.progress = 1 ∧
      suspended.journal.bankA.totals.tills[(0 : Fin 32)].suspended = 1) ∧
    (1 + 1 < listLength (switching 1 .carry) ∧ closed.journal.bankA.state = .closed ∧ closed.journal.bankA.final = 9 ∧
      closed.journal.carried = some 9 ∧ closed.journal.bankB.state = .open ∧ closed.journal.bankB.seed = 9 ∧
      closed.journal.bankB.dayNumber = 7 ∧ closed.day.openBank = some .b ∧
      closed.guard.windows[(2 : Fin 16)].writeProtect = true ∧ closed.guard.windows[(3 : Fin 16)].writeProtect = false) ∧
    (3 + 1 = listLength (switching 3 .carry) ∧ carried.day.phase = .dayOpen ∧
      carried.journal.contexts[(0 : Fin 32)].state = .inTxn ∧ lastReport carried = some (.dayClosed .a .b 0 1 1 .carry)) ∧
    (2 + 1 = listLength (switching 2 .drop) ∧ dropped.journal.contexts[(0 : Fin 32)].state = .idle ∧
      lastReport dropped = some (.dayClosed .a .b 0 1 1 .drop)) := by
  decide +kernel

/-! ### Price Watch -/

/-- A price line (section 12.3): item, price, zone 1 with two facings, policy HOLD. -/
def priceLine (item price : Nat) : Line := packLine [(4, item), (4, price), (1, 0x21)]

theorem price_at_turn {s : State} {d : Line}
    (h : judgeLine s.guard s.mem.size .cpu .write 163840 = .pass 163840 (some 4) .price 0) :
    AtTurn (writing .cpu 163840 d s) 3 0 (lineFor s .cpu .write 163840 d) .capture := by
  apply atTurn_of
  simp [turnLine, findRequest, writing, withRequest, oneLine, lineFor, nextTurn, handlerOf, h]

def held (st : CaptureStage) (addr : Nat) : CaptureLine := ⟨some ⟨3, 0⟩, addr, priceLine 5 200, st⟩

theorem test_meets_CapturesAndWithdrawalsTakeTurns :
    let d := priceLine 5 200
    let q (c : List CaptureLine) (s : State) : State := { s with price := { s.price with queue := c } }
    let last (x : LastIssue) (s : State) : State := { s with price := { s.price with lastIssue := x } }
    let leaving := withWatch { watched with exit := .withdraw }
    let both := q [held .released 64, held .waiting 128] leaving
    let read (s : State) := (issued s.mem.slots.priceWatch).map (fun a => (a.kind, a.addr))
    (TxnsDistinct (writing .cpu 163840 d base) ∧
      (after (.priceWriteCapture 3) (writing .cpu 163840 d base)).price.queue = [⟨some ⟨3, 0⟩, 163840, d, .waiting⟩] ∧
      (after (.priceWriteCapture 3) (writing .cpu 163840 d base)).mem.port = .idle) ∧
    (both.price.lastIssue = .withdrawal ∧ read (after .captureReadIssue both) = some (.read, 128) ∧
      (after .captureReadIssue both).price.queue.map (fun c => c.stage) = [.released, .reading] ∧
      read (after .captureReadIssue (last .capture both)) = none ∧
      read (after .captureReadIssue { both with mem := { both.mem with hold := true } }) = none) ∧
    (both.price.withdrawals.head? = some 5 ∧ entryOf both 5 = some { watched with exit := .withdraw } ∧
      read (after .checkReadIssue (last .capture both)) = some (.read, 163840) ∧ read (after .checkReadIssue both) = none ∧
      read (after .checkReadIssue leaving) = some (.read, 163840)) := by
  simp only [TxnsDistinct]
  decide +kernel

theorem test_price_line_at_turn :
    AtTurn (writing .cpu 163840 (priceLine 5 200) base) 3 0 (lineFor base .cpu .write 163840 (priceLine 5 200)) .capture :=
  price_at_turn (s := base) (by decide +kernel)

/-- The check read of item 5 is at the port over DRAM contents; then its write-back. -/
def checking (dram : Memory) : State :=
  let s := withWatch { watched with exit := .withdraw }
  insertedAtPort .priceWatch (readAccess 163840)
    { s with mem := { s.mem with dram := dram }, price := { s.price with access := .checkRead 5 } }

theorem test_withdrawal_checks_and_writes_back :
    let back := after .checkReadComplete (checking priced)
    let gone := after .checkReadComplete (checking [])
    let access : Access := writeBackAccess watched
    let done := after .writeBackComplete (insertedAtPort .priceWatch access
      { checking priced with price := { (checking priced).price with access := .writeBack 5 } })
    (getField (Memory.readLine priced 163840) 0 4 = 5 ∧ (checking priced).price.dropAtCheck = false ∧
      entryOf (checking priced) 5 = some { watched with exit := .withdraw } ∧
      issued back.mem.slots.priceWatch = some ⟨.write, 163840, 0xF0, packLine [(4, 0), (4, 100)]⟩ ∧
      back.price.access = .writeBack 5 ∧ back.price.table.length = 1) ∧
    (getField (Memory.readLine [] 163840) 0 4 ≠ 5 ∧ gone.price.table = [] ∧
      lastReport gone = some (.priceWithdrawn 5 100 false)) ∧
    (access.kind = .write ∧ done.mem.dram = [(163840, 5), (163844, 100)] ∧
      done.price.table = [] ∧ lastReport done = some (.priceWithdrawn 5 100 true)) := by
  decide +kernel

/-- The capture read of a held write of a price line to item 5's line is at the port, over DRAM contents. -/
def comparing (dram : Memory) (new : Line) (table : List WatchEntry) : State :=
  let r := oneLine base .cpu .write 163840 new
  let s := withRequest { r with progress := .active, lines := r.lines.map (fun l => { l with stage := .held }) } base
  insertedAtPort .priceWatch (readAccess 163840) { s with
    mem := { s.mem with dram := dram }
    price := { s.price with
      table := table, access := .captureRead, queue := [⟨some ⟨3, 0⟩, 163840, new, .reading⟩] } }

theorem test_capture_at_port (dram : Memory) (new : Line) (table : List WatchEntry) :
    ∃ r l, CaptureAtPort (comparing dram new table) 3 r l ⟨some ⟨3, 0⟩, 163840, new, .reading⟩ 163840 (some 4)
      (Memory.readLine dram 163840) := by
  refine ⟨_, _, ⟨⟨readAccess 163840, ⟨rfl, rfl⟩, rfl⟩, rfl, rfl, rfl, rfl, ?_, ⟨rfl, rfl⟩, rfl,
    ⟨.price, 0, congrArg some ?_⟩⟩⟩
  · simp [TxnsDistinct, comparing, insertedAtPort, withRequest]
  · show judgeLine base.guard base.mem.size .cpu .write 163840 = _
    decide +kernel

/-- What a capture comparison leaves: the watch table's entries as old price, new price, state and "no exit pending",
and the last report. -/
def outcomeIs (s : State) (entries : List (Nat × Nat × WatchState × Bool)) (report : Option ReportBody) : Bool :=
  let s' := after .captureReadComplete s
  decide (s'.price.table.map (fun e => (e.oldPrice, e.newPrice, e.state, decide (e.exit = .none))) = entries) &&
    decide (lastReport s' = report)

theorem test_meets_CaptureComparisonStagesOrRestages_without_entry :
    let many : List WatchEntry := (List.range 256).map (fun k => { watched with item := 1000 + k })
    let full := after .captureReadComplete (comparing priced (priceLine 5 300) many)
    (outcomeIs (comparing priced (priceLine 6 9) []) [] none ∧
    outcomeIs (comparing priced (priceLine 5 200) []) [] none ∧
    outcomeIs (comparing priced (priceLine 5 10000000) []) [] none ∧
    outcomeIs (comparing priced (priceLine 5 9999999) []) [(200, 9999999, .staged, true)]
      (some (.priceStaged 5 200 9999999 1 2 none))) ∧
    (many.length = 256 ∧ full.price.table.length = 256 ∧ full.price.queue = [] ∧
      full.guard.log.map (fun e => e.cause) = [.watchFull] ∧
      full.link.completions = [⟨3, .taken [.discarded] []⟩]) := by
  decide +kernel

theorem test_meets_CaptureComparisonStagesOrRestages_with_entry :
    let failed : WatchEntry := { watched with state := .failed, attempts := 3 }
    let shown : WatchEntry := { watched with state := .shown }
    (outcomeIs (comparing priced (priceLine 6 9) [watched]) [(100, 200, .staged, false)] none ∧
    outcomeIs (comparing priced (priceLine 5 200) [watched]) [(100, 200, .staged, true)] none ∧
    outcomeIs (comparing priced (priceLine 5 10000000) [watched]) [(100, 200, .staged, true)] none ∧
    outcomeIs (comparing priced (priceLine 5 100) [watched]) [(100, 200, .staged, false)] none) ∧
    (outcomeIs (comparing priced (priceLine 5 300) [failed]) [(100, 300, .staged, true)]
      (some (.priceStaged 5 100 300 1 2 (some .failed))) ∧
    outcomeIs (comparing (Memory.write priced 163844 7) (priceLine 5 200) [shown]) [(100, 200, .shown, true)] none ∧
    outcomeIs (comparing priced (priceLine 5 300) [shown]) [(200, 300, .staged, true)]
      (some (.priceStaged 5 200 300 1 2 (some .shown)))) := by
  decide +kernel

/-- Copies (R117) and restagings (R119) of SENDING, SHOWN and marked entries, with the item awaited in zone 1: the entries,
what is awaited, and the reports. -/
theorem test_copies_and_restagings_of_sent_entries :
    let line (zone facings price : Nat) : Line := packLine [(4, 5), (4, price), (1, zone + 16 * facings)]
    let run (e : WatchEntry) (new : Line) : State := after .captureReadComplete
      (let s := comparing priced new [e]
       { s with
         price := { s.price with withdrawals := [5] }
         label := { s.label with zone := some 1, zones := vput s.label.zones 1 .waiting, awaited := [5, 6], round := .running } })
    let sending : WatchEntry := { watched with state := .sending, acked := 1 }
    let shown : WatchEntry := { watched with state := .shown, acked := 3, epochSeen := true }
    let is (s : State) (st : WatchState) (acked : BitVec 16) (awaited : List Nat) (report : Option ReportBody) : Bool :=
      decide (s.price.table.map (fun e => (e.state, e.acked)) = [(st, acked)]) && decide (s.label.awaited = awaited) &&
        decide (lastReport s = report)
    (FullyAcked (1 &&& 1) 1 ∧ ¬FullyAcked (3 &&& 7) 3 ∧ FullyAcked 0 0) ∧
    (is (run sending (line 1 1 200)) .shown 1 [6] (some (.priceShown 5 200 1 0)) ∧
      is (run sending (line 1 2 200)) .sending 1 [5, 6] none ∧
      is (run sending (line 2 2 200)) .staged 0 [6] none ∧
      is (run sending (line 2 0 200)) .shown 0 [6] (some (.priceShown 5 200 2 0)) ∧
      is (run sending (line 1 2 300)) .staged 0 [6] (some (.priceStaged 5 100 300 1 2 (some .sending))) ∧
      is (run sending (line 1 2 100)) .sending 1 [5, 6] none) ∧
    (is (run shown (line 1 2 200)) .shown 3 [5, 6] none ∧ is (run shown (line 1 3 200)) .staged 3 [5, 6] none ∧
      is (run { shown with state := .failed } (line 2 0 200)) .failed 0 [5, 6] none) ∧
    ((run { watched with exit := .afterWrite 64 } (line 1 2 200)).price.table.map (fun e => e.exit) = [.none] ∧
      (run { watched with exit := .withdraw } (line 1 2 200)).price.table.map (fun e => e.exit) = [.withdraw] ∧
      (run { watched with exit := .afterWrite 64 } (packLine [(4, 6)])).price.table.map (fun e => e.exit) = [.afterWrite 64]) ∧
    (let s := run { shown with newPrice := 300, exit := .withdraw } (line 1 2 300)
     s.price.table.map (fun e => (e.state, e.exit, e.newPrice)) = [(.shown, .none, 300)] ∧ s.price.withdrawals = []) ∧
    (after .captureReadComplete (comparing priced (line 1 0 300) [])).reports.pending.map (fun r => r.body) =
      [.priceStaged 5 200 300 1 0 none, .priceShown 5 300 1 0] := by
  simp only [FullyAcked]
  decide +kernel

theorem test_restaging_hypotheses_met :
    readPrice (priceLine 5 300) = ⟨5, 300, 1, 2, .hold⟩ ∧ (readPrice (Memory.readLine priced 163840)).item = 5 ∧
    (readPrice (Memory.readLine priced 163840)).price = 200 ∧ entryOf (comparing priced 0 [watched]) 5 = some watched ∧
    ItemsDistinct (comparing priced 0 [watched]) ∧ watched.item ∉ (comparing priced 0 [watched]).label.awaited ∧
    ¬FullyAcked watched.acked 2 := by
  simp only [ItemsDistinct, FullyAcked]
  decide +kernel

/-! ### Label Sequencer -/

/-- Zone 1 QUEUEING with seven items to write. -/
def seven : List WatchEntry := (List.range 7).map (fun k => { watched with item := 10 + k, newPrice := 500 + k })

def queueing : State :=
  { base with
    price := { base.price with table := seven }
    label := { base.label with
      round := .running, number := 2, zone := some 1, zones := vput base.label.zones 1 .queueing
      visit := seven.map (fun e => ⟨e.item, false⟩), producer := 63, consumer := 1 } }

/-- A written record of two items, one of which has been restaged, is at the port. -/
def sending (left : Bool) : State :=
  insertedAtPort .labelSequencer (fullWrite 171968 1) { queueing with
    label := { queueing.label with
      visit := [⟨10, true⟩, ⟨11, true⟩, ⟨12, !left⟩], writing := some ⟨[(10, 500), (11, 9)], true, true⟩ } }

/-- A work record of six items fills its 64 bytes. -/
theorem test_work_record_of_six :
    let items : List (Nat × Nat × Nat) := (List.range 6).map (fun k => (10 + k, 500 + k, 2))
    items.length ≤ 6 ∧ getField (workLine true 2 1 0 items) 56 4 = 15 ∧ getField (workLine true 2 1 0 items) 60 3 = 505 ∧
      getField (workLine true 2 1 0 items) 63 1 = 2 ∧ getField (workLine true 2 1 0 items) 5 11 = 0 := by
  decide +kernel

theorem test_meets_WorkRecordsSentAndAwaited :
    let s' := after .workRecordIssue queueing
    let more := after .workRecordComplete (sending true)
    let all := after .workRecordComplete (sending false)
    ((∀ e ∈ seven, entryOf queueing e.item = some e ∧ e.state = .staged ∧ e.zone = 1 ∧ e.exit = .none ∧ e.facings ≠ 0) ∧
      queueing.label.zones[(1 : Fin 16)] = .queueing ∧ labelCapacity queueing = 64 ∧
      (issued s'.mem.slots.labelSequencer).map (fun a =>
        (a.addr, getField a.data 0 5, getField a.data 16 8, getField a.data 56 4)) =
          some (167936 + 63 * 64, 0x0600010201, 10 + 2 ^ 32 * (500 + 2 ^ 24 * 2), 15) ∧
      s'.label.visit.map (fun v => v.written) = [true, true, true, true, true, true, false]) ∧
    (ItemsDistinct (sending true) ∧ more.label.awaited = [10] ∧ more.label.sent = 1 ∧ more.label.producer = 0 ∧
      more.label.phase = false ∧ more.label.recordNo = 1 ∧ more.label.zones[(1 : Fin 16)] = .queueing ∧
      more.price.table.map (fun e => e.attempts) = [1, 0, 0, 0, 0, 0, 0]) ∧
    (all.label.zones[(1 : Fin 16)] = .waiting ∧ all.label.timeout = 10) := by
  simp only [ItemsDistinct]
  decide +kernel

/-- Zone 1 QUEUEING, with a visit list and an awaited set; item 11 has no facing to acknowledge, item 20 no entry. -/
def walking (items awaited : List Nat) : State :=
  { queueing with
    price := { queueing.price with table := seven.map (fun e => if e.item = 11 then { e with facings := 0 } else e) }
    label := { queueing.label with visit := items.map (fun i => ⟨i, false⟩), awaited := awaited } }

/-- R142, R143: what is not current is left out, the item with no facing is SHOWN, and with none current the zone WAITS, or
its visit ends. -/
theorem test_meets_WorkRecordsSentAndAwaited_walk :
    let mixed := after .workRecordIssue (walking [20, 11, 12] [])
    let waits := after .workRecordIssue (walking [20, 11] [16])
    let ends := after .workRecordIssue (walking [20, 11] [])
    (ItemsDistinct (walking [20, 11, 12] []) ∧ ((walking [20, 11, 12] []).label.visit.map (fun v => v.item)).Nodup ∧
      (∀ v ∈ (walking [20, 11] [16]).label.visit, v.written = false → v.item ∉ (walking [20, 11] [16]).label.awaited)) ∧
    (mixed.label.writing = some ⟨[(12, 502)], true, true⟩ ∧ mixed.label.visit.all (fun v => v.written) = true ∧
      mixed.price.table.map (fun e => e.state) = [.staged, .shown, .staged, .staged, .staged, .staged, .staged] ∧
      lastReport mixed = some (.priceShown 11 501 1 0)) ∧
    (waits.label.zones[(1 : Fin 16)] = .waiting ∧ waits.label.timeout = 10 ∧ waits.label.writing = none) ∧
    (ends.label.zones[(1 : Fin 16)] = .done ∧
      (.zoneDone 2 1 0 0 0 : ReportBody) ∈ ends.reports.pending.map (fun r => r.body)) := by
  simp only [ItemsDistinct]
  decide +kernel

/-- R143, R146, R149: a record with no item left to await ends the visit; one whose round has ended moves no entry, and
advances the queue only where it was not changed. -/
theorem test_meets_WorkRecordsSentAndAwaited_ended :
    let wrote (w : WorkWrite) (s : State) : State := { s with label := { s.label with writing := some w } }
    let restaged := after .workRecordComplete (wrote ⟨[(11, 9)], true, true⟩ (sending false))
    let late := after .workRecordComplete (wrote ⟨[(10, 500)], false, true⟩ (sending false))
    let moved := after .workRecordComplete (wrote ⟨[(10, 500)], false, false⟩ (sending false))
    (restaged.label.sent = 0 ∧ restaged.label.zones[(1 : Fin 16)] = .done ∧
      (.zoneDone 2 1 0 0 0 : ReportBody) ∈ restaged.reports.pending.map (fun r => r.body)) ∧
    (late.label.producer = 0 ∧ late.label.phase = false ∧ late.label.recordNo = 0 ∧ late.label.awaited = [] ∧
      late.price.table = seven) ∧
    (moved.label.producer = 63 ∧ moved.label.phase = true ∧ moved.price.table = seven) := by
  decide +kernel

/-- An acknowledgement (section 8.5): item, facing, zone, price shown, result. -/
def ack (item facing price result : Nat) : Line := packLine [(4, item), (1, facing), (3, 0), (4, price), (1, result)]

/-- An acknowledgement written by the label gateway to line 0 of LABEL_ACK (page 42), at its turn. -/
def acknowledged (d : Line) (s : State) : State := writing .label 172032 d s

theorem ack_at_turn {s : State} {d : Line}
    (h : judgeLine s.guard s.mem.size .label .write 172032 = .pass 172032 (some 6) .labelAck 0) :
    AtTurn (acknowledged d s) 3 0 (lineFor s .label .write 172032 d) .ack := by
  apply atTurn_of
  simp [turnLine, findRequest, acknowledged, writing, withRequest, oneLine, lineFor, nextTurn, handlerOf, h]

/-- Zone 1 WAITS for item 5, which has been sent, its facing 0 acknowledged or not, with a round state and timeout. -/
def awaiting (acked : BitVec 16) (attempts timeout : Nat) (round : RoundState) : State :=
  { withWatch { watched with state := .sending, acked := acked, attempts := attempts } with
    label := { base.label with
      round := round, number := 2, zone := some 1, zones := vput base.label.zones 1 .waiting, awaited := [5], sent := 1
      timeout := timeout } }

theorem test_meets_AcknowledgementsAndTimeoutsMoveEntries :
    let s := awaiting 1 1 0 .stopping
    let table (d : Line) (s : State) := (after (.acknowledgement 3) (acknowledged d s)).price.table.map
      (fun e => (e.state, e.acked))
    let shown := after (.acknowledgement 3) (acknowledged (ack 5 1 200 1) s)
    let bodies (s : State) := s.reports.pending.map (fun r => r.body)
    (table (ack 5 1 199 1) s = [(.sending, 1)] ∧ table (ack 5 2 200 1) s = [(.sending, 1)] ∧
      table (ack 5 1 200 0) s = [(.sending, 1)] ∧ table (ack 6 1 200 1) s = [(.sending, 1)] ∧
      table (ack 5 0 200 1) (awaiting 0 1 9 .running) = [(.sending, 1)] ∧ table (ack 5 1 200 1) s = [(.shown, 3)]) ∧
    (bodies shown = [.priceShown 5 200 1 1, .zoneDone 2 1 1 1 0, .roundDone 2 1 true] ∧ shown.label.round = .idle ∧
      shown.label.zone = none ∧ shown.mem.port = .passed (passed .write 172032 (ack 5 1 200 1))) ∧
    ((after .zoneTimeout (awaiting 1 1 1 .running)).label.awaited = [5] ∧
      (after .zoneTimeout s).price.table.map (fun e => e.state) = [.staged] ∧
      bodies (after .zoneTimeout s) = [.zoneDone 2 1 1 0 1, .roundDone 2 1 true]) ∧
    ((awaiting 1 3 0 .stopping).label.settings.limit ≤ 3 ∧
      (after .zoneTimeout (awaiting 1 3 0 .stopping)).price.table.map (fun e => e.state) = [.failed] ∧
      bodies (after .zoneTimeout (awaiting 1 3 0 .stopping)) =
        [.priceFailed 5 200 1 3 1, .zoneDone 2 1 1 0 1, .roundDone 2 1 true]) := by
  decide +kernel

/-- Three awaited items at the timeout, the second at the attempt limit. -/
theorem test_timeout_of_several_items :
    let e (item attempts : Nat) : WatchEntry := { watched with item := item, state := .sending, attempts := attempts }
    let s : State := { awaiting 0 1 0 .stopping with
      price := { base.price with table := [e 5 1, e 6 3, e 7 2] }
      label := { (awaiting 0 1 0 .stopping).label with awaited := [7, 6, 5], sent := 3 } }
    ItemsDistinct s ∧ s.label.timeout = 0 ∧ s.label.settings.limit = 3 ∧
    (after .zoneTimeout s).price.table.map (fun e => e.state) = [.staged, .failed, .staged] ∧
    (after .zoneTimeout s).reports.pending.map (fun r => r.body) =
      [.priceFailed 6 200 1 3 0, .zoneDone 2 1 3 0 3, .roundDone 2 1 true] := by
  simp only [ItemsDistinct]
  decide +kernel

theorem test_acknowledgement_hypotheses_met :
    let s := awaiting 1 1 0 .stopping
    let e : WatchEntry := { watched with state := .sending, acked := 1, attempts := 1 }
    AtTurn (acknowledged (ack 5 1 200 1) s) 3 0 (lineFor s .label .write 172032 (ack 5 1 200 1)) .ack ∧
    entryOf s 5 = some e ∧ Acknowledges (readAck (ack 5 1 200 1)) e ∧ FullyAcked (e.acked ||| 2) e.facings ∧
    ¬FullyAcked (0 ||| 1) e.facings ∧ ¬Acknowledges (readAck (ack 5 2 200 1)) e ∧ ItemsDistinct s := by
  refine ⟨ack_at_turn (s := awaiting 1 1 0 .stopping) (by decide +kernel), ?_⟩
  simp only [Acknowledges, FullyAcked, ItemsDistinct]
  decide +kernel

/-! ### Configuration Loader and start-up -/

/-- A 640-byte image of format 1 (section 12.6): 256 MiB, fill A5h, threshold 3, keys 1 and 2, tag 0 CPU, no window
enabled, no optional section; its check word is word 2. -/
def imageWords : Nat :=
  packFields ([(4, 1), (4, 640), (4, 0), (1, 0), (1, 0xA5), (1, 3), (1, 0), (4, 1), (4, 2), (1, 0)] ++
    List.replicate 15 (1, 255) ++ [(12, 0), (2, 1000), (2, 0), (1, 10), (1, 1)])

/-- The image with the check word that makes its words add to 0. -/
def image : ImageBits :=
  let b : ImageBits := BitVec.ofNat 16384 imageWords
  b ||| (((0#32 - imageSum b 160).setWidth 16384) <<< 64)

/-- The image as the EEPROM's bytes. -/
def imageBytes : List Byte := (List.range 640).map (fun k => getByte image k)

theorem test_image_judged :
    (match judgeEeprom (.answers imageBytes) with
      | .valid i f => (i.fill, i.threshold, i.keys, f, i.classMap[(0 : Fin 16)], i.classMap[(1 : Fin 16)])
      | _ => (0, 0, (0, 0), 0, .other, .other)) = (0xA5, 3, (1, 2), 1, .cpu, .other) ∧
    judgeEeprom (.answers (imageBytes.set 100 7)) = .bad 1 ∧ judgeEeprom (.answers []) = .absent := by
  decide +kernel

/-- A read of an image line is at the port, from memory, with lines already read. -/
def reading (dram : Memory) (lines : List Line) (expected : Option Nat) (addr : Nat) : State :=
  let r := State.reset
  insertedAtPort .configLoader (readAccess addr) { r with
    mem := { r.mem with dram := dram }
    loader := { r.loader with
      load := .readingMemory ⟨true, 0x81, 7⟩ addr lines expected, access := .imageRead } }

/-- The lines of the image. -/
def imageLines (k : Nat) : List Line := (List.range k).map (fun j => image.extractLsb' (512 * j) 512)

/-- The result line waiting in the loader has this status, refusal code and load outcome. -/
def bootAnswerIs (s : State) (status : BootStatus) (refusal : Option RefusalCode) (o : ConfigResult × Nat) : Bool :=
  match s.loader.result with
  | some x => decide (x.status = status) && decide (x.refusal = refusal) && decide (x.outcome = some o)
  | none => false

def bootResult : BootResult := ⟨0x81, 7, 1, .done, none, some (.valid, 1)⟩

/-- The write of a result line is at the port, with a load behind it. -/
def resultAtPort (load : Load) : State :=
  let r := State.reset
  insertedAtPort .configLoader (fullWrite 61504 (resultLine bootResult))
    { r with loader := { r.loader with access := .resultWrite, load := load } }

theorem test_meets_BootstrapLoadReadsAndAnswers_result_line :
    let r := State.reset
    let pending : State := { r with loader := { r.loader with result := some bootResult } }
    (issued (after .resultLineIssue pending).mem.slots.configLoader = some (fullWrite 61504 (resultLine bootResult)) ∧
      getField (resultLine bootResult) 0 7 = 0x01000100070081 ∧
      (after .resultLineIssue r).loader = r.loader) ∧
    ((after .resultLineWritten (resultAtPort .idle)).loader.access = .idle ∧
      issued (after .resultLineWritten (resultAtPort (.readingMemory ⟨true, 0x81, 7⟩ 4160 [] none))).mem.slots.configLoader =
        some (readAccess 4160)) := by
  decide +kernel

theorem test_meets_BootstrapLoadReadsAndAnswers_image_lines :
    let header : Memory := [(4096, 1), (4100, 0x80), (4101, 2)]
    let last := after .imageReadComplete (reading [] (imageLines 9) (some 640) 4672)
    (bootAnswerIs (after .imageReadComplete (reading [] [] none 4096)) .refused (some .configBad) (.bad, 0) ∧
      issued (after .imageReadComplete (reading header [] none 4096)).mem.slots.configLoader = some (readAccess 4160)) ∧
    (bootAnswerIs last .done none (.valid, 1) ∧ last.loader.running = true) ∧
    bootAnswerIs (after .imageReadComplete (reading [(4672, 1)] (imageLines 9) (some 640) 4672)) .refused (some .configBad) (.bad, 1) := by
  decide +kernel

/-- An image read beyond the installed 256 MiB makes the image bad in its grant; an image's last byte; its windows. -/
theorem test_image_read_granted_beyond_size :
    let s := reading [] (imageLines 9) (some 640) 268435456
    let waits : State := { s with mem := { s.mem with
      port := .idle, slots := { s.mem.slots with configLoader := .waiting (readAccess 268435456) 0 } } }
    (waits.mem.hold = false ∧ waits.mem.queue = [] ∧ waits.mem.size.bytes ≤ (readAccess 268435456).addr ∧
      waits.loader.access = .imageRead) ∧
    (∀ src b m, src ≠ .configLoader → waits.mem.slots.get src ≠ .waiting b m) ∧
    bootAnswerIs (after .dramGrant waits) .refused (some .configBad) (.bad, 1) ∧
    getByte (imageOfLines (List.replicate 32 5)) (64 * 31) = 5 ∧ LawsHold (Vector.replicate 16 Window.disabled) := by
  refine ⟨by decide +kernel, ?_, by decide +kernel, by decide +kernel, ?_⟩
  · intro src b m h
    cases src <;> first | exact absurd rfl h | exact Slot.noConfusion
  · unfold LawsHold; decide +kernel

theorem test_meets_EepromLoadAppliesValidImage :
    let load (b : Bool) (s : State) : State := { s with loader := { s.loader with load := .readingEeprom ⟨b, 0x80, 7⟩ } }
    let s' (e : EepromRead) := after (.eepromReadComplete e) (load false base)
    let applied := s' (.answers imageBytes)
    (lastReport (s' .noAnswer) = some (.start .absent 0) ∧ lastReport (s' (.answers [])) = some (.start .absent 0) ∧
      lastReport (s' (.answers (imageBytes.set 100 7))) = some (.start .bad 1)) ∧
    (lastReport (after (.eepromReadComplete (.answers imageBytes)) (load false (inPhase .closing base))) =
      some (.start .bad 1)) ∧
    (base.price.table = [] ∧ base.price.queue = [] ∧ base.label.round = .idle ∧ base.day.phase = .noDay ∧
      lastReport applied = some (.start .valid 1) ∧ applied.guard.windows = Vector.replicate 16 Window.disabled ∧
      applied.guard.keys = some (1, 2) ∧ applied.mem.fill = 0xA5 ∧ applied.reports.threshold = 3 ∧
      applied.time.staged = some ⟨1000, 0, 10, 1⟩ ∧ applied.retained.recordA = none) ∧
    ((after (.eepromReadComplete .noAnswer) (load true State.reset)).loader.result =
      some ⟨0x80, 7, 1, .refused, some .configBad, some (.absent, 0)⟩) := by
  decide +kernel

/-- The image of `image` with JOURNAL_A, JOURNAL_B and PRICE at pages 32, 34 and 40, READ_WRITE for every class and no
write-protect, as windows 0 to 2. -/
def windowImage : ImageBits :=
  let entry (role page : Nat) : List (Nat × Nat) :=
    [(1, 1), (1, role), (2, 0), (4, page), (4, page + 1), (4, 0)] ++ List.replicate 6 (1, 2) ++ [(10, 0)]
  let b : ImageBits := BitVec.ofNat 16384 (imageWords ||| packFields ((128, 0) :: (entry 3 32 ++ entry 4 34 ++ entry 5 40)))
  b ||| (((0#32 - imageSum b 160).setWidth 16384) <<< 64)

def windowBytes : List Byte := (List.range 640).map (fun k => getByte windowImage k)

/-- Bank A is OPEN, bank B in a state with READ_WRITE as its saved WAN rights, and the journal window record is that of the
image; two watch entries, one outside the image's PRICE window. -/
def tradingDay (other : BankState) : State :=
  let day := dayOpen 3 other
  { day with
    journal := { day.journal with bankB := { day.journal.bankB with savedWan := .readWrite } }
    price := { day.price with table := [watched, { watched with item := 6, line := 4096 }], withdrawals := [6, 5] }
    retained := { day.retained with recordA := some ⟨32, 33, 0⟩, recordB := some ⟨34, 35, 0⟩ } }

theorem test_reload_barred_and_answered :
    let load (b : Bool) (s : State) : State := { s with loader := { s.loader with load := .readingEeprom ⟨b, 0x80, 7⟩ } }
    let done (b : Bool) (bytes : List Byte) (s : State) := after (.eepromReadComplete (.answers bytes)) (load b s)
    let free (other : BankState) : State := { tradingDay other with
      price := base.price, link := base.link, label := base.label }
    let moved : State := { tradingDay .idle with
      guard := { base.guard with windows := vput table 4 (win 50 50 .price false) } }
    ((free .idle).day.openBank = some .a ∧ lastReport (done false windowBytes (free .idle)) = some (.start .valid 1) ∧
      (done false windowBytes (free .idle)).guard.windows[(0 : Fin 16)].writeProtect = false ∧
      (done false windowBytes (free .idle)).guard.windows[(1 : Fin 16)].writeProtect = true) ∧
    (lastReport (done false windowBytes (free .exporting)) = some (.start .bad 1) ∧
      lastReport (done false windowBytes moved) = some (.start .bad 1)) ∧
    (bootAnswerIs (done true windowBytes (free .exporting)) .done none (.valid, 1) ∧
      (done true windowBytes (free .exporting)).guard.windows[(1 : Fin 16)].rights.wan = .read ∧
      bootAnswerIs (done true imageBytes (free .exporting)) .refused (some .configConflict) (.valid, 1) ∧
      bootAnswerIs (done true (imageBytes.set 100 7) (free .exporting)) .refused (some .configBad) (.bad, 1)) := by
  decide +kernel

theorem test_meets_StartUpRestoresOrClearsRetainedState :
    let s : State := { dayOpen 4 .idle with retained := { base.retained with
      bankA := { base.retained.bankA with cursor := 3 } } }
    let kept := after (.startUp .noAnswer true [9]) s
    let lost := after (.startUp .noAnswer false []) (after .retainedSupplyLost s)
    (s.retained.lost = false ∧ s.retained.checkAgrees = true ∧ kept.journal.bankA.cursor = 3 ∧
      kept.journal.bankA.state = .open ∧ kept.day.phase = .dayOpen ∧ kept.mem.hold = true ∧
      kept.link.completions = [⟨9, .retry⟩] ∧ kept.reports.pending.map (fun r => r.body) = [.start .absent 0]) ∧
    ((after .retainedSupplyLost s).retained.lost = true ∧ lost.day.phase = .noDay ∧ lost.journal.bankA = {} ∧
      lost.retained.lost = false ∧ lost.reports.pending.map (fun r => r.body) = [.start .absent 0, .retainLost]) ∧
    after (.startUp .noAnswer false []) { State.reset with retained := { State.reset.retained with lost := true } } =
      State.reset := by
  decide +kernel

/-- A start-up in an export: with the image of the journal window record it ends RUNNING, with one of another place, or with a
bad sum, UNCONFIGURED and START BAD. -/
theorem test_start_up_applies_a_valid_image :
    let s := tradingDay .exporting
    let s₀ := after (.startUp .noAnswer false []) s
    let ran := after (.startUp (.answers windowBytes) false []) s
    let refused (bytes : List Byte) := after (.startUp (.answers bytes) false []) s
    (s₀.loader.running = false ∧ (match judgeEeprom (.answers windowBytes) with
      | .valid i f => some (f, conflicts i s₀, (leftOutside i.windows s₀.price.table).map (fun e => e.item))
      | _ => none) = some (1, false, [6])) ∧
    (ran.loader.running = true ∧ ran.guard.windows[(0 : Fin 16)] = win 32 33 .journalA false ∧
      ran.guard.windows[(1 : Fin 16)] = { win 34 35 .journalB true with rights := { every .readWrite with wan := .read } } ∧
      ran.journal.bankB.savedWan = .readWrite ∧ ran.journal.bankB.state = .exporting ∧
      ran.time.inForce = ⟨1000, 0, 10, 1⟩ ∧ ran.time.staged = none ∧ ran.guest.staged = none) ∧
    (ran.price.table = [watched] ∧ ran.price.withdrawals = [5] ∧
      ran.reports.pending.map (fun r => r.body) = [.priceWithdrawn 6 100 false, .start .valid 1]) ∧
    ((refused imageBytes).reports.pending.map (fun r => r.body) = [.start .bad 1] ∧
      (refused (windowBytes.set 300 7)).reports.pending.map (fun r => r.body) = [.start .bad 1] ∧
      (refused imageBytes).loader.running = false) := by
  decide +kernel

/-- No row of the table has bits: no word spells a command, and none is put into the queue. -/
theorem test_no_word_spells_a_command :
    decodeTableWord 16 0x21 = none ∧ State.reset.withFetchWord 16 0x21 = State.reset := by
  decide +kernel

end Sys2Proof.Tests
end

section
/-! PROOFS. The guard log's two commands (R28, R29), through a rule for any command record whose owner answers CMD_DONE. -/

namespace Sys2Proof.Machine

open Sys2Proof Sys2Proof.Safety

/-! ### A command that its owner carries out -/

/-- R41, R42: a command of the control window is carried out when its row takes the record with an owner that, whatever the
outstanding requests, has the effect and gives no refusal code. -/
theorem carriesOut_of_owner {c : Fin 64 → Instr} {code : Nat} {owner : Owner} {cond : Line → State → Prop}
    {effect : Line → State → State} (hexec : ∀ t s, exec (c t) s = .next (takeCommand t code owner s))
    (howner : ∀ l s x, cond l s → owner l ((recordTaken s).setLink x) = ((effect l (recordTaken s)).setLink x, none)) :
    CarriesOut c code cond effect := by
  intro t s k l hturn hcode hlock hcond
  exact ⟨_, hexec t s, takeCommand_passes hturn hcode hlock (fun x => howner l.data s x hcond)⟩

/-! ### The guard log -/

theorem exec_dumpGuardLog (t : Fin 64) (s : State) :
    exec (.dumpGuardLog t) s = .next (takeCommand t 0x0014 ownDumpGuardLog s) := rfl

theorem exec_clearGuardLog (t : Fin 64) (s : State) :
    exec (.clearGuardLog t) s = .next (takeCommand t 0x0015 ownClearGuardLog s) := rfl

/-- R28: the reports of a dump neither read nor change the outstanding requests. -/
theorem dumpReports_setLink (es : List GuardEntry) (s : State) (x : LinkState) :
    es.foldl (fun y e => arise (.guard e true) y) (s.setLink x) =
      (es.foldl (fun y e => reported (.guard e true) y) s).setLink x := by
  induction es generalizing s with
  | nil => rfl
  | cons e es ih =>
    simp only [List.foldl_cons, arise_eq_reported, reported_setLink]
    exact ih (reported (.guard e true) s)

theorem ownDumpGuardLog_setLink (l : Line) (s : State) (x : LinkState) :
    ownDumpGuardLog l (s.setLink x) = ((s.guard.log.foldl (fun y e => reported (.guard e true) y) s).setLink x, none) :=
  congrArg (·, none) (dumpReports_setLink s.guard.log s x)

theorem ownClearGuardLog_setLink (l : Line) (s : State) (x : LinkState) :
    ownClearGuardLog l (s.setLink x) = ((s.setGuard { s.guard with log := [] }).setLink x, none) := rfl

/-- R27: a refusal recorded in an empty log has no newest entry to merge with, so it is pushed with its report. -/
theorem logRefusal_of_log_nil {e : GuardEntry} {s : State} (h : s.guard.log = []) :
    logRefusal e s = reported (.guard e false) (s.setGuard { s.guard with log := [e] }) := by
  unfold logRefusal
  rw [h]
  exact arise_eq_reported _ _

/-- Settles O26: each command is carried out by its owner, and an empty log is pushed on. -/
theorem guardLogDumpAndClear : Obligations.GuardLogDumpAndClear := by
  unfold Obligations.GuardLogDumpAndClear
  refine ⟨by decide, by decide, ?dump, ?clear, fun e s => logRefusal_of_log_nil⟩
  case dump =>
    exact carriesOut_of_owner exec_dumpGuardLog fun l s x _ => ownDumpGuardLog_setLink l (recordTaken s) x
  case clear =>
    exact carriesOut_of_owner exec_clearGuardLog fun l s x _ => ownClearGuardLog_setLink l (recordTaken s) x

end Sys2Proof.Machine
end

section
/-! PROOFS. The line arithmetic (R98 to R102): the bounds of a rounded quotient, the two ends of the range check, the
magnitude and the sign of a line, and from them the line amount. -/

namespace Sys2Proof.Machine

open Sys2Proof

/-! ### The rounded quotient (R100) -/

/-- R100: the rounded quotient is above the exact one by at most one half. -/
theorem roundDiv_mul_le (n d : Nat) : 2 * d * roundDiv n d ≤ 2 * n + d :=
  Nat.mul_div_le (2 * n + d) (2 * d)

/-- R100: the rounded quotient is below the exact one by less than one half, so that a tie goes up. -/
theorem lt_roundDiv_mul_add (n : Nat) {d : Nat} (hd : 0 < d) : 2 * n < 2 * d * roundDiv n d + d := by
  have h : 2 * n + d < 2 * d * (roundDiv n d + 1) := Nat.lt_mul_div_succ (2 * n + d) (by omega)
  rw [Nat.mul_succ] at h
  omega

/-- A multiple of the divisor is divided exactly. -/
theorem roundDiv_mul_self (k : Nat) {d : Nat} (hd : 0 < d) : roundDiv (k * d) d = k := by
  have hsplit : 2 * (k * d) + d = d + 2 * d * k := by ring
  have hhalf : d / (2 * d) = 0 := Nat.div_eq_of_lt (by omega)
  rw [roundDiv, hsplit, Nat.add_mul_div_left d k (by omega), hhalf, Nat.zero_add]

theorem roundDiv_mono {m n : Nat} (h : m ≤ n) (d : Nat) : roundDiv m d ≤ roundDiv n d :=
  Nat.div_le_div_right (by omega)

/-- An exact quotient of at most an integer is rounded to at most that integer. -/
theorem roundDiv_le_of_le_mul {n k d : Nat} (hd : 0 < d) (h : n ≤ k * d) : roundDiv n d ≤ k :=
  (roundDiv_mono h d).trans_eq (roundDiv_mul_self k hd)

/-! ### The stages of a line (R98, R101, R102) -/

theorem lineInRange_eq_true_iff {p : Nat} {q : Int} :
    lineInRange p q = true ↔ p ≤ 9999999 ∧ q.natAbs ≤ 1000000 := by
  have hprice : Config.maxPrice = 9999999 := rfl
  have hquantity : Config.maxQuantity = 1000000 := rfl
  simp only [lineInRange, Bool.and_eq_true, decide_eq_true_eq]
  omega

theorem lineInRange_eq_false_iff {p : Nat} {q : Int} :
    lineInRange p q = false ↔ 9999999 < p ∨ 1000000 < q.natAbs := by
  rw [← Bool.not_eq_true, lineInRange_eq_true_iff]
  omega

/-- R101: the gross of a line in range. -/
theorem gross_le {p a : Nat} (hp : p ≤ 9999999) (ha : a ≤ 1000000) : roundDiv (p * a) 1000 ≤ 9999999000 :=
  roundDiv_le_of_le_mul (by decide) ((Nat.mul_le_mul hp ha).trans_eq (by decide))

/-- R101: a discount of at most 10,000 basis points takes at most the gross. -/
theorem discount_le_gross (g : Nat) {d : Nat} (hd : d ≤ 10000) : roundDiv (g * d) 10000 ≤ g :=
  roundDiv_le_of_le_mul (by decide) (Nat.mul_le_mul_left g hd)

/-- R99: the largest discount takes the whole gross. -/
@[simp] theorem lineMagnitude_maxDiscount (p : Nat) (q : Int) : lineMagnitude p q Config.maxDiscount = 0 := by
  have h : roundDiv (roundDiv (p * q.natAbs) 1000 * Config.maxDiscount) 10000 = roundDiv (p * q.natAbs) 1000 :=
    roundDiv_mul_self _ (by decide)
  rw [lineMagnitude, h, Nat.sub_self]

@[simp] theorem lineSign_zero (isReturn : Bool) (q : Int) : lineSign isReturn q 0 = 0 := by
  simp [lineSign]

/-- R102: a SALE takes the sign of its quantity. -/
theorem lineSign_sale (q : Int) (m : Nat) : lineSign false q m = if q < 0 then -(m : Int) else (m : Int) := by
  by_cases hq : q < 0 <;> simp [lineSign, hq]

/-- R102: a RETURN takes the opposite sign of its quantity. -/
theorem lineSign_return (q : Int) (m : Nat) : lineSign true q m = if q < 0 then (m : Int) else -(m : Int) := by
  by_cases hq : q < 0 <;> simp [lineSign, hq]

/-! ### The line amount by its inputs (R98, R99) -/

/-- R98: stage 1 ends the computation of a line out of range. -/
theorem lineAmount_of_not_inRange {p : Nat} {q : Int} (h : lineInRange p q = false) (isReturn : Bool) (d : Nat) :
    lineAmount isReturn p q d = ⟨false, 0, 0x80⟩ := by
  simp [lineAmount, h, flagRange]

/-- R99: a discount in range is used as written, with no flag of its own. -/
theorem lineAmount_of_discount_le {p d : Nat} {q : Int} (h : lineInRange p q = true) (hd : d ≤ 10000)
    (isReturn : Bool) :
    lineAmount isReturn p q d =
      ⟨true, lineSign isReturn q (lineMagnitude p q d), if q < 0 then 0x8000 else 0⟩ := by
  have hmax : d ≤ Config.maxDiscount := hd
  by_cases hq : q < 0 <;> simp [lineAmount, h, hmax, hmax.not_gt, hq, flagIf, flagNegQty]

/-- R99: a discount above 10,000 is clamped to the whole gross, with its flag. -/
theorem lineAmount_of_lt_discount {p d : Nat} {q : Int} (h : lineInRange p q = true) (hd : 10000 < d)
    (isReturn : Bool) :
    lineAmount isReturn p q d = ⟨true, 0, if q < 0 then 0x8100 else 0x100⟩ := by
  have hmax : Config.maxDiscount < d := hd
  by_cases hq : q < 0 <;> simp [lineAmount, h, hmax, hmax.le, hq, flagIf, flagDiscClamped, flagNegQty]

/-- Settles O47: the bounds of the rounded quotient, and the line amount by the three cases of its inputs. -/
theorem lineAmountRoundsGrossAndDiscount : Obligations.LineAmountRoundsGrossAndDiscount := by
  unfold Obligations.LineAmountRoundsGrossAndDiscount
  refine ⟨?rounding, by decide, by decide, by decide, by decide, ?inRange, ?clamped, ?outOfRange⟩
  case rounding =>
    exact fun n d hd => ⟨rfl, roundDiv_mul_le n d, lt_roundDiv_mul_add n hd⟩
  case inRange =>
    intro p d q hp hq hd g x
    have hrange : lineInRange p q = true := lineInRange_eq_true_iff.mpr ⟨hp, hq⟩
    have hmagnitude : lineMagnitude p q d = g - x := rfl
    refine ⟨gross_le hp hq, discount_le_gross g hd, ?sales, ?returns⟩
    case sales => rw [lineAmount_of_discount_le hrange hd, hmagnitude, lineSign_sale]
    case returns => rw [lineAmount_of_discount_le hrange hd, hmagnitude, lineSign_return]
  case clamped =>
    exact fun b p d q hp hq hd => lineAmount_of_lt_discount (lineInRange_eq_true_iff.mpr ⟨hp, hq⟩) hd b
  case outOfRange =>
    exact fun b p d q h => lineAmount_of_not_inRange (lineInRange_eq_false_iff.mpr h) b d

end Sys2Proof.Machine
end

section
/-! PROOFS. The three round commands (R134, R136, R140): what each owner answers in each round state, and that a round
starts in the same way whatever the outstanding requests. -/

namespace Sys2Proof.Machine

open Sys2Proof Sys2Proof.Safety

/-! ### A command that its owner refuses -/

/-- R41: a command of the control window is refused when its row takes the record with an owner that, whatever the
outstanding requests, has the effect and gives the refusal code. -/
theorem refuses_of_owner {c : Fin 64 → Instr} {code : Nat} {owner : Owner} {cond : Line → State → Prop}
    {rc : RefusalCode} {effect : Line → State → State}
    (hexec : ∀ t s, exec (c t) s = .next (takeCommand t code owner s))
    (howner : ∀ l s x, cond l s → owner l ((recordTaken s).setLink x) = ((effect l (recordTaken s)).setLink x, some rc)) :
    Refuses c code cond rc effect := by
  intro t s k l hturn hcode hlock hcond
  exact ⟨_, hexec t s, takeCommand_passes hturn hcode hlock (fun x => howner l.data s x hcond)⟩

theorem exec_setRounds (t : Fin 64) (s : State) :
    exec (.setRounds t) s = .next (takeCommand t 0x0050 ownSetRounds s) := rfl

theorem exec_startRound (t : Fin 64) (s : State) :
    exec (.startRound t) s = .next (takeCommand t 0x0051 ownStartRound s) := rfl

theorem exec_stopRound (t : Fin 64) (s : State) :
    exec (.stopRound t) s = .next (takeCommand t 0x0052 ownStopRound s) := rfl

/-! ### The window of a role (R20) -/

theorem mem_sixteen : ∀ i : Fin 16, i ∈ sixteen := by decide

theorem roleWindow_eq_none_iff {ws : Vector Window 16} {r : Role} :
    roleWindow ws r = none ↔ ∀ i : Fin 16, ws[i].enabled = true → ws[i].role ≠ r := by
  simp [roleWindow, roleIndex, mem_sixteen]

/-! ### The settings of a round (R134) -/

theorem RoundMode.ofCode_eq_none {c : Nat} (h : 2 ≤ c) : RoundMode.ofCode c = none := by
  obtain ⟨d, rfl⟩ := Nat.exists_eq_add_of_le' h
  rfl

theorem RoundTrigger.ofCode_eq_none {c : Nat} (h : 2 ≤ c) : RoundTrigger.ofCode c = none := by
  obtain ⟨d, rfl⟩ := Nat.exists_eq_add_of_le' h
  rfl

/-- R43, R134: settings with defined codes are read with the timeout and the attempt limit clamped. -/
theorem readRounds_of_codes {n : Nat} {b : BitVec n} {o : Nat} {mode : RoundMode} {trigger : RoundTrigger}
    (hmode : RoundMode.ofCode (getField b (o + 2) 1) = some mode)
    (htrigger : RoundTrigger.ofCode (getField b (o + 3) 1) = some trigger) :
    readRounds b o =
      some { mask := BitVec.ofNat 16 (getField b o 2), mode := mode, trigger := trigger
             timeout := max (getField b (o + 4) 1) 1, limit := min (max (getField b (o + 5) 1) 1) 15 } := by
  simp [readRounds, hmode, htrigger]

/-- R134: settings with an undefined mode or trigger code are not read. -/
theorem readRounds_of_undefined {n : Nat} {b : BitVec n} {o : Nat}
    (h : 2 ≤ getField b (o + 2) 1 ∨ 2 ≤ getField b (o + 3) 1) : readRounds b o = none := by
  rcases h with hmode | htrigger
  · simp [readRounds, RoundMode.ofCode_eq_none hmode]
  · simp [readRounds, RoundTrigger.ofCode_eq_none htrigger]

/-! ### SET_ROUNDS (R134) -/

theorem ownSetRounds_of_idle {l : Line} {s : State} {r : RoundSettings} (h : s.label.round = .idle)
    (hr : readRounds l 4 = some r) :
    ownSetRounds l s = (s.setLabel { s.label with settings := r }, none) := by
  simp [ownSetRounds, h, hr]

theorem ownSetRounds_of_unread {l : Line} {s : State} (h : s.label.round = .idle) (hr : readRounds l 4 = none) :
    ownSetRounds l s = (s, some .badArg) := by
  simp [ownSetRounds, h, hr]

theorem ownSetRounds_of_not_idle {l : Line} {s : State} (h : s.label.round ≠ .idle) :
    ownSetRounds l s = (s, some .busy) := by
  simp [ownSetRounds, h]

/-! ### START_ROUND (R136) -/

theorem endRound_setLink (b : Bool) (s : State) (x : LinkState) :
    endRound b (s.setLink x) = (endRound b s).setLink x := by
  unfold endRound
  simp only [arise_eq_reported, State.setLink_label, reported_setLink]
  rfl

/-- R138, R141: neither the visits nor the end of the round read or change the outstanding requests. -/
theorem visitZones_setLink (zs : List (Fin 16)) (s : State) (x : LinkState) :
    visitZones zs (s.setLink x) = (visitZones zs s).setLink x := by
  induction zs generalizing s with
  | nil => exact endRound_setLink false s x
  | cons z rest ih =>
    have hopen : openVisit z (s.setLink x) = (openVisit z s).setLink x := rfl
    simp only [visitZones, hopen, State.setLink_label]
    split
    · exact ih (closeVisit z (openVisit z s))
    · rfl

theorem startRound_setLink (s : State) (x : LinkState) : startRound (s.setLink x) = (startRound s).setLink x := by
  unfold startRound
  exact visitZones_setLink _ (s.setLabel _) x

theorem ownStartRound_of_ready {l : Line} {s : State} (htrigger : s.label.settings.trigger = .command)
    (hround : s.label.round = .idle) (hwindow : roleWindow s.guard.windows .labelQueue ≠ none) :
    ownStartRound l s = (startRound s, none) := by
  simp [ownStartRound, htrigger, hround, hwindow]

theorem ownStartRound_of_timebase {l : Line} {s : State} (h : s.label.settings.trigger = .timebase) :
    ownStartRound l s = (s, some .wrongState) := by
  simp [ownStartRound, h]

theorem ownStartRound_of_not_idle {l : Line} {s : State} (htrigger : s.label.settings.trigger = .command)
    (hround : s.label.round ≠ .idle) : ownStartRound l s = (s, some .busy) := by
  simp [ownStartRound, htrigger, hround]

theorem ownStartRound_of_no_window {l : Line} {s : State} (htrigger : s.label.settings.trigger = .command)
    (hround : s.label.round = .idle) (hwindow : roleWindow s.guard.windows .labelQueue = none) :
    ownStartRound l s = (s, some .notFound) := by
  simp [ownStartRound, htrigger, hround, hwindow]

/-! ### STOP_ROUND (R140) -/

theorem ownStopRound_of_visiting {l : Line} {s : State} (hround : s.label.round = .running)
    (hzone : s.label.zone ≠ none) :
    ownStopRound l s = (s.setLabel { s.label with round := .stopping }, none) := by
  obtain ⟨z, hz⟩ := Option.ne_none_iff_exists'.mp hzone
  simp [ownStopRound, hround, hz]

theorem ownStopRound_of_resting {l : Line} {s : State} (hround : s.label.round = .running)
    (hzone : s.label.zone = none) :
    ownStopRound l s = (s.setLabel { s.label with round := .idle }, none) := by
  simp [ownStopRound, hround, hzone]

theorem ownStopRound_of_not_running {l : Line} {s : State} (h : s.label.round ≠ .running) :
    ownStopRound l s = (s, none) := by
  cases hround : s.label.round with
  | idle => simp [ownStopRound, hround]
  | running => exact absurd hround h
  | stopping => simp [ownStopRound, hround]

/-- Settles O33: each clause is the answer of the command's owner in its round state, which taking the record (R32, R44)
leaves as it stands. -/
theorem roundCommandsJudgedByRoundState : Obligations.RoundCommandsJudgedByRoundState := by
  unfold Obligations.RoundCommandsJudgedByRoundState
  refine ⟨?set, ?setBusy, ?setBadArg, ?start, ?startWrongState, ?startBusy, ?startNotFound, ?stopVisiting, ?stopResting,
    ?stopNotRunning⟩
  case set =>
    intro mode trigger
    exact carriesOut_of_owner exec_setRounds fun l s x ⟨hround, hmode, htrigger⟩ =>
      ownSetRounds_of_idle (s := (recordTaken s).setLink x) hround (readRounds_of_codes hmode htrigger)
  case setBusy =>
    exact refuses_of_owner exec_setRounds fun l s x hround =>
      ownSetRounds_of_not_idle (s := (recordTaken s).setLink x) hround
  case setBadArg =>
    exact refuses_of_owner exec_setRounds fun l s x ⟨hround, hcode⟩ =>
      ownSetRounds_of_unread (s := (recordTaken s).setLink x) hround (readRounds_of_undefined hcode)
  case start =>
    refine carriesOut_of_owner exec_startRound fun l s x ⟨htrigger, hround, i, henabled, hrole⟩ => ?_
    have hwindow : roleWindow s.guard.windows .labelQueue ≠ none := fun hnone =>
      roleWindow_eq_none_iff.mp hnone i henabled hrole
    rw [ownStartRound_of_ready (s := (recordTaken s).setLink x) htrigger hround hwindow, startRound_setLink]
  case startWrongState =>
    exact refuses_of_owner exec_startRound fun l s x htrigger =>
      ownStartRound_of_timebase (s := (recordTaken s).setLink x) htrigger
  case startBusy =>
    exact refuses_of_owner exec_startRound fun l s x ⟨htrigger, hround⟩ =>
      ownStartRound_of_not_idle (s := (recordTaken s).setLink x) htrigger hround
  case startNotFound =>
    exact refuses_of_owner exec_startRound fun l s x ⟨htrigger, hround, hwindow⟩ =>
      ownStartRound_of_no_window (s := (recordTaken s).setLink x) htrigger hround (roleWindow_eq_none_iff.mpr hwindow)
  case stopVisiting =>
    exact carriesOut_of_owner exec_stopRound fun l s x ⟨hround, hzone⟩ =>
      ownStopRound_of_visiting (s := (recordTaken s).setLink x) hround hzone
  case stopResting =>
    exact carriesOut_of_owner exec_stopRound fun l s x ⟨hround, hzone⟩ =>
      ownStopRound_of_resting (s := (recordTaken s).setLink x) hround hzone
  case stopNotRunning =>
    exact carriesOut_of_owner exec_stopRound fun l s x hround =>
      ownStopRound_of_not_running (s := (recordTaken s).setLink x) hround

end Sys2Proof.Machine
end

section
/-! PROOFS. The two guest budget commands (R153, R163): how the staged settings are read from a record, and what the
latch's owner does with a SET and with a CLEAR latch. -/

namespace Sys2Proof.Machine

open Sys2Proof Sys2Proof.Safety

theorem exec_setGuestBudget (t : Fin 64) (s : State) :
    exec (.setGuestBudget t) s = .next (takeCommand t 0x0060 ownSetGuestBudget s) := rfl

theorem exec_clearGuestLatch (t : Fin 64) (s : State) :
    exec (.clearGuestLatch t) s = .next (takeCommand t 0x0061 ownClearGuestLatch s) := rfl

/-! ### The settings of the guest budget (R153) -/

theorem GuestMode.ofCode_code (m : GuestMode) : GuestMode.ofCode m.code = some m := by
  cases m <;> rfl

theorem GuestMode.ofCode_eq_none {c : Nat} (h : 3 ≤ c) : GuestMode.ofCode c = none := by
  obtain ⟨d, rfl⟩ := Nat.exists_eq_add_of_le' h
  rfl

/-- R153: settings with a defined mode are read with the soft budget clamped to the hard one and the pace to 255. -/
theorem readGuest_of_code {n : Nat} {b : BitVec n} {o : Nat} {mode : GuestMode} (h : getField b o 1 = mode.code) :
    readGuest b o =
      some { mode := mode, hard := getField b (o + 2) 2, soft := min (getField b (o + 4) 2) (getField b (o + 2) 2)
             pace := min (getField b (o + 6) 2) 255, fault := getField b (o + 1) 1 } := by
  simp [readGuest, h, GuestMode.ofCode_code]

theorem readGuest_of_undefined {n : Nat} {b : BitVec n} {o : Nat} (h : 3 ≤ getField b o 1) : readGuest b o = none := by
  simp [readGuest, GuestMode.ofCode_eq_none h]

/-! ### SET_GUEST_BUDGET (R153) -/

theorem ownSetGuestBudget_of_read {l : Line} {g : GuestSettings} (s : State) (h : readGuest l 4 = some g) :
    ownSetGuestBudget l s = (s.setGuest { s.guest with staged := some g }, none) := by
  simp [ownSetGuestBudget, h]

theorem ownSetGuestBudget_of_unread {l : Line} (s : State) (h : readGuest l 4 = none) :
    ownSetGuestBudget l s = (s, some .badArg) := by
  simp [ownSetGuestBudget, h]

/-! ### CLEAR_GUEST_LATCH (R163) -/

theorem ownClearGuestLatch_of_set (l : Line) {s : State} (h : s.guest.latch ≠ none) :
    ownClearGuestLatch l s = (reported (.guestCleared s.guest.usage) (s.setGuest { s.guest with latch := none }), none) := by
  simp [ownClearGuestLatch, h, arise_eq_reported]

theorem ownClearGuestLatch_of_clear (l : Line) {s : State} (h : s.guest.latch = none) :
    ownClearGuestLatch l s = (s, none) := by
  simp [ownClearGuestLatch, h]

/-- Settles O35: SET_GUEST_BUDGET is judged by whether its settings can be read, CLEAR_GUEST_LATCH by the latch, which
taking the record (R32, R44) leaves as it stands. -/
theorem guestBudgetStagedAndLatchCleared : Obligations.GuestBudgetStagedAndLatchCleared := by
  unfold Obligations.GuestBudgetStagedAndLatchCleared
  refine ⟨?stage, ?stageBadArg, ?clearSet, ?clearClear⟩
  case stage =>
    intro mode
    exact carriesOut_of_owner exec_setGuestBudget fun l s x hmode =>
      ownSetGuestBudget_of_read ((recordTaken s).setLink x) (readGuest_of_code hmode)
  case stageBadArg =>
    exact refuses_of_owner exec_setGuestBudget fun l s x hmode =>
      ownSetGuestBudget_of_unread ((recordTaken s).setLink x) (readGuest_of_undefined hmode)
  case clearSet =>
    refine carriesOut_of_owner exec_clearGuestLatch fun l s x hlatch => ?_
    rw [ownClearGuestLatch_of_set l (s := (recordTaken s).setLink x) hlatch, ← reported_setLink]
    rfl
  case clearClear =>
    exact carriesOut_of_owner exec_clearGuestLatch fun l s x hlatch =>
      ownClearGuestLatch_of_clear l (s := (recordTaken s).setLink x) hlatch

end Sys2Proof.Machine
end

section
/-! PROOFS. The rules of a bank's state change: bank records and the windows of the journal roles, written one after the
other (R24, R25, R167), whatever the outstanding requests. -/

namespace Sys2Proof.Machine

open Sys2Proof Sys2Proof.Safety

/-! ### The codes of banks and carry modes (section 12.4) -/

theorem Bank.ofCode_code (bk : Bank) : Bank.ofCode bk.code = some bk := by
  cases bk <;> rfl

theorem Bank.ofCode_eq_none {c : Nat} (h : 2 ≤ c) : Bank.ofCode c = none := by
  obtain ⟨d, rfl⟩ := Nat.exists_eq_add_of_le' h
  rfl

theorem CarryMode.ofCode_code (m : CarryMode) : CarryMode.ofCode m.code = some m := by
  cases m <;> rfl

theorem CarryMode.ofCode_eq_none {c : Nat} (h : 2 ≤ c) : CarryMode.ofCode c = none := by
  obtain ⟨d, rfl⟩ := Nat.exists_eq_add_of_le' h
  rfl

theorem CarryMode.exists_of_code_lt {c : Nat} (h : c < 2) : ∃ m, CarryMode.ofCode c = some m := by
  interval_cases c <;> exact ⟨_, rfl⟩

/-! ### Bank records -/

@[simp] theorem getBank_setBank (bk : Bank) (r : BankRecord) (s : State) : getBank (setBank bk r s).journal bk = r := by
  cases bk <;> rfl

@[simp] theorem setBank_setBank (bk : Bank) (r r' : BankRecord) (s : State) :
    setBank bk r' (setBank bk r s) = setBank bk r' s := by
  cases bk <;> rfl

theorem setBank_setLink (bk : Bank) (r : BankRecord) (s : State) (x : LinkState) :
    setBank bk r (s.setLink x) = (setBank bk r s).setLink x := by
  cases bk <;> rfl

theorem setRetained_setLink (bk : Bank) (r : RetainedBank) (s : State) (x : LinkState) :
    setRetained bk r (s.setLink x) = (setRetained bk r s).setLink x := by
  cases bk <;> rfl

/-- The working bank record and the retained copies are written in either order. -/
theorem setBank_setRetained (bk bk' : Bank) (r : BankRecord) (q : RetainedBank) (s : State) :
    setBank bk r (setRetained bk' q s) = setRetained bk' q (setBank bk r s) := by
  cases bk <;> cases bk' <;> rfl

/-! ### The window of a role -/

/-- The window of a role is found at the same place after a change that keeps its role and its enabled flag (R20). -/
theorem roleIndex_vput {ws : Vector Window 16} {i : Fin 16} {w : Window} (henabled : w.enabled = ws[i].enabled)
    (hrole : w.role = ws[i].role) (r : Role) : roleIndex (vput ws i w) r = roleIndex ws r := by
  unfold roleIndex
  congr 1
  funext j
  by_cases hij : i = j
  · subst hij
    simp [vput, henabled, hrole]
  · have hne : (i : Nat) ≠ j := fun h => hij (Fin.ext h)
    simp [vput, hne]

theorem updateRoleWindow_of_some {s : State} {r : Role} {i : Fin 16} (h : roleIndex s.guard.windows r = some i)
    (f : Window → Window) :
    updateRoleWindow r f s = s.setGuard { s.guard with windows := vput s.guard.windows i (f s.guard.windows[i]) } := by
  simp [updateRoleWindow, h]

theorem updateRoleWindow_of_none {s : State} {r : Role} (h : roleIndex s.guard.windows r = none) (f : Window → Window) :
    updateRoleWindow r f s = s := by
  simp [updateRoleWindow, h]

theorem updateRoleWindow_setLink (r : Role) (f : Window → Window) (s : State) (x : LinkState) :
    updateRoleWindow r f (s.setLink x) = (updateRoleWindow r f s).setLink x := by
  simp only [updateRoleWindow, State.setLink_guard]
  split <;> rfl

theorem setBank_updateRoleWindow (bk : Bank) (q : BankRecord) (r : Role) (f : Window → Window) (s : State) :
    setBank bk q (updateRoleWindow r f s) = updateRoleWindow r f (setBank bk q s) := by
  simp only [updateRoleWindow, setBank_guard]
  split
  · cases bk <;> rfl
  · rfl

/-- Two changes of a role's window, the first of which keeps its role and its enabled flag, are one change. -/
theorem updateRoleWindow_updateRoleWindow {f : Window → Window} (hf : ∀ w, (f w).enabled = w.enabled ∧ (f w).role = w.role)
    (r : Role) (g : Window → Window) (s : State) :
    updateRoleWindow r g (updateRoleWindow r f s) = updateRoleWindow r (fun w => g (f w)) s := by
  cases hi : roleIndex s.guard.windows r with
  | none => simp [updateRoleWindow_of_none hi]
  | some i =>
    have hkept : roleIndex (updateRoleWindow r f s).guard.windows r = some i := by
      rw [updateRoleWindow_of_some hi, State.setGuard_guard, roleIndex_vput (hf _).1 (hf _).2, hi]
    rw [updateRoleWindow_of_some hkept, updateRoleWindow_of_some hi, updateRoleWindow_of_some hi]
    simp [State.setGuard, vput]

/-! ### A bank's state with its WAN rights (R24, R25, R167) -/

/-- A bank passes to a state after its WAN rights were set: one change of its record and one of its window. -/
theorem setBankState_setWanRights (bk : Bank) (st : BankState) (r : Rights) (s : State) :
    setBankState bk st (setWanRights bk r s) =
      updateRoleWindow bk.role (fun w => { w with rights := { w.rights with wan := r }, writeProtect := st.protects })
        (setBank bk { getBank s.journal bk with state := st } s) := by
  unfold setBankState setWanRights
  rw [updateRoleWindow_journal, setBank_updateRoleWindow, updateRoleWindow_updateRoleWindow]
  · rfl
  · exact fun _ => ⟨rfl, rfl⟩

end Sys2Proof.Machine
end

section
/-! PROOFS. The commands that close a day (R170, R172, R173): what the end test makes of a close, that an accepted close is
`closeBegun`, and what each owner answers by the day phase. -/

namespace Sys2Proof.Machine

open Sys2Proof Sys2Proof.Safety

theorem exec_closeDay (t : Fin 64) (s : State) :
    exec (.closeDay t) s = .next (takeCommand t 0x0071 ownCloseDay s) := rfl

theorem exec_closeNow (t : Fin 64) (s : State) :
    exec (.closeNow t) s = .next (takeCommand t 0x0072 ownCloseNow s) := rfl

/-! ### The end test (R173) -/

theorem mem_tills : ∀ t : Fin 32, t ∈ tills := by decide

theorem suspendSet_eq_nil_iff {j : JournalState} : suspendSet j = [] ↔ ∀ t : Fin 32, j.contexts[t].state = .idle := by
  have hidle : ∀ x : TillState, ¬x = .inTxn ↔ x = .idle := by
    intro x
    cases x <;> simp
  simp [suspendSet, mem_tills, hidle]

/-- R173: in CLOSING the end test begins the switch exactly when the grace is 0 or no till is IN_TXN. -/
theorem endTest_of_closing {s : State} (h : s.day.phase = .closing) :
    endTest s = s.setDay { s.day with
      phase := if s.day.grace = 0 ∨ ∀ t : Fin 32, s.journal.contexts[t].state = .idle then .switching else .closing } := by
  by_cases hends : s.day.grace = 0 ∨ ∀ t : Fin 32, s.journal.contexts[t].state = .idle
  · have hpass : suspendSet s.journal = [] ∨ s.day.grace = 0 := hends.symm.imp_left suspendSet_eq_nil_iff.mpr
    rw [if_pos hends, endTest, if_pos ⟨h, hpass⟩]
  · have hfail : ¬(suspendSet s.journal = [] ∨ s.day.grace = 0) := fun hpass =>
      hends (hpass.symm.imp_right suspendSet_eq_nil_iff.mp)
    rw [if_neg hends, endTest, if_neg (fun hboth => hfail hboth.2), ← h]
    rfl

/-! ### An accepted close (R170) -/

theorem arise_setDay (b : ReportBody) (s : State) (d : DayState) : arise b (s.setDay d) = (reported b s).setDay d := by
  by_cases h : s.reports.pending.length < 16 <;> simp [arise_eq_reported, reported, State.setDay, h]

@[simp] theorem reported_day (b : ReportBody) (s : State) : (reported b s).day = s.day := by
  unfold reported
  split <;> rfl

@[simp] theorem reported_journal (b : ReportBody) (s : State) : (reported b s).journal = s.journal := by
  unfold reported
  split <;> rfl

@[simp] theorem setBank_contexts (bk : Bank) (r : BankRecord) (s : State) :
    (setBank bk r s).journal.contexts = s.journal.contexts := by
  cases bk <;> rfl

theorem acceptClose_eq_closeBegun (bk : Bank) (grace : Nat) (mode : CarryMode) (timed : Bool) (s : State) :
    acceptClose bk grace mode timed s = closeBegun bk grace mode timed s := by
  simp only [acceptClose]
  rw [arise_setDay, endTest_of_closing rfl]
  simp [closeBegun, setBankState, BankState.protects, State.setDay]

theorem closeBegun_setLink (bk : Bank) (grace : Nat) (mode : CarryMode) (timed : Bool) (s : State) (x : LinkState) :
    closeBegun bk grace mode timed (s.setLink x) = (closeBegun bk grace mode timed s).setLink x := by
  simp only [closeBegun, State.setLink_journal, setBank_setLink, updateRoleWindow_setLink, reported_setLink]
  rfl

/-! ### CLOSE_DAY (R170) -/

theorem ownCloseDay_of_undefined {l : Line} (s : State) (h : 2 ≤ getField l 6 1) :
    ownCloseDay l s = (s, some .badArg) := by
  simp [ownCloseDay, CarryMode.ofCode_eq_none h]

theorem ownCloseDay_of_noDay {l : Line} {s : State} (hcode : getField l 6 1 < 2) (hphase : s.day.phase = .noDay) :
    ownCloseDay l s = (s, some .wrongState) := by
  obtain ⟨mode, hmode⟩ := CarryMode.exists_of_code_lt hcode
  simp [ownCloseDay, hmode, hphase]

theorem ownCloseDay_of_ending {l : Line} {s : State} (hcode : getField l 6 1 < 2)
    (hphase : s.day.phase = .closing ∨ s.day.phase = .switching) : ownCloseDay l s = (s, some .busy) := by
  obtain ⟨mode, hmode⟩ := CarryMode.exists_of_code_lt hcode
  rcases hphase with hclosing | hswitching
  · simp [ownCloseDay, hmode, hclosing]
  · simp [ownCloseDay, hmode, hswitching]

/-- R170: in DAY_OPEN the first test that the open bank fails is the refusal. -/
theorem ownCloseDay_of_closeFailure {l : Line} {s : State} {bk : Bank} {c : RefusalCode} (hcode : getField l 6 1 < 2)
    (hphase : s.day.phase = .dayOpen) (hopen : s.day.openBank = some bk) (hfail : closeFailure s bk = some c) :
    ownCloseDay l s = (s, some c) := by
  obtain ⟨mode, hmode⟩ := CarryMode.exists_of_code_lt hcode
  simp [ownCloseDay, hmode, hphase, closeOpenBank, hopen, hfail]

theorem ownCloseDay_of_accepted {l : Line} {s : State} {bk : Bank} {mode : CarryMode}
    (hmode : getField l 6 1 = mode.code) (hphase : s.day.phase = .dayOpen) (hopen : s.day.openBank = some bk)
    (haccept : closeFailure s bk = none) :
    ownCloseDay l s = (closeBegun bk (min (getField l 4 2) 3600) mode false s, none) := by
  simp [ownCloseDay, hmode, CarryMode.ofCode_code, hphase, closeOpenBank, hopen, haccept, acceptClose_eq_closeBegun,
    Config.maxGrace]

/-! ### The three tests of a close (R170) -/

theorem closeFailure_of_empty {s : State} {bk : Bank} (h : (getBank s.journal bk).cursor = 0) :
    closeFailure s bk = some .wrongState := by
  simp [closeFailure, h]

theorem closeFailure_of_other_busy {s : State} {bk : Bank} (hcursor : (getBank s.journal bk).cursor ≠ 0)
    (hother : (getBank s.journal bk.other).state ≠ .idle) : closeFailure s bk = some .otherBankBusy := by
  simp [closeFailure, hcursor, hother]

theorem closeFailure_of_no_window {s : State} {bk : Bank} (hcursor : (getBank s.journal bk).cursor ≠ 0)
    (hother : (getBank s.journal bk.other).state = .idle) (hwindow : hasJournalWindow s bk.other = false) :
    closeFailure s bk = some .notFound := by
  simp [closeFailure, hcursor, hother, hwindow]

theorem closeFailure_eq_none {s : State} {bk : Bank} (hcursor : (getBank s.journal bk).cursor ≠ 0)
    (hother : (getBank s.journal bk.other).state = .idle) (hwindow : hasJournalWindow s bk.other = true) :
    closeFailure s bk = none := by
  simp [closeFailure, hcursor, hother, hwindow]

/-! ### CLOSE_NOW (R172) -/

/-- R172: with its grace ended, the close passes the end test whatever the tills. -/
theorem ownCloseNow_of_closing (l : Line) {s : State} (h : s.day.phase = .closing) :
    ownCloseNow l s = (s.setDay { s.day with phase := .switching, grace := 0 }, none) := by
  rw [ownCloseNow, if_pos h, endTest_of_closing (s := s.setDay { s.day with grace := 0 }) h]
  simp [State.setDay]

theorem ownCloseNow_of_not_closing (l : Line) {s : State} (h : s.day.phase ≠ .closing) :
    ownCloseNow l s = (s, some .wrongState) := by
  simp [ownCloseNow, h]

/-- Settles O37: each clause is the answer of the command's owner in its day phase, and in DAY_OPEN by the first test that
the open bank fails, which taking the record (R32, R44) leaves as they stand. -/
theorem closeDayAndCloseNow : Obligations.CloseDayAndCloseNow := by
  unfold Obligations.CloseDayAndCloseNow
  refine ⟨?close, ?closeBadArg, ?closeNoDay, ?closeEnding, fun bk => ⟨?closeEmpty, ?closeOtherBusy, ?closeNoWindow⟩, ?now,
    ?nowNotClosing⟩
  case close =>
    refine fun bk mode => carriesOut_of_owner exec_closeDay
      fun l s x ⟨hmode, hphase, hopen, hcursor, hother, hwindow⟩ => ?_
    rw [← closeBegun_setLink]
    exact ownCloseDay_of_accepted hmode hphase hopen (closeFailure_eq_none hcursor hother hwindow)
  case closeBadArg =>
    exact refuses_of_owner exec_closeDay fun l s x hcode => ownCloseDay_of_undefined _ hcode
  case closeNoDay =>
    exact refuses_of_owner exec_closeDay fun l s x ⟨hcode, hphase⟩ =>
      ownCloseDay_of_noDay (s := (recordTaken s).setLink x) hcode hphase
  case closeEnding =>
    exact refuses_of_owner exec_closeDay fun l s x ⟨hcode, hphase⟩ =>
      ownCloseDay_of_ending (s := (recordTaken s).setLink x) hcode hphase
  case closeEmpty =>
    exact refuses_of_owner exec_closeDay fun l s x ⟨hcode, hphase, hopen, hcursor⟩ =>
      ownCloseDay_of_closeFailure (s := (recordTaken s).setLink x) hcode hphase hopen (closeFailure_of_empty hcursor)
  case closeOtherBusy =>
    exact refuses_of_owner exec_closeDay fun l s x ⟨hcode, hphase, hopen, hcursor, hother⟩ =>
      ownCloseDay_of_closeFailure (s := (recordTaken s).setLink x) hcode hphase hopen
        (closeFailure_of_other_busy hcursor hother)
  case closeNoWindow =>
    exact refuses_of_owner exec_closeDay fun l s x ⟨hcode, hphase, hopen, hcursor, hother, hwindow⟩ =>
      ownCloseDay_of_closeFailure (s := (recordTaken s).setLink x) hcode hphase hopen
        (closeFailure_of_no_window hcursor hother hwindow)
  case now =>
    exact carriesOut_of_owner exec_closeNow fun l s x hphase =>
      ownCloseNow_of_closing l (s := (recordTaken s).setLink x) hphase
  case nowNotClosing =>
    exact refuses_of_owner exec_closeNow fun l s x hphase =>
      ownCloseNow_of_not_closing l (s := (recordTaken s).setLink x) hphase

end Sys2Proof.Machine
end

section
/-! PROOFS. EXPORT_BEGIN, EXPORT_COMPLETE and EXPORT_ABORT (R178, R182, R183): the WAN rights lent and given back as
one change of the bank's record and window, and what each owner answers by the state of the bank it names. -/

namespace Sys2Proof.Machine

open Sys2Proof Sys2Proof.Safety

theorem exec_exportBegin (t : Fin 64) (s : State) :
    exec (.exportBegin t) s = .next (takeCommand t 0x0073 ownExportBegin s) := rfl

theorem exec_exportComplete (t : Fin 64) (s : State) :
    exec (.exportComplete t) s = .next (takeCommand t 0x0074 ownExportComplete s) := rfl

theorem exec_exportAbort (t : Fin 64) (s : State) :
    exec (.exportAbort t) s = .next (takeCommand t 0x0075 ownExportAbort s) := rfl

/-! ### The rights lent and given back (R25, R178, R182, R183) -/

theorem beginExport_eq (bk : Bank) (w : Window) (s : State) :
    beginExport bk w s =
      updateRoleWindow bk.role (fun v => { v with rights := { v.rights with wan := .read }, writeProtect := true })
        (setBank bk { getBank s.journal bk with
          state := .exporting, savedWan := w.rights.wan, exportCursor := 0
          exportChain := (getBank s.journal bk).seed } s) := by
  simp [beginExport, setBankState_setWanRights, BankState.protects]

theorem endExport_eq (bk : Bank) (st : BankState) (s : State) :
    endExport bk st s =
      updateRoleWindow bk.role
        (fun v => { v with rights := { v.rights with wan := (getBank s.journal bk).savedWan }, writeProtect := st.protects })
        (setBank bk { getBank s.journal bk with state := st } s) :=
  setBankState_setWanRights bk st _ s

/-- R109, R182: the totals are cleared in the working record and in its retained copy. -/
theorem completeExport_eq (bk : Bank) (s : State) :
    completeExport bk s =
      updateRoleWindow bk.role
        (fun v => { v with rights := { v.rights with wan := (getBank s.journal bk).savedWan }, writeProtect := true })
        (setRetained bk
          { cursor := (getBank s.journal bk).cursor, lastIndex := (getBank s.journal bk).lastIndex
            running := (getBank s.journal bk).running, totals := {} }
          (setBank bk { getBank s.journal bk with state := .idle, totals := {} } s)) := by
  simp [completeExport, endExport_eq, retainBank, setBank_setRetained, BankState.protects]

/-! ### EXPORT_BEGIN (R178) -/

theorem ownExportBegin_of_undefined {l : Line} (s : State) (h : 2 ≤ getField l 4 1) :
    ownExportBegin l s = (s, some .badArg) := by
  simp [ownExportBegin, Bank.ofCode_eq_none h]

theorem ownExportBegin_of_not_closed {l : Line} {s : State} {bk : Bank} (hcode : getField l 4 1 = bk.code)
    (hstate : (getBank s.journal bk).state ≠ .closed) : ownExportBegin l s = (s, some .wrongState) := by
  simp [ownExportBegin, hcode, Bank.ofCode_code, hstate]

theorem ownExportBegin_of_no_window {l : Line} {s : State} {bk : Bank} (hcode : getField l 4 1 = bk.code)
    (hstate : (getBank s.journal bk).state = .closed) (hwindow : hasJournalWindow s bk = false) :
    ownExportBegin l s = (s, some .notFound) := by
  have hnone : roleWindow s.guard.windows bk.role = none := by simpa [hasJournalWindow] using hwindow
  simp [ownExportBegin, hcode, Bank.ofCode_code, hstate, hnone]

theorem ownExportBegin_of_closed {l : Line} {s : State} {bk : Bank} (hcode : getField l 4 1 = bk.code)
    (hstate : (getBank s.journal bk).state = .closed) (hwindow : hasJournalWindow s bk = true) :
    ownExportBegin l s =
      (beginExport bk ((roleWindow s.guard.windows bk.role).getD Window.disabled) s, none) := by
  obtain ⟨w, hw⟩ := Option.isSome_iff_exists.mp hwindow
  simp [ownExportBegin, hcode, Bank.ofCode_code, hstate, hw]

/-! ### EXPORT_COMPLETE (R182) -/

theorem ownExportComplete_of_undefined {l : Line} (s : State) (h : 2 ≤ getField l 4 1) :
    ownExportComplete l s = (s, some .badArg) := by
  simp [ownExportComplete, Bank.ofCode_eq_none h]

theorem ownExportComplete_of_verified {l : Line} {s : State} {bk : Bank} (hcode : getField l 4 1 = bk.code)
    (hstate : (getBank s.journal bk).state = .verified) : ownExportComplete l s = (completeExport bk s, none) := by
  simp [ownExportComplete, hcode, Bank.ofCode_code, hstate]

theorem ownExportComplete_of_exporting {l : Line} {s : State} {bk : Bank} (hcode : getField l 4 1 = bk.code)
    (hstate : (getBank s.journal bk).state = .exporting) : ownExportComplete l s = (s, some .notVerified) := by
  simp [ownExportComplete, hcode, Bank.ofCode_code, hstate]

/-- With EXPORTING and VERIFIED excluded, the owner's match is left with its last row. -/
theorem ownExportComplete_of_other {l : Line} {s : State} {bk : Bank} (hcode : getField l 4 1 = bk.code)
    (hexporting : (getBank s.journal bk).state ≠ .exporting) (hverified : (getBank s.journal bk).state ≠ .verified) :
    ownExportComplete l s = (s, some .wrongState) := by
  simp [ownExportComplete, hcode, Bank.ofCode_code]

/-! ### EXPORT_ABORT (R183) -/

theorem ownExportAbort_of_undefined {l : Line} (s : State) (h : 2 ≤ getField l 4 1) :
    ownExportAbort l s = (s, some .badArg) := by
  simp [ownExportAbort, Bank.ofCode_eq_none h]

theorem ownExportAbort_of_under_export {l : Line} {s : State} {bk : Bank} (hcode : getField l 4 1 = bk.code)
    (hstate : (getBank s.journal bk).state = .exporting ∨ (getBank s.journal bk).state = .verified) :
    ownExportAbort l s = (endExport bk .closed s, none) := by
  rcases hstate with hexporting | hverified
  · simp [ownExportAbort, hcode, Bank.ofCode_code, hexporting]
  · simp [ownExportAbort, hcode, Bank.ofCode_code, hverified]

/-- With EXPORTING and VERIFIED excluded, the owner's match is left with its last row. -/
theorem ownExportAbort_of_other {l : Line} {s : State} {bk : Bank} (hcode : getField l 4 1 = bk.code)
    (hexporting : (getBank s.journal bk).state ≠ .exporting) (hverified : (getBank s.journal bk).state ≠ .verified) :
    ownExportAbort l s = (s, some .wrongState) := by
  simp [ownExportAbort, hcode, Bank.ofCode_code]

/-- Settles O38: each clause is the answer of the command's owner by the state of the named bank, which taking the record
(R32, R44) leaves as it stands; what an owner changes is one change of the bank's record and one of its window. -/
theorem exportCommandsLendAndRestoreRights : Obligations.ExportCommandsLendAndRestoreRights := by
  unfold Obligations.ExportCommandsLendAndRestoreRights
  refine ⟨fun bk => ⟨?begin, ?complete, ?abort, ?beginWrongState, ?beginNotFound, ?completeNotVerified,
    ?completeWrongState, ?abortWrongState⟩, ?beginBadArg, ?completeBadArg, ?abortBadArg⟩
  case begin =>
    refine carriesOut_of_owner exec_exportBegin fun l s x ⟨hcode, hstate, hwindow⟩ => ?_
    rw [ownExportBegin_of_closed (s := (recordTaken s).setLink x) hcode hstate hwindow, beginExport_eq, setBank_setLink,
      updateRoleWindow_setLink]
    rfl
  case complete =>
    refine carriesOut_of_owner exec_exportComplete fun l s x ⟨hcode, hstate⟩ => ?_
    rw [ownExportComplete_of_verified (s := (recordTaken s).setLink x) hcode hstate, completeExport_eq, setBank_setLink,
      setRetained_setLink, updateRoleWindow_setLink]
    rfl
  case abort =>
    refine carriesOut_of_owner exec_exportAbort fun l s x ⟨hcode, hstate⟩ => ?_
    rw [ownExportAbort_of_under_export (s := (recordTaken s).setLink x) hcode hstate, endExport_eq, setBank_setLink,
      updateRoleWindow_setLink]
    rfl
  case beginWrongState =>
    exact refuses_of_owner exec_exportBegin fun l s x ⟨hcode, hstate⟩ =>
      ownExportBegin_of_not_closed (s := (recordTaken s).setLink x) hcode hstate
  case beginNotFound =>
    exact refuses_of_owner exec_exportBegin fun l s x ⟨hcode, hstate, hwindow⟩ =>
      ownExportBegin_of_no_window (s := (recordTaken s).setLink x) hcode hstate hwindow
  case completeNotVerified =>
    exact refuses_of_owner exec_exportComplete fun l s x ⟨hcode, hstate⟩ =>
      ownExportComplete_of_exporting (s := (recordTaken s).setLink x) hcode hstate
  case completeWrongState =>
    exact refuses_of_owner exec_exportComplete fun l s x ⟨hcode, hexporting, hverified⟩ =>
      ownExportComplete_of_other (s := (recordTaken s).setLink x) hcode hexporting hverified
  case abortWrongState =>
    exact refuses_of_owner exec_exportAbort fun l s x ⟨hcode, hexporting, hverified⟩ =>
      ownExportAbort_of_other (s := (recordTaken s).setLink x) hcode hexporting hverified
  case beginBadArg =>
    exact refuses_of_owner exec_exportBegin fun l s x hcode => ownExportBegin_of_undefined _ hcode
  case completeBadArg =>
    exact refuses_of_owner exec_exportComplete fun l s x hcode => ownExportComplete_of_undefined _ hcode
  case abortBadArg =>
    exact refuses_of_owner exec_exportAbort fun l s x hcode => ownExportAbort_of_undefined _ hcode

end Sys2Proof.Machine
end

section
/-! PROOFS. What the watch table, the rounds and the reports can do: one relation, `WatchSide`, that every operation on them
keeps within, so that the invariants of the other blocks pass through such an operation in one step. -/

namespace Sys2Proof.Machine

open Sys2Proof Sys2Proof.Safety

/-! ### The relation -/

/-- From `s` to `s'` nothing changed but the reports, the Price Watch outside its capture queue, and the Label Sequencer;
the pending queue and the watch table keep their bounds, and the items of the table stay distinct (R48, R123). -/
structure WatchSide (s s' : State) : Prop where
  same : s' = { s with reports := s'.reports, price := s'.price, label := s'.label }
  queue : s'.price.queue = s.price.queue
  reports : s.reports.pending.length ≤ 16 → s'.reports.pending.length ≤ 16
  table : s.price.table.length ≤ 256 → s'.price.table.length ≤ 256
  items : ItemsDistinct s → ItemsDistinct s'

theorem WatchSide.refl (s : State) : WatchSide s s := ⟨rfl, rfl, id, id, id⟩

theorem WatchSide.trans {a b c : State} (h : WatchSide a b) (g : WatchSide b c) : WatchSide a c where
  same := by have := g.same; rw [h.same] at this; exact this
  queue := g.queue.trans h.queue
  reports := g.reports ∘ h.reports
  table := g.table ∘ h.table
  items := g.items ∘ h.items

theorem WatchSide.link {s s' : State} (h : WatchSide s s') : s'.link = s.link := by rw [h.same]
theorem WatchSide.guard {s s' : State} (h : WatchSide s s') : s'.guard = s.guard := by rw [h.same]
theorem WatchSide.mem {s s' : State} (h : WatchSide s s') : s'.mem = s.mem := by rw [h.same]
theorem WatchSide.journal {s s' : State} (h : WatchSide s s') : s'.journal = s.journal := by rw [h.same]
theorem WatchSide.guest {s s' : State} (h : WatchSide s s') : s'.guest = s.guest := by rw [h.same]
theorem WatchSide.loader {s s' : State} (h : WatchSide s s') : s'.loader = s.loader := by rw [h.same]

/-- The same, the later operation first. -/
theorem WatchSide.after {a b c : State} (g : WatchSide b c) (h : WatchSide a b) : WatchSide a c := h.trans g

theorem WatchSide.ite {c : Prop} [Decidable c] {s a b : State} (h : WatchSide s a) (g : WatchSide s b) :
    WatchSide s (if c then a else b) := by
  split
  · exact h
  · exact g

/-- A fold of such operations. -/
theorem WatchSide.foldl {α : Type} {f : State → α → State} (hf : ∀ s x, WatchSide s (f s x)) (xs : List α) (s : State) :
    WatchSide s (xs.foldl f s) := by
  induction xs generalizing s with
  | nil => exact .refl s
  | cons x xs ih => exact (hf s x).trans (ih (f s x))

/-! ### Reports and the Label Sequencer -/

theorem watchSide_setLabel (s : State) (x : LabelState) : WatchSide s (s.setLabel x) := ⟨rfl, rfl, id, id, id⟩

/-- A change of the reports that leaves the pending queue within its bound. -/
theorem watchSide_setReports {s : State} {x : ReportState}
    (h : s.reports.pending.length ≤ 16 → x.pending.length ≤ 16) : WatchSide s (s.setReports x) := ⟨rfl, rfl, h, id, id⟩

theorem watchSide_arise (b : ReportBody) (s : State) : WatchSide s (arise b s) := by
  rcases arise_cases b s with ⟨hlt, h⟩ | ⟨_, h⟩ <;> rw [h]
  · exact watchSide_setReports (fun _ => by simp; omega)
  · exact watchSide_setReports id

theorem watchSide_evalIrq (s : State) : WatchSide s (evalIrq s) := watchSide_setReports id

theorem watchSide_reportFlagged (bk : Bank) (i t q k : Nat) (f : Word32) (s : State) :
    WatchSide s (reportFlagged bk i t q k f s) := by
  unfold reportFlagged
  split
  · exact watchSide_arise _ s
  · exact .refl s

theorem watchSide_endRound (b : Bool) (s : State) : WatchSide s (endRound b s) :=
  (watchSide_arise _ s).trans (watchSide_setLabel _ _)

theorem watchSide_closeVisit (z : Fin 16) (s : State) : WatchSide s (closeVisit z s) :=
  (watchSide_setLabel s _).trans (watchSide_setLabel _ _)

theorem watchSide_visitZones (zs : List (Fin 16)) (s : State) : WatchSide s (visitZones zs s) := by
  induction zs generalizing s with
  | nil => exact watchSide_endRound false s
  | cons z rest ih =>
    have hopen : WatchSide s (openVisit z s) := watchSide_setLabel s _
    simp only [visitZones]
    split
    · exact (hopen.trans (watchSide_closeVisit z _)).trans (ih _)
    · exact hopen.trans (watchSide_setLabel _ _)

theorem watchSide_startRound (s : State) : WatchSide s (startRound s) :=
  (watchSide_setLabel s _).trans (watchSide_visitZones _ _)

theorem watchSide_endVisit (s : State) : WatchSide s (endVisit s) := by
  unfold endVisit
  split
  · exact .refl s
  · rename_i z _
    have hclose := watchSide_closeVisit z s
    dsimp only
    split
    · exact hclose.trans (watchSide_endRound _ _)
    · exact hclose.trans (watchSide_visitZones _ _)

theorem watchSide_visitDone (s : State) : WatchSide s (visitDone s) := by
  unfold visitDone
  split
  · exact .refl s
  · split
    · exact (watchSide_arise _ s).trans (watchSide_endVisit _)
    · exact .refl s

theorem watchSide_leaveAwaited (item : Nat) (b : Bool) (s : State) : WatchSide s (leaveAwaited item b s) := by
  unfold leaveAwaited
  split
  · exact (watchSide_setLabel s _).trans (watchSide_visitDone _)
  · exact .refl s

theorem watchSide_labelBoundary (s : State) : WatchSide s (labelBoundary s) := by
  unfold labelBoundary
  split
  · exact .refl s
  · split
    · exact watchSide_setLabel s _
    · split
      · exact watchSide_startRound s
      · exact .refl s

/-! ### The watch table -/

/-- A change of the Price Watch that keeps its capture queue, and whose table lists no more items than before. -/
theorem watchSide_setPrice {s : State} {x : PriceState} (hq : x.queue = s.price.queue)
    (ht : (x.table.map (fun e => e.item)).Sublist (s.price.table.map (fun e => e.item))) : WatchSide s (s.setPrice x) where
  same := rfl
  queue := hq
  reports := id
  table := fun h => by have := ht.length_le; simp only [List.length_map] at this; exact this.trans h
  items := fun h => ht.nodup h

/-- A change of entries that keeps their item codes keeps the list of the table's items. -/
theorem items_sublist_map (t : List WatchEntry) {f : WatchEntry → WatchEntry} (hf : ∀ e, (f e).item = e.item) :
    ((t.map f).map (fun e => e.item)).Sublist (t.map (fun e => e.item)) := by
  simp [Function.comp_def, hf]

theorem watchSide_updateEntry {item : Nat} {f : WatchEntry → WatchEntry} (hf : ∀ e, e.item = item → (f e).item = item)
    (s : State) : WatchSide s (updateEntry item f s) := by
  refine watchSide_setPrice rfl (items_sublist_map _ fun e => ?_)
  split
  · rename_i h
    rw [hf e h, h]
  · rfl

theorem findEntry_item {s : State} {item : Nat} {e : WatchEntry} (h : findEntry s item = some e) : e.item = item := by
  simpa using List.find?_some h

theorem watchSide_becomeShown (item : Nat) (s : State) : WatchSide s (becomeShown item s) := by
  have hshown : WatchSide s (updateEntry item (fun e => { e with state := .shown, epochSeen := false }) s) :=
    watchSide_updateEntry (fun _ h => by exact h) s
  unfold becomeShown
  dsimp only
  split
  · exact (hshown.trans (watchSide_arise _ _)).trans (watchSide_leaveAwaited _ _ _)
  · exact hshown

theorem watchSide_leaveOut (item : Nat) (s : State) : WatchSide s (leaveOut item s) := by
  unfold leaveOut
  split
  · split
    · exact watchSide_becomeShown item s
    · exact .refl s
  · exact .refl s

theorem watchSide_walk (z : Fin 16) (vs : List VisitItem) (room : Nat) (s : State) :
    WatchSide s (walk z vs room s).2.2 := by
  induction vs generalizing room s with
  | nil => exact .refl s
  | cons v rest ih =>
    unfold walk
    split
    · exact ih room s
    · split
      · exact .refl s
      · split
        · exact ih _ s
        · exact (watchSide_leaveOut v.item s).trans (ih _ _)

theorem watchSide_startWaiting (z : Fin 16) (s : State) : WatchSide s (startWaiting z s) :=
  ((watchSide_setLabel s _).trans (watchSide_setLabel _ _)).trans (watchSide_visitDone _)

theorem watchSide_sendItem (z : Fin 16) (item price : Nat) (s : State) : WatchSide s (sendItem z item price s) := by
  unfold sendItem
  split
  · split
    · exact .after (watchSide_setLabel _ _) (watchSide_updateEntry (fun _ h => by exact h) s)
    · exact .refl s
  · exact .refl s

theorem watchSide_workWritten (w : WorkWrite) (s : State) : WatchSide s (workWritten w s) := by
  have hring : WatchSide s (if w.inRing then advanceLabel (s.setLabel { s.label with writing := none })
      else s.setLabel { s.label with writing := none }) :=
    .ite (.after (watchSide_setLabel _ _) (watchSide_setLabel s _)) (watchSide_setLabel s _)
  unfold workWritten
  dsimp only
  generalize ite (w.inRing = true) _ _ = u at hring ⊢
  split
  · rename_i z _ _
    have hsent : WatchSide s (w.items.foldl (fun s (x : Nat × Nat) => sendItem z x.1 x.2 s)
        (u.setLabel { u.label with recordNo := (u.label.recordNo + 1) % 256 })) :=
      .after (WatchSide.foldl (fun s (x : Nat × Nat) => watchSide_sendItem z x.1 x.2 s) _ _) (hring.trans (watchSide_setLabel _ _))
    exact .ite hsent (hsent.trans (watchSide_startWaiting z _))
  · exact hring

theorem watchSide_timeOutItem (s : State) (item : Nat) : WatchSide s (timeOutItem s item) := by
  unfold timeOutItem
  split
  · have hcount := watchSide_setLabel s { s.label with timedOut := s.label.timedOut + 1 }
    dsimp only
    split
    · exact .after (watchSide_arise _ _) (hcount.trans (watchSide_updateEntry (fun _ h => by exact h) _))
    · exact hcount.trans (watchSide_updateEntry (fun _ h => by exact h) _)
  · exact .refl s

theorem watchSide_zoneTimeout (s : State) : WatchSide s (zoneTimeout s) := by
  unfold zoneTimeout
  split
  · exact ((WatchSide.foldl watchSide_timeOutItem _ s).trans (watchSide_setLabel _ _)).trans (watchSide_visitDone _)
  · exact .refl s

theorem watchSide_observeLabelRead (addr : Nat) (s : State) : WatchSide s (observeLabelRead addr s) := by
  unfold observeLabelRead
  split
  · split
    · exact watchSide_setLabel s _
    · exact .refl s
  · exact .refl s

theorem watchSide_takeAck (a : AckFields) (s : State) : WatchSide s (takeAck a s) := by
  unfold takeAck
  split
  · split
    · have hacked : WatchSide s
          (updateEntry a.item (fun e => { e with acked := e.acked ||| BitVec.ofNat 16 (2 ^ a.facing) }) s) :=
        watchSide_updateEntry (fun _ h => by exact h) s
      dsimp only
      split
      · split
        · exact hacked.trans (watchSide_becomeShown _ _)
        · exact hacked
      · exact hacked
    · exact .refl s
  · exact .refl s

theorem watchSide_unsend (s : State) (item : Nat) : WatchSide s (unsend s item) :=
  watchSide_updateEntry (fun e h => by split <;> exact h) s

/-! ### Departures and the comparison -/

theorem watchSide_removeEntry (item : Nat) (b : ReportBody) (s : State) : WatchSide s (removeEntry item b s) :=
  .after (watchSide_leaveAwaited _ _ _) (.after (watchSide_arise _ _)
    (watchSide_setPrice rfl (List.Sublist.map _ List.filter_sublist)))

theorem watchSide_leaveWithdrawals (item : Nat) (s : State) : WatchSide s (leaveWithdrawals item s) :=
  watchSide_setPrice rfl (List.Sublist.refl _)

theorem watchSide_reassign (item addr : Nat) (s : State) : WatchSide s (reassign item addr s) := by
  unfold reassign
  split
  · split
    · exact .refl s
    · exact (watchSide_updateEntry (f := fun e => { e with exit := .afterWrite addr }) (fun _ h => by exact h) s).trans
        (watchSide_leaveWithdrawals _ _)
  · exact .refl s

theorem copiedEntry_item (e : WatchEntry) (n : PriceFields) (addr : Nat) : (copiedEntry e n addr).item = e.item := by
  unfold copiedEntry
  dsimp only
  split
  · rfl
  · exact apply_ite (fun x : WatchEntry => x.item) _ _ _ |>.trans (ite_self _)
  · rfl

theorem watchSide_copyPrice (e : WatchEntry) (n : PriceFields) (addr : Nat) (s : State) :
    WatchSide s (copyPrice e n addr s) := by
  have hcopied : WatchSide s (updateEntry e.item (fun _ => copiedEntry e n addr) s) :=
    watchSide_updateEntry (fun _ _ => copiedEntry_item e n addr) s
  have hshown : ∀ (c d : Prop) [Decidable c] [Decidable d] (x : LabelState) (u : State), WatchSide s u →
      WatchSide s (if c then becomeShown e.item (if d then u.setLabel x else u) else if d then u.setLabel x else u) :=
    fun c d _ _ x u h =>
      have hout : WatchSide s (if d then u.setLabel x else u) := .ite (h.trans (watchSide_setLabel _ _)) h
      .ite (hout.trans (watchSide_becomeShown _ _)) hout
  unfold copyPrice
  exact .ite (.after (watchSide_visitDone _) (hshown _ _ _ _ hcopied)) (hshown _ _ _ _ hcopied)

/-- R118: an entry of a new item joins the table while it has room. -/
theorem watchSide_tableAppend {s : State} {e : WatchEntry} (hroom : s.price.table.length < 256)
    (hnew : findEntry s e.item = none) : WatchSide s (s.setPrice { s.price with table := s.price.table ++ [e] }) where
  same := rfl
  queue := rfl
  reports := id
  table := fun _ => by simp; omega
  items := fun h => by
    simp only [findEntry, List.find?_eq_none, decide_eq_true_eq] at hnew
    simp only [ItemsDistinct, State.setPrice_price, List.map_append, List.map_cons, List.map_nil] at h ⊢
    rw [List.nodup_append]
    refine ⟨h, by simp, ?_⟩
    rintro a ha b hb rfl
    obtain ⟨x, hx, hxa⟩ := List.mem_map.mp ha
    exact hnew x hx (hxa.trans (List.mem_singleton.mp hb))

theorem watchSide_stagePrice {o n : PriceFields} (addr : Nat) {s : State} (hnew : findEntry s n.item = none) :
    WatchSide s (stagePrice o n addr s).2 := by
  unfold stagePrice
  split
  · exact .refl s
  · split
    · rename_i hroom
      have hstaged := (watchSide_tableAppend (e := { item := n.item, line := addr, oldPrice := o.price, newPrice := n.price, zone := n.zone, facings := n.facings, policy := n.policy, acked := 0, state := .staged, attempts := 0, epochSeen := false, exit := .none }) hroom hnew).trans
        (watchSide_arise (.priceStaged n.item o.price n.price n.zone n.facings none) _)
      dsimp only
      split
      · exact hstaged.trans (watchSide_becomeShown _ _)
      · exact hstaged
    · exact .refl s

theorem restagedEntry_item (e : WatchEntry) (w : Nat) : (restagedEntry e w).item = e.item := by
  unfold restagedEntry
  split <;> rfl

theorem watchSide_restagePrice (e : WatchEntry) (n : PriceFields) (addr : Nat) (s : State) :
    WatchSide s (restagePrice e n addr s) := by
  have hput : ∀ e' : WatchEntry, e'.item = e.item →
      WatchSide s (leaveWithdrawals e.item (updateEntry e.item (fun _ => e') s)) :=
    fun e' h => (watchSide_updateEntry (fun _ _ => h) s).trans (watchSide_leaveWithdrawals _ _)
  unfold restagePrice
  split
  · exact .refl s
  · dsimp only
    split
    · exact hput _ rfl
    · split
      · exact hput _ rfl
      · split
        · exact .after (watchSide_leaveAwaited _ _ _) (.after (watchSide_arise _ _) (hput _ (restagedEntry_item _ _)))
        · exact .after (watchSide_arise _ _) (hput _ (restagedEntry_item _ _))

theorem watchSide_comparePrice (old new : Line) (addr : Nat) (s : State) :
    WatchSide s (comparePrice old new addr s).2 := by
  unfold comparePrice
  dsimp only
  split
  · exact watchSide_reassign _ _ s
  · split
    · split
      · exact watchSide_copyPrice _ _ _ s
      · exact watchSide_restagePrice _ _ _ s
    · rename_i hnew
      split
      · exact .refl s
      · exact watchSide_stagePrice addr hnew

theorem watchSide_epochPass (s : State) : WatchSide s (epochPass s) := by
  unfold epochPass
  refine (WatchSide.foldl (fun s (e : WatchEntry) => watchSide_removeEntry e.item _ s) _ s).trans
    (watchSide_setPrice rfl (items_sublist_map _ fun e => ?_))
  split <;> rfl

theorem watchSide_dropOutside (s : State) (e : WatchEntry) : WatchSide s (dropOutside s e) := by
  have hgone : WatchSide s (withdrawEntry e false s) := watchSide_removeEntry _ _ s
  unfold dropOutside
  split
  · split
    · exact watchSide_setPrice rfl (List.Sublist.refl _)
    · exact hgone
  · split
    · exact .refl s
    · exact hgone
  · exact hgone

theorem watchSide_tellOwners (old : Vector Window 16) (load : Bool) (s : State) : WatchSide s (tellOwners old load s) := by
  unfold tellOwners
  dsimp only
  have hreport : WatchSide s (if roleMoved old s.guard.windows .report then resetReportRing s else s) := by
    split
    · exact .after (watchSide_evalIrq _) (watchSide_setReports id)
    · exact .refl s
  generalize (if roleMoved old s.guard.windows .report then resetReportRing s else s) = u at hreport ⊢
  have hlabel : WatchSide s (if roleMoved old s.guard.windows .labelQueue then resetLabelRing u else u) := by
    split
    · exact hreport.trans (watchSide_setLabel _ _)
    · exact hreport
  generalize (if roleMoved old s.guard.windows .labelQueue then resetLabelRing u else u) = v at hlabel ⊢
  split
  · refine hlabel.trans ?_
    unfold priceWindowChanged
    split
    · exact WatchSide.foldl watchSide_dropOutside _ v
    · exact .refl v
  · exact hlabel

end Sys2Proof.Machine
end

section
/-! PROOFS. What the lines of requests and the Guest Budget can do: one relation, `LinkSide`, that a recorded refusal, a
handed line, a judgement of a guest request and a release of the deferral queue keep within. -/

namespace Sys2Proof.Machine

open Sys2Proof Sys2Proof.Safety

/-! ### The relation -/

/-- From `s` to `s'` nothing changed but the outstanding requests and their completions, the DRAM port and the passed-line
queue, the guard log, the reports and the Guest Budget. -/
def LinkSide (s s' : State) : Prop :=
  s' = { s with
    link := s'.link, reports := s'.reports, guest := s'.guest
    mem := { s.mem with port := s'.mem.port, queue := s'.mem.queue }, guard := { s.guard with log := s'.guard.log } }

theorem LinkSide.refl (s : State) : LinkSide s s := rfl

theorem LinkSide.trans {a b c : State} (h : LinkSide a b) (g : LinkSide b c) : LinkSide a c := by
  unfold LinkSide at *
  rw [h] at g
  exact g

/-- The same, the later operation first. -/
theorem LinkSide.after {a b c : State} (g : LinkSide b c) (h : LinkSide a b) : LinkSide a c := h.trans g

theorem LinkSide.ite {c : Prop} [Decidable c] {s a b : State} (h : LinkSide s a) (g : LinkSide s b) :
    LinkSide s (if c then a else b) := by
  split
  · exact h
  · exact g

/-- A fold of such operations. -/
theorem LinkSide.foldl {α : Type} {f : State → α → State} (hf : ∀ s x, LinkSide s (f s x)) (xs : List α) (s : State) :
    LinkSide s (xs.foldl f s) := by
  induction xs generalizing s with
  | nil => exact .refl s
  | cons x xs ih => exact (hf s x).trans (ih (f s x))

theorem LinkSide.mem {s s' : State} (h : LinkSide s s') :
    s'.mem = { s.mem with port := s'.mem.port, queue := s'.mem.queue } := congrArg State.mem (show s' = _ from h)
theorem LinkSide.guard {s s' : State} (h : LinkSide s s') : s'.guard = { s.guard with log := s'.guard.log } :=
  congrArg State.guard (show s' = _ from h)
theorem LinkSide.journal {s s' : State} (h : LinkSide s s') : s'.journal = s.journal := by rw [show s' = _ from h]
theorem LinkSide.label {s s' : State} (h : LinkSide s s') : s'.label = s.label := by rw [show s' = _ from h]
theorem LinkSide.price {s s' : State} (h : LinkSide s s') : s'.price = s.price := by rw [show s' = _ from h]
theorem LinkSide.loader {s s' : State} (h : LinkSide s s') : s'.loader = s.loader := by rw [show s' = _ from h]

/-! ### Refusals and handed lines -/

theorem logAll_guard_log (es : List GuardEntry) (s : State) :
    (logAll es s).guard = { s.guard with log := (logAll es s).guard.log } := by
  induction es generalizing s with
  | nil => rfl
  | cons e es ih =>
    have hone : (logRefusal e s).guard = { s.guard with log := (logRefusal e s).guard.log } := by
      unfold logRefusal
      split
      · split
        · rfl
        · rw [arise_guard]
          rfl
      · rw [arise_guard]
        rfl
    have := ih (logRefusal e s)
    rw [hone] at this
    exact this

/-- What handing a line and recording a refusal may do lies within the relation. -/
theorem LinkSide.of_linesPass {s s' : State} (h : LinesPass s s') : LinkSide s s' := by
  obtain ⟨es, hguard, _⟩ := h.logged
  have hlog : s'.guard = { s.guard with log := s'.guard.log } := by rw [hguard]; exact logAll_guard_log es s
  have hmem := h.mem
  obtain ⟨⟩ := s'
  simp only [LinkSide, State.mk.injEq, true_and]
  exact ⟨hlog, hmem, h.decoder, h.time, h.journal, h.price, h.label, h.day, h.loader, h.retained, h.free, h.pending⟩

theorem linkSide_updateRequest (t : Fin 64) (f : Request → Request) (s : State) : LinkSide s (updateRequest t f s) := rfl

theorem linkSide_recordLine (t : Fin 64) (k : Nat) (c : Cause) (s : State) : LinkSide s (recordLine t k c s) :=
  .of_linesPass (linesPass_recordLine t k c s)

theorem linkSide_handLine (t : Fin 64) (k : Nat) (c : Option EntryCommit) (b : Bool) (s : State) :
    LinkSide s (handLine t k c b s) := .of_linesPass (linesPass_handLine t k c b s)

theorem linkSide_arise (b : ReportBody) (s : State) : LinkSide s (arise b s) := by
  rcases arise_cases b s with ⟨_, h⟩ | ⟨_, h⟩ <;> rw [h] <;> rfl

theorem linkSide_setGuest (s : State) (x : GuestState) : LinkSide s (s.setGuest x) := rfl

/-! ### The Guest Budget -/

theorem linkSide_refuseWaiting (t : Fin 64) (s : State) : LinkSide s (refuseWaiting t s) :=
  LinkSide.foldl (fun s k => linkSide_recordLine t k .guestLatch s) _ s

theorem linkSide_setLatch (c : LatchCause) (s : State) : LinkSide s (setLatch c s) :=
  .after (LinkSide.foldl (fun s (e : Deferred) => linkSide_refuseWaiting e.txn s) _ _)
    (.after (linkSide_setGuest _ _) (.after (linkSide_arise _ _) (linkSide_setGuest s _)))

theorem linkSide_countViolation (s : State) : LinkSide s (countViolation s) :=
  .ite (.after (linkSide_setLatch _ _) (linkSide_setGuest s _)) (linkSide_setGuest s _)

theorem linkSide_recordRefusal (t : Fin 64) (k : Nat) (c : Cause) (s : State) : LinkSide s (recordRefusal t k c s) :=
  .ite (.after (linkSide_countViolation _) (linkSide_recordLine t k c s)) (linkSide_recordLine t k c s)

theorem linkSide_serveGuest (t : Fin 64) (s : State) : LinkSide s (serveGuest t s) :=
  .after (linkSide_setGuest _ _) (.after (linkSide_updateRequest _ _ _)
    (LinkSide.foldl (fun s k => linkSide_handLine t k none false s) _ s))

theorem linkSide_latchGuest (t : Fin 64) (s : State) : LinkSide s (latchGuest t s) :=
  .after (linkSide_refuseWaiting _ _) (linkSide_updateRequest t _ s)

theorem linkSide_deferGuest (t : Fin 64) (tag : Fin 16) (n : Nat) (c : DeferCond) (s : State) :
    LinkSide s (deferGuest t tag n c s) := .after (linkSide_setGuest _ _) (linkSide_updateRequest t _ s)

theorem linkSide_popDeferred (s : State) : LinkSide s (popDeferred s) := linkSide_setGuest s _

theorem linkSide_keepDeferred (n : Nat) (c : DeferCond) (s : State) : LinkSide s (keepDeferred n c s) := by
  unfold keepDeferred
  split
  · exact linkSide_setGuest s _
  · exact .refl s

theorem linkSide_rejudgeLine (t : Fin 64) (cls : InitClass) (kind : AccessKind) (k : Nat) (s : State) :
    LinkSide s (rejudgeLine t cls kind k s) := by
  unfold rejudgeLine
  split
  · split
    · dsimp only
      split
      · exact .after (linkSide_recordRefusal _ _ _ _) (linkSide_updateRequest t _ s)
      · exact linkSide_updateRequest t _ s
    · exact .refl s
  · exact .refl s

theorem linkSide_rejudgeBudget (t : Fin 64) (n : Nat) (s : State) : LinkSide s (rejudgeBudget t n s) := by
  have hserved : LinkSide s (popDeferred (serveGuest t s)) := .after (linkSide_popDeferred _) (linkSide_serveGuest t s)
  have hsoft : ∀ (c : Prop) [Decidable c],
      LinkSide s (if c then keepDeferred n .pace s else popDeferred (serveGuest t s)) :=
    fun c _ => .ite (linkSide_keepDeferred _ _ s) hserved
  unfold rejudgeBudget
  refine .ite (.after (linkSide_latchGuest _ _) (linkSide_popDeferred s)) ?_
  cases s.guest.inForce.mode with
  | off => exact hserved
  | cycle => exact .ite (linkSide_keepDeferred _ _ s) (hsoft _)
  | latched => exact .ite (linkSide_setLatch _ s) (hsoft _)

theorem linkSide_rejudgeHead (e : Deferred) (s : State) : LinkSide s (rejudgeHead e s) := by
  unfold rejudgeHead
  split
  · exact linkSide_popDeferred s
  · rename_i r _
    have hlines : LinkSide s ((waitingLines e.txn s).foldl (fun s k => rejudgeLine e.txn r.cls r.kind k s) s) :=
      LinkSide.foldl (fun s k => linkSide_rejudgeLine _ _ _ k s) _ s
    refine .ite ?_ hlines
    split
    · exact .after (linkSide_popDeferred _) hlines
    · exact .after (linkSide_rejudgeBudget _ _ _) hlines

theorem linkSide_release (b : Bool) (n : Nat) (s : State) : LinkSide s (release b n s) := by
  induction n generalizing s with
  | zero => exact .refl s
  | succ n ih =>
    unfold release
    split
    · exact .refl s
    · exact .ite (.refl s) (.ite (.after (ih _) (linkSide_rejudgeHead _ s)) (linkSide_rejudgeHead _ s))

theorem linkSide_judgeGuest (t : Fin 64) (tag : Fin 16) (s : State) : LinkSide s (judgeGuest t tag s) := by
  have hsoft : ∀ (c d : Prop) [Decidable c] [Decidable d] (n : Nat), LinkSide s (if c then
      (if d then releaseAll false (deferGuest t tag n .pace s) else deferGuest t tag n .pace s) else serveGuest t s) :=
    fun c d _ _ n => .ite (.ite (.after (linkSide_release _ _ _) (linkSide_deferGuest _ _ _ _ s))
      (linkSide_deferGuest _ _ _ _ s)) (linkSide_serveGuest t s)
  unfold judgeGuest
  refine .ite (linkSide_latchGuest t s) (.ite (linkSide_deferGuest _ _ _ _ s) ?_)
  dsimp only
  cases s.guest.inForce.mode with
  | off => exact linkSide_serveGuest t s
  | cycle => exact .ite (linkSide_deferGuest _ _ _ _ s) (hsoft _ _ _)
  | latched => exact .ite (.after (linkSide_latchGuest _ _) (linkSide_setLatch _ s)) (hsoft _ _ _)

theorem linkSide_pacingCheck (s : State) : LinkSide s (pacingCheck s) := .ite (linkSide_release _ _ s) (.refl s)

theorem linkSide_guestBoundary (s : State) : LinkSide s (guestBoundary s) :=
  .after (linkSide_release _ _ _) (linkSide_setGuest s _)

/-! ### Lines taking effect -/

theorem linkSide_guestStage (t : Fin 64) (s : State) : LinkSide s (guestStage t s) := by
  unfold guestStage
  split
  · exact .ite (linkSide_judgeGuest _ _ s) (.refl s)
  · exact .refl s

theorem linkSide_runLines (t : Fin 64) (n : Nat) (s : State) : LinkSide s (runLines t n s) := by
  induction n generalizing s with
  | zero => exact .refl s
  | succ n ih =>
    have hactive : LinkSide s (activate t s) := linkSide_updateRequest t _ s
    unfold runLines
    split
    · exact .refl s
    · split
      · exact linkSide_guestStage t s
      · split
        · exact .refl s
        · exact .after (ih _) (.after (linkSide_recordRefusal _ _ _ _) hactive)
        · exact .ite (.refl s) (.ite (.after (ih _) (.after (linkSide_updateRequest _ _ _) hactive))
            (.after (ih _) (.after (linkSide_handLine _ _ _ _ _) hactive)))

theorem linkSide_passTurn (t : Fin 64) (k : Nat) (s : State) : LinkSide s (passTurn t k s) :=
  .after (linkSide_runLines t 5 _) (.after (linkSide_handLine _ _ _ _ _) (linkSide_updateRequest t _ s))

end Sys2Proof.Machine
end

section
/-! PROOFS. What every operation beside the request path does, walked through once: it leaves the requests, the passed lines
and the queues of held and deferred lines alone (`Aside`), and keeps every property that a few changes of the window table
and the bank states keep (`SideKeeper`). -/

namespace Sys2Proof.Machine

open Sys2Proof Sys2Proof.Safety

/-! ### What stays -/

/-- The DRAM, the window table and the states of the banks stay. -/
def Quiet (s s' : State) : Prop :=
  s'.mem.dram = s.mem.dram ∧ s'.guard.windows = s.guard.windows ∧
    ∀ bk, (getBank s'.journal bk).state = (getBank s.journal bk).state

theorem Quiet.of_eq {s s' : State} (hm : s'.mem.dram = s.mem.dram) (hw : s'.guard.windows = s.guard.windows)
    (hj : s'.journal = s.journal) : Quiet s s' := ⟨hm, hw, fun bk => by rw [hj]⟩

/-- The requests, the passed lines, the capture queue and the deferral queue stay, and what else has a bound keeps it. -/
structure Aside (s s' : State) : Prop where
  requests : s'.link.requests = s.link.requests
  passed : passedLines s'.mem = passedLines s.mem
  queue : s'.mem.queue = s.mem.queue
  slots : (∀ src, CountBounded (s.mem.slots.get src)) → ∀ src, CountBounded (s'.mem.slots.get src)
  captures : s'.price.queue = s.price.queue
  deferred : s'.guest.queue = s.guest.queue
  log : s.guard.log.length ≤ 8 → s'.guard.log.length ≤ 8
  reports : s.reports.pending.length ≤ 16 → s'.reports.pending.length ≤ 16
  table : s.price.table.length ≤ 256 → s'.price.table.length ≤ 256
  items : ItemsDistinct s → ItemsDistinct s'

theorem Aside.trans {a b c : State} (h : Aside a b) (g : Aside b c) : Aside a c where
  requests := g.requests.trans h.requests
  passed := g.passed.trans h.passed
  queue := g.queue.trans h.queue
  slots := g.slots ∘ h.slots
  captures := g.captures.trans h.captures
  deferred := g.deferred.trans h.deferred
  log := g.log ∘ h.log
  reports := g.reports ∘ h.reports
  table := g.table ∘ h.table
  items := g.items ∘ h.items

/-- Where the blocks of the request path and the reports are the same and the guard keeps its log. -/
theorem Aside.of_eq {s s' : State} (hl : s'.link = s.link) (hm : s'.mem = s.mem) (hp : s'.price = s.price)
    (hq : s'.guest.queue = s.guest.queue) (hg : s.guard.log.length ≤ 8 → s'.guard.log.length ≤ 8)
    (hr : s'.reports = s.reports) : Aside s s' where
  requests := by rw [hl]
  passed := by rw [hm]
  queue := by rw [hm]
  slots := by rw [hm]; exact id
  captures := by rw [hp]
  deferred := hq
  log := hg
  reports := by rw [hr]; exact id
  table := by rw [hp]; exact id
  items := by unfold ItemsDistinct; rw [hp]; exact id

theorem Aside.refl (s : State) : Aside s s := .of_eq rfl rfl rfl rfl id rfl

theorem Aside.of_watchSide {s s' : State} (h : WatchSide s s') : Aside s s' where
  requests := by rw [h.link]
  passed := by rw [h.mem]
  queue := by rw [h.mem]
  slots := by rw [h.mem]; exact id
  captures := h.queue
  deferred := by rw [h.guest]
  log := by rw [h.guard]; exact id
  reports := h.reports
  table := h.table
  items := h.items

/-- A change of the memory block that keeps its lines. -/
theorem Aside.of_mem {s : State} {x : MemState} (hp : passedLines x = passedLines s.mem) (hq : x.queue = s.mem.queue)
    (hs : (∀ src, CountBounded (s.mem.slots.get src)) → ∀ src, CountBounded (x.slots.get src)) : Aside s (s.setMem x) where
  requests := rfl
  passed := hp
  queue := hq
  slots := hs
  captures := rfl
  deferred := rfl
  log := id
  reports := id
  table := id
  items := id

theorem PerSource.get_put {α : Type} (p : PerSource α) (c src : Source) (x : α) :
    (p.put c x).get src = if src = c then x else p.get src := by
  cases c <;> cases src <;> rfl

theorem countBounded_put {p : PerSource Slot} {c : Source} {x : Slot} (hp : ∀ src, CountBounded (p.get src))
    (hx : CountBounded x) (src : Source) : CountBounded ((p.put c x).get src) := by
  rw [PerSource.get_put]
  split
  · exact hx
  · exact hp src

theorem passedLines_of_inserted {m : MemState} {src : Source} (h : m.port = .inserted src) : passedLines m = m.queue := by
  unfold passedLines
  rw [h]

theorem aside_releaseSlot {src : Source} {s : State} (h : s.mem.port = .inserted src) : Aside s (releaseSlot src s) where
  requests := rfl
  passed := (passedLines_of_inserted h).symm
  queue := rfl
  slots := fun hs => countBounded_put hs trivial
  captures := rfl
  deferred := rfl
  log := id
  reports := id
  table := id
  items := id

theorem port_of_grantedAccess {m : MemState} {src : Source} {a : Access} (h : grantedAccess m src = some a) :
    m.port = .inserted src := by
  unfold grantedAccess at h
  split at h
  · assumption
  · simp at h

@[simp] theorem storeAccess_port (b : Bool) (a : Access) (s : State) : (storeAccess b a s).mem.port = s.mem.port := by
  cases b <;> rfl

/-- A property that an operation keeps which leaves DRAM, window table, bank states and the request path alone, as do a
change of a bank's state with its window's write-protect flag (R24, R167), a change of WAN rights (R25), an accepted edit
(R37) and the application of a valid image (R188). -/
structure SideKeeper (P : State → Prop) : Prop where
  aside : ∀ {s s'}, Quiet s s' → Aside s s' → P s → P s'
  bankState : ∀ {bk st s}, P s → P (setBankState bk st s)
  rights : ∀ {bk r s}, P s → P (setWanRights bk r s)
  place : ∀ {i w s}, windowRefusal s i w = none → P s → P (placeWindow i w s)
  image : ∀ {i a b s}, windowsOk i.size i.windows = true → P s → P (applyImage i a b s)

namespace SideKeeper

variable {P : State → Prop}

/-! ### Single updates -/

theorem watchSide (K : SideKeeper P) {s s' : State} (h : WatchSide s s') (hp : P s) : P s' :=
  K.aside (s := s) (.of_eq (by rw [h.mem]) (by rw [h.guard]) h.journal) (.of_watchSide h) hp

theorem setDecoder (K : SideKeeper P) {s : State} {x : DecoderState} (hp : P s) : P (s.setDecoder x) :=
  K.aside (s := s) (.of_eq rfl rfl rfl) (.of_eq rfl rfl rfl rfl id rfl) hp
theorem setTime (K : SideKeeper P) {s : State} {x : TimeState} (hp : P s) : P (s.setTime x) :=
  K.aside (s := s) (.of_eq rfl rfl rfl) (.of_eq rfl rfl rfl rfl id rfl) hp
theorem setLabel (K : SideKeeper P) {s : State} {x : LabelState} (hp : P s) : P (s.setLabel x) :=
  K.aside (s := s) (.of_eq rfl rfl rfl) (.of_eq rfl rfl rfl rfl id rfl) hp
theorem setDay (K : SideKeeper P) {s : State} {x : DayState} (hp : P s) : P (s.setDay x) :=
  K.aside (s := s) (.of_eq rfl rfl rfl) (.of_eq rfl rfl rfl rfl id rfl) hp
theorem setLoader (K : SideKeeper P) {s : State} {x : LoaderState} (hp : P s) : P (s.setLoader x) :=
  K.aside (s := s) (.of_eq rfl rfl rfl) (.of_eq rfl rfl rfl rfl id rfl) hp
theorem setRetained (K : SideKeeper P) {s : State} {x : RetainedState} (hp : P s) : P (s.setRetained x) :=
  K.aside (s := s) (.of_eq rfl rfl rfl) (.of_eq rfl rfl rfl rfl id rfl) hp
theorem setFree (K : SideKeeper P) {s : State} {x : Nat} (hp : P s) : P (s.setFree x) :=
  K.aside (s := s) (.of_eq rfl rfl rfl) (.of_eq rfl rfl rfl rfl id rfl) hp
theorem setPending (K : SideKeeper P) {s : State} {x : List Instr} (hp : P s) : P (s.setPending x) :=
  K.aside (s := s) (.of_eq rfl rfl rfl) (.of_eq rfl rfl rfl rfl id rfl) hp

/-- A change of the reports that leaves the pending queue within its bound. -/
theorem setReports (K : SideKeeper P) {s : State} {x : ReportState} (h : s.reports.pending.length ≤ 16 → x.pending.length ≤ 16)
    (hp : P s) : P (s.setReports x) := K.watchSide (watchSide_setReports h) hp

/-- A change of the Price Watch that keeps its capture queue, and whose table lists no more items than before. -/
theorem setPrice (K : SideKeeper P) {s : State} {x : PriceState} (hq : x.queue = s.price.queue)
    (ht : (x.table.map (fun e => e.item)).Sublist (s.price.table.map (fun e => e.item))) (hp : P s) : P (s.setPrice x) :=
  K.watchSide (watchSide_setPrice hq ht) hp

/-- A change of the Guest Budget that keeps its deferral queue. -/
theorem setGuest (K : SideKeeper P) {s : State} {x : GuestState} (h : x.queue = s.guest.queue) (hp : P s) :
    P (s.setGuest x) := K.aside (s := s) (.of_eq rfl rfl rfl) (.of_eq rfl rfl rfl h id rfl) hp

/-- A change of the guard that keeps the window table and the bound of the log. -/
theorem setGuard (K : SideKeeper P) {s : State} {x : GuardState} (h : x.windows = s.guard.windows)
    (hl : s.guard.log.length ≤ 8 → x.log.length ≤ 8) (hp : P s) : P (s.setGuard x) :=
  K.aside (s := s) (.of_eq rfl h rfl) (.of_eq rfl rfl rfl rfl hl rfl) hp

/-- A change of the slots of the Memory Port, or of what the hold has abandoned. -/
theorem setSlots (K : SideKeeper P) {s : State} {x : MemState} (hd : x.dram = s.mem.dram) (hport : x.port = s.mem.port)
    (hq : x.queue = s.mem.queue)
    (hs : (∀ src, CountBounded (s.mem.slots.get src)) → ∀ src, CountBounded (x.slots.get src)) (hp : P s) :
    P (s.setMem x) :=
  K.aside (s := s) (.of_eq hd rfl rfl) (.of_mem (by unfold passedLines; rw [hport, hq]) hq hs) hp

theorem setJournal (K : SideKeeper P) {s : State} {x : JournalState}
    (h : ∀ bk, (getBank x bk).state = (getBank s.journal bk).state) (hp : P s) : P (s.setJournal x) :=
  K.aside (s := s) ⟨rfl, rfl, h⟩ (.of_eq rfl rfl rfl rfl id rfl) hp

/-- A change of a bank record that keeps its state. -/
theorem setBank (K : SideKeeper P) {bk : Bank} {r : BankRecord} {s : State} (h : r.state = (getBank s.journal bk).state)
    (hp : P s) : P (setBank bk r s) := by
  cases bk <;> refine K.setJournal (fun bk => ?_) hp <;> cases bk <;> first | rfl | exact h

theorem arise (K : SideKeeper P) {b : ReportBody} {s : State} (hp : P s) : P (arise b s) := K.watchSide (watchSide_arise b s) hp

theorem evalIrq (K : SideKeeper P) {s : State} (hp : P s) : P (evalIrq s) := K.watchSide (watchSide_evalIrq s) hp

theorem setRetainedBank (K : SideKeeper P) {bk : Bank} {r : RetainedBank} {s : State} (hp : P s) :
    P (Machine.setRetained bk r s) := by
  cases bk <;> exact K.setRetained hp

theorem ite {c : Prop} [Decidable c] {a b : State} (ha : P a) (hb : P b) : P (if c then a else b) := by
  split
  · exact ha
  · exact hb

theorem foldl {α : Type} {f : State → α → State} (hf : ∀ s x, P s → P (f s x)) (xs : List α) {s : State} (hp : P s) :
    P (xs.foldl f s) := by
  induction xs generalizing s with
  | nil => exact hp
  | cons x xs ih => exact ih (hf s x hp)

/-! ### The slots -/

/-- The granted access of a source completes. -/
theorem releaseSlot (K : SideKeeper P) {src : Source} {s : State} (h : s.mem.port = .inserted src) (hp : P s) :
    P (releaseSlot src s) :=
  K.aside (s := s) (.of_eq rfl rfl rfl) (aside_releaseSlot h) hp

theorem issueAccess (K : SideKeeper P) {src : Source} {a : Access} {s : State} (hp : P s) : P (issueAccess src a s) :=
  K.setSlots rfl rfl rfl (fun hs => countBounded_put hs (Nat.zero_le _)) hp

/-! ### The Day Controller -/

theorem endTest (K : SideKeeper P) {s : State} (hp : P s) : P (endTest s) := ite (K.setDay hp) hp

theorem openBank (K : SideKeeper P) {bk : Bank} {seed : Word32} {day : Nat} {s : State} (hp : P s) : P (openBank bk seed day s) :=
  K.setDay (K.setRetainedBank (K.bankState (K.setBank rfl hp)))

theorem acceptClose (K : SideKeeper P) {bk : Bank} {g : Nat} {m : CarryMode} {t : Bool} {s : State} (hp : P s) :
    P (acceptClose bk g m t s) := K.endTest (K.arise (K.setDay (K.bankState hp)))

theorem timedClose (K : SideKeeper P) {s : State} (hp : P s) : P (timedClose s) := by
  unfold Machine.timedClose
  split
  · split
    · exact K.acceptClose hp
    · exact K.arise (K.setDay hp)
  · exact hp

theorem countDeferred (K : SideKeeper P) {s : State} (hp : P s) : P (countDeferred s) := by
  unfold Machine.countDeferred
  split
  · exact hp
  · exact ite (K.setDay hp) (K.setDay hp)

theorem deferredRetry (K : SideKeeper P) {s : State} (hp : P s) : P (deferredRetry s) := by
  have hretry : ∀ {u : State}, P u → P (retryClose u) := fun {u} hu => by
    unfold retryClose
    split
    · exact ite (K.acceptClose hu) hu
    · exact hu
  exact ite (hretry (K.setDay hp)) hp

theorem giveOrder (K : SideKeeper P) {o : PartOrder} {s : State} (hp : P s) : P (giveOrder o s) :=
  ite (K.setDay (K.setJournal (fun bk => by cases bk <;> rfl) hp)) hp

theorem handOver (K : SideKeeper P) {bk : Bank} {s : State} (hp : P s) : P (handOver bk s) :=
  K.openBank (K.bankState (K.setJournal (fun bk => by cases bk <;> rfl) (K.setBank rfl hp)))

theorem finishSwitch (K : SideKeeper P) {bk : Bank} {s : State} (hp : P s) : P (finishSwitch bk s) := by
  refine K.arise (K.setDay ?_)
  split
  · exact foldl (fun s t h => K.setRetained (K.setJournal (fun bk => by cases bk <;> rfl) h)) _ hp
  · exact hp

theorem orderCommitted (K : SideKeeper P) {o : PartOrder} {s : State} (hp : P s) : P (orderCommitted o s) := by
  unfold Machine.orderCommitted
  dsimp only
  split
  · refine ite (K.finishSwitch ?_) ?_ <;> exact ite (K.handOver (K.setDay (K.setDay hp))) (K.setDay (K.setDay hp))
  · exact ite (K.arise (K.setDay hp)) (K.setDay hp)
  · exact K.setDay hp

theorem endExport (K : SideKeeper P) {bk : Bank} {st : BankState} {s : State} (hp : P s) : P (endExport bk st s) :=
  K.bankState (K.rights hp)

theorem exportDeadline (K : SideKeeper P) {s : State} (hp : P s) : P (exportDeadline s) :=
  foldl (fun _ _ h => ite (K.endExport (K.arise h)) h) _ hp

theorem observeExport (K : SideKeeper P) {bk : Bank} {i : Nat} {d : Line} {s : State} (hp : P s) : P (observeExport bk i d s) := by
  refine ite (ite ?_ (K.endExport (K.arise hp))) hp
  unfold entryChecks
  dsimp only
  split
  · exact ite (K.arise (K.bankState (K.setBank rfl hp))) (K.setBank rfl hp)
  · exact K.setBank rfl hp

/-! ### The completions of inserted accesses -/

/-- Storing a line that was granted in range keeps the property; one out of range is not stored. -/
def Stores (P : State → Prop) (beyond : Bool) : Prop :=
  beyond = false → ∀ {s : State} {a m d}, P s → P (s.setMem { s.mem with dram := Memory.writeLine s.mem.dram a m d })

theorem storeAccess {b : Bool} (hs : Stores P b) {a : Access} {s : State} (hp : P s) : P (storeAccess b a s) := by
  cases b with
  | true => exact hp
  | false => exact hs rfl hp

/-- The granted write of a source is done. -/
theorem stored (K : SideKeeper P) {b : Bool} (hs : Stores P b) {src : Source} {a : Access} {s : State}
    (ha : grantedAccess s.mem src = some a) (hp : P s) : P (Machine.releaseSlot src (Machine.storeAccess b a s)) :=
  K.releaseSlot (by rw [storeAccess_port]; exact port_of_grantedAccess ha) (storeAccess hs hp)

theorem completePlacement (K : SideKeeper P) {b : Bool} (hs : Stores P b) {s : State} (hp : P s) : P (completePlacement b s) := by
  unfold Machine.completePlacement
  split
  · rename_i a p ha _
    have hreleased := K.stored hs ha hp
    refine ite (K.evalIrq (K.setReports (fun h => ?_) hreleased)) (K.setReports id hreleased)
    simp only [placed, List.length_drop]
    omega
  · exact hp

theorem completePartWrite (K : SideKeeper P) {b : Bool} (hs : Stores P b) {s : State} (hp : P s) : P (completePartWrite b s) := by
  unfold Machine.completePartWrite
  split
  · rename_i ha _
    exact K.orderCommitted (K.watchSide (watchSide_reportFlagged _ _ _ _ _ _ _) (K.setRetainedBank
      (K.setJournal (fun bk => by cases bk <;> rfl) (K.setBank rfl (K.stored hs ha hp)))))
  · exact hp

theorem withdrawEntry (K : SideKeeper P) {e : WatchEntry} {b : Bool} {s : State} (hp : P s) : P (withdrawEntry e b s) :=
  K.watchSide (watchSide_removeEntry _ _ s) hp

theorem completeCheck (K : SideKeeper P) {b : Bool} {s : State} (hp : P s) : P (completeCheck b s) := by
  unfold Machine.completeCheck
  split
  · rename_i ha _
    have hreleased : P (Machine.releaseSlot .priceWatch s) := K.releaseSlot (port_of_grantedAccess ha) hp
    unfold checked
    dsimp only
    split
    · exact K.setPrice rfl (.refl _) hreleased
    · exact ite (K.withdrawEntry (K.setPrice rfl (.refl _) hreleased))
        (K.issueAccess (K.setPrice rfl (.refl _) (K.setPrice rfl (.refl _) hreleased)))
  · exact hp

theorem completeWriteBack (K : SideKeeper P) {b : Bool} (hs : Stores P b) {s : State} (hp : P s) : P (completeWriteBack b s) := by
  unfold Machine.completeWriteBack
  split
  · rename_i ha _
    have hreleased := K.stored hs ha hp
    unfold writtenBack
    dsimp only
    split
    · exact K.withdrawEntry (K.setPrice rfl (.refl _) hreleased)
    · exact K.setPrice rfl (.refl _) hreleased
  · exact hp

theorem completeWorkRecord (K : SideKeeper P) {b : Bool} (hs : Stores P b) {s : State} (hp : P s) : P (completeWorkRecord b s) := by
  unfold Machine.completeWorkRecord
  split
  · rename_i ha _
    exact K.watchSide (watchSide_workWritten _ _) (K.stored hs ha hp)
  · exact hp

/-! ### The Configuration Loader -/

theorem endReload (K : SideKeeper P) {f : Found} {s : State} (hf : ∀ i n, f = .valid i n → windowsOk i.size i.windows = true)
    (hp : P s) : P (endReload f s) := by
  have hidle : P (s.setLoader { s.loader with load := .idle }) := K.setLoader hp
  cases f with
  | absent => exact K.arise hidle
  | bad n => exact K.arise hidle
  | valid i n => exact ite (K.arise hidle) (K.arise (K.image (hf i n rfl) hidle))

theorem readNext (K : SideKeeper P) {s : State} (hp : P s) : P (readNext s) := by
  unfold Machine.readNext
  split
  · exact ite (K.issueAccess (K.setLoader hp)) hp
  · exact hp

theorem completeResultLine (K : SideKeeper P) {b : Bool} (hs : Stores P b) {s : State} (hp : P s) : P (completeResultLine b s) := by
  unfold Machine.completeResultLine
  split
  · rename_i ha _
    exact K.readNext (K.setLoader (K.stored hs ha hp))
  · exact hp

theorem completeBeyond (K : SideKeeper P) {src : Source} {s : State}
    (hcapture : P (completeCapture true s)) (himage : P (completeImageRead true s)) (hp : P s) : P (completeBeyond src s) := by
  have hs : Stores P true := fun h => absurd h (by simp)
  cases src with
  | reportWriter => exact K.completePlacement hs hp
  | journalEngine => exact K.completePartWrite hs hp
  | priceWatch =>
    unfold Machine.completeBeyond
    dsimp only
    split
    · exact hcapture
    · exact K.completeCheck hp
    · exact K.completeWriteBack hs hp
    · exact hp
  | labelSequencer => exact K.completeWorkRecord hs hp
  | configLoader =>
    unfold Machine.completeBeyond
    dsimp only
    split
    · exact himage
    · exact K.completeResultLine hs hp
    · exact hp

/-! ### Time -/

theorem commitEntry (K : SideKeeper P) {c : EntryCommit} {s : State} (hp : P s) : P (commitEntry c s) :=
  K.watchSide (watchSide_reportFlagged _ _ _ _ _ _ _) (K.setBank rfl (K.setRetained (K.setRetainedBank hp)))

theorem graceSecond (K : SideKeeper P) {s : State} (hp : P s) : P (graceSecond s) := by
  have hlower : P (lowerGrace s) := ite hp (K.setDay hp)
  exact ite (ite (K.endTest hlower) hlower) (K.endTest hlower)

theorem secondEvent (K : SideKeeper P) {s : State} (hp : P s) : P (secondEvent s) := by
  have hcounted : P (Machine.countDeferred (s.setTime (nextSecond s.time))) := K.countDeferred (K.setTime hp)
  have hmatched : P (giveMatches (Machine.countDeferred (s.setTime (nextSecond s.time)))) := by
    unfold giveMatches
    split
    · exact ite (K.timedClose (K.exportDeadline (K.setFree hcounted)))
        (K.exportDeadline (K.timedClose (K.setFree hcounted)))
    · exact K.timedClose hcounted
    · exact K.exportDeadline hcounted
    · exact hcounted
  exact ite (K.graceSecond hmatched) hmatched

theorem compareEvent (K : SideKeeper P) {s : State} (hp : P s) : P (compareEvent s) :=
  ite (K.setTime hp) (ite (K.setTime hp) hp)

theorem roundTrigger (K : SideKeeper P) {s : State} (hp : P s) : P (roundTrigger s) :=
  ite hp (ite (K.watchSide (watchSide_startRound _) (K.setTime hp)) (K.setTime hp))

theorem epochBoundary (K : SideKeeper P) {s : State} (hp : P s) : P (epochBoundary s) :=
  ite hp (K.watchSide (watchSide_epochPass _) (K.setTime hp))

/-- A microsecond, given what the Guest Budget makes of the pacing timer and of a period boundary. -/
theorem microsecond (K : SideKeeper P) {s : State} (hpaced : P (pacingCheck (pacingCount 1 s)))
    (hboundary : ∀ u, P u → P (guestBoundary u)) : P (microsecond s) := by
  have hclock : ∀ {u : State}, P u → P (clockTick u) := fun hu => ite (K.secondEvent hu) (K.setTime hu)
  have hperiod : ∀ {u : State}, P u → P (periodTick u) := fun hu =>
    ite (K.watchSide (watchSide_labelBoundary _) (hboundary _ (K.setTime hu))) (K.setTime hu)
  exact ite (hperiod (hclock (K.setTime hpaced))) (K.setTime hpaced)

/-- An idle step, given its microsecond. -/
theorem idle (K : SideKeeper P) {s : State} (hmicro : P (Machine.microsecond s)) (hp : P s) : P (idle s) :=
  ite (K.compareEvent hp) (ite (K.roundTrigger hp) (ite (K.epochBoundary hp)
    (ite (K.watchSide (watchSide_zoneTimeout s) hp) (ite (ite (K.endTest hp) hp)
      (ite (K.deferredRetry hp) hmicro)))))

/-! ### Control records -/

theorem replyDone (K : SideKeeper P) {l : Line} {s : State} (hp : P s) : P (replyDone l s) := K.arise hp

theorem replyRefused (K : SideKeeper P) {l : Line} {c : RefusalCode} {s : State} (hp : P s) : P (replyRefused l c s) :=
  K.arise (K.setDecoder hp)

theorem runCommand (K : SideKeeper P) {owner : Owner} (ho : ∀ l s, P s → P (owner l s).1) {l : Line} {s : State} (hp : P s) :
    P (runCommand owner l s) := by
  have htaken : P (countTaken s) := K.setGuard rfl id (K.setDecoder hp)
  have hdone := ho l _ htaken
  unfold Machine.runCommand
  dsimp only
  split
  · exact K.replyRefused htaken
  · split <;> rename_i heq <;> rw [heq] at hdone
    · exact K.replyDone hdone
    · exact K.replyRefused hdone

/-! ### The owners of the commands -/

/-- An owner that keeps the state, or changes it alone in a way that keeps the property. -/
theorem ite_owner {c : Prop} [Decidable c] {a b : State × Option RefusalCode} (ha : P a.1) (hb : P b.1) :
    P (if c then a else b).1 := by
  split
  · exact ha
  · exact hb

theorem ownSetWindow (K : SideKeeper P) {l : Line} {s : State} (hp : P s) : P (ownSetWindow l s).1 := by
  unfold Machine.ownSetWindow
  split
  · split
    · exact hp
    · rename_i hnone
      exact K.place hnone hp
  · exact hp

theorem ownQueryTotals (K : SideKeeper P) {l : Line} {s : State} (hp : P s) : P (ownQueryTotals l s).1 := by
  unfold Machine.ownQueryTotals
  split
  · exact hp
  · dsimp only
    split
    · exact K.arise hp
    · split
      · exact K.arise hp
      · exact hp

theorem ownForceEffective (K : SideKeeper P) {l : Line} {s : State} (hp : P s) : P (ownForceEffective l s).1 := by
  unfold Machine.ownForceEffective
  split
  · exact hp
  · split
    · exact K.watchSide (watchSide_removeEntry _ _ s) hp
    · exact hp

theorem ownWithdrawPrice (K : SideKeeper P) {l : Line} {s : State} (hp : P s) : P (ownWithdrawPrice l s).1 := by
  unfold Machine.ownWithdrawPrice
  split
  · exact hp
  · split
    · exact K.setPrice rfl (.refl _) (K.watchSide (watchSide_updateEntry (fun _ h => by exact h) s) hp)
    · exact hp
    · exact hp

theorem ownOpenDay (K : SideKeeper P) {l : Line} {s : State} (hp : P s) : P (ownOpenDay l s).1 := by
  unfold Machine.ownOpenDay
  split
  · exact hp
  · split
    · exact hp
    · split
      · exact hp
      · split
        · exact hp
        · exact K.setDay (K.openBank hp)

theorem ownCloseDay (K : SideKeeper P) {l : Line} {s : State} (hp : P s) : P (ownCloseDay l s).1 := by
  unfold Machine.ownCloseDay
  split
  · exact hp
  · split
    · exact hp
    · exact hp
    · exact hp
    · unfold closeOpenBank
      split
      · exact hp
      · split
        · exact hp
        · exact K.acceptClose hp

theorem ownExportBegin (K : SideKeeper P) {l : Line} {s : State} (hp : P s) : P (ownExportBegin l s).1 := by
  unfold Machine.ownExportBegin
  split
  · exact hp
  · split
    · exact hp
    · split
      · exact hp
      · exact K.bankState (K.rights (K.setBank rfl hp))

theorem ownExportComplete (K : SideKeeper P) {l : Line} {s : State} (hp : P s) : P (ownExportComplete l s).1 := by
  unfold Machine.ownExportComplete
  split
  · exact hp
  · split
    · exact K.endExport (K.setRetainedBank (K.setBank rfl hp))
    · exact hp
    · exact hp

theorem ownExportAbort (K : SideKeeper P) {l : Line} {s : State} (hp : P s) : P (ownExportAbort l s).1 := by
  unfold Machine.ownExportAbort
  split
  · exact hp
  · split
    · exact K.endExport hp
    · exact K.endExport hp
    · exact hp

theorem ownSetClassMap (K : SideKeeper P) {l : Line} {s : State} (hp : P s) : P (ownSetClassMap l s).1 := by
  unfold Machine.ownSetClassMap
  split
  · exact K.setGuard rfl id hp
  · exact hp

theorem ownSetClassDefaults (K : SideKeeper P) {l : Line} {s : State} (hp : P s) : P (ownSetClassDefaults l s).1 := by
  unfold Machine.ownSetClassDefaults
  split
  · exact K.setGuard rfl id hp
  · exact hp

theorem ownSetSchedule (K : SideKeeper P) {l : Line} {s : State} (hp : P s) : P (ownSetSchedule l s).1 := by
  unfold Machine.ownSetSchedule
  split
  · exact K.setTime hp
  · exact hp

theorem ownSetPriceView (K : SideKeeper P) {l : Line} {s : State} (hp : P s) : P (ownSetPriceView l s).1 := by
  unfold Machine.ownSetPriceView
  split
  · exact K.setPrice rfl (.refl _) hp
  · exact hp

theorem ownSetGuestBudget (K : SideKeeper P) {l : Line} {s : State} (hp : P s) : P (ownSetGuestBudget l s).1 := by
  unfold Machine.ownSetGuestBudget
  split
  · exact K.setGuest rfl hp
  · exact hp

theorem ownSetRounds (K : SideKeeper P) {l : Line} {s : State} (hp : P s) : P (ownSetRounds l s).1 := by
  unfold Machine.ownSetRounds
  split
  · exact hp
  · split
    · exact K.setLabel hp
    · exact hp

theorem ownStopRound (K : SideKeeper P) {l : Line} {s : State} (hp : P s) : P (ownStopRound l s).1 := by
  unfold Machine.ownStopRound
  split
  · exact K.setLabel hp
  · exact K.setLabel hp
  · exact hp

theorem judgeLoad (K : SideKeeper P) {o : LoadOrigin} {load : Load} {b : Bool} {s : State} (hp : P s) :
    P (judgeLoad o load b s) := ite (K.setLoader hp) (ite (K.setLoader hp) (K.setLoader (K.setLoader hp)))

/-! ### The rows of the table -/

theorem workRecordIssue (K : SideKeeper P) {s s' : State} (h : execWorkRecordIssue s = .next s') (hp : P s) : P s' := by
  unfold execWorkRecordIssue at h
  split at h
  · rename_i z w _ _
    split at h
    · have hwalked := K.watchSide (watchSide_walk z s.label.visit Config.recordItems s) hp
      generalize walk z s.label.visit Config.recordItems s = x at h hwalked
      obtain ⟨vs, taken, u⟩ := x
      dsimp only at h
      split at h <;> obtain rfl := Host.Outcome.next.inj h
      · exact ite (K.watchSide (watchSide_startWaiting _ _) (K.setLabel hwalked)) (K.setLabel hwalked)
      · exact K.issueAccess (K.setLabel (K.setLabel hwalked))
    · obtain rfl := Host.Outcome.next.inj h
      exact hp
  · obtain rfl := Host.Outcome.next.inj h
    exact hp

/-- A row that acts in one case and changes nothing in the others. -/
theorem guarded {s s' u : State} {c : Prop} [Decidable c] (h : (if c then Host.Outcome.next u else .next s) =
    (Host.Outcome.next s' : Host.Outcome State Fault Refusal)) (hu : P u) (hp : P s) : P s' := by
  split at h <;> obtain rfl := Host.Outcome.next.inj h
  · exact hu
  · exact hp

/-- R149: a link reset ends the round. -/
theorem labelLinkReset (K : SideKeeper P) {s : State} (hp : P s) : P (labelLinkReset s) := by
  have hround : P (if s.label.round = .idle then s else
      if (s.label.awaited.foldl unsend s).label.zone.isSome then
        Machine.arise (.roundDone (s.label.awaited.foldl unsend s).label.number
          (s.label.awaited.foldl unsend s).label.visited true) (s.label.awaited.foldl unsend s)
      else s.label.awaited.foldl unsend s) := by
    have hunsent : P (s.label.awaited.foldl unsend s) := foldl (fun s x hx => K.watchSide (watchSide_unsend s x) hx) _ hp
    exact ite hp (ite (K.arise hunsent) hunsent)
  refine K.setLabel ?_
  unfold dropRecord
  split
  · exact K.setLabel hround
  · exact K.setLabel (K.setSlots rfl rfl rfl (fun hs => countBounded_put hs trivial) hround)

theorem placementIssue (K : SideKeeper P) {s s' : State} (h : execPlacementIssue s = .next s') (hp : P s) : P s' := by
  unfold execPlacementIssue at h
  split at h
  · exact guarded h (K.issueAccess (K.setReports id hp)) hp
  · obtain rfl := Host.Outcome.next.inj h
    exact hp

theorem checkReadIssue (K : SideKeeper P) {s s' : State} (h : execCheckReadIssue s = .next s') (hp : P s) : P s' := by
  unfold execCheckReadIssue at h
  split at h
  · exact guarded h (K.issueAccess (K.setPrice rfl (.refl _) hp)) hp
  · obtain rfl := Host.Outcome.next.inj h
    exact hp

theorem resultLineIssue (K : SideKeeper P) {s s' : State} (h : execResultLineIssue s = .next s') (hp : P s) : P s' := by
  unfold execResultLineIssue at h
  split at h
  · exact guarded h (K.issueAccess (K.setLoader hp)) hp
  · obtain rfl := Host.Outcome.next.inj h
    exact hp

theorem partWriteIssue (K : SideKeeper P) {s s' : State} (h : execPartWriteIssue s = .next s') (hp : P s) : P s' := by
  unfold execPartWriteIssue at h
  split at h
  · split at h
    · exact guarded h (K.issueAccess (K.setJournal (fun bk => by cases bk <;> rfl) hp)) hp
    · obtain rfl := Host.Outcome.next.inj h
      exact hp
  · obtain rfl := Host.Outcome.next.inj h
    exact hp

theorem dayOpenOrder (K : SideKeeper P) {s s' : State} (h : execDayOpenOrder s = .next s') (hp : P s) : P s' := by
  unfold execDayOpenOrder at h
  split at h
  · exact guarded h (K.giveOrder hp) hp
  · obtain rfl := Host.Outcome.next.inj h
    exact hp

theorem switchOrder (K : SideKeeper P) {s s' : State} (h : execSwitchOrder s = .next s') (hp : P s) : P s' := by
  unfold execSwitchOrder at h
  split at h <;> obtain rfl := Host.Outcome.next.inj h
  · exact K.giveOrder hp
  · exact hp

/-! ### Every command -/

/-- The commands at whose end a write to DRAM completes (R12, R14). -/
def CompletesWrite (c : Instr) : Prop :=
  c = .passedWriteComplete ∨ c = .placementComplete ∨ c = .writeBackComplete ∨ c = .partWriteCommit ∨
    c = .workRecordComplete ∨ c = .resultLineWritten

/-- The rows that touch the request path, other than a control record or a bootstrap command. -/
inductive OnPath : Instr → Prop
  | request (r : LinkRequest) : OnPath (.request r)
  | requestStart (t : Fin 64) : OnPath (.requestStart t)
  | journalEntry (t : Fin 64) : OnPath (.journalEntry t)
  | priceWriteCapture (t : Fin 64) : OnPath (.priceWriteCapture t)
  | acknowledgement (t : Fin 64) : OnPath (.acknowledgement t)
  | dramGrant : OnPath .dramGrant
  | passedWriteComplete : OnPath .passedWriteComplete
  | passedReadComplete : OnPath .passedReadComplete
  | captureReadIssue : OnPath .captureReadIssue
  | captureReadComplete : OnPath .captureReadComplete
  | periodBoundary : OnPath .periodBoundary
  | pacingExpiry : OnPath .pacingExpiry
  | imageReadComplete : OnPath .imageReadComplete
  | eepromReadComplete (e : EepromRead) : OnPath (.eepromReadComplete e)
  | linkReset : OnPath .linkReset
  | powerFailHoldBegin : OnPath .powerFailHoldBegin
  | startUp (e : EepromRead) (p : Bool) (as : List (Fin 64)) : OnPath (.startUp e p as)

/-- What is done with a record stays beside the request path. -/
def RecordKeeps (f : Line → State → State) : Prop := ∀ {Q : State → Prop}, SideKeeper Q → ∀ l s, Q s → Q (f l s)

theorem recordKeeps_runCommand {owner : Owner}
    (ho : ∀ {Q : State → Prop}, SideKeeper Q → ∀ l s, Q s → Q (owner l s).1) : RecordKeeps (Machine.runCommand owner) :=
  fun K _ _ hq => K.runCommand (fun l s => ho K l s) hq

theorem recordKeeps_refuseBoot (c : RefusalCode) : RecordKeeps (refuseBoot c) := fun K _ _ hq => K.setLoader hq

theorem recordKeeps_judgeLoad (o : Line → LoadOrigin) (load : Line → Load) (b : Line → Bool) :
    RecordKeeps (fun l s => Machine.judgeLoad (o l) (load l) (b l) s) := fun K _ _ hq => K.judgeLoad hq

theorem powerFailHoldEnd (K : SideKeeper P) {s s' : State} (h : execPowerFailHoldEnd s = .next s') (hp : P s) : P s' :=
  guarded h (K.setSlots rfl rfl rfl (fun hs src => by
    have hreissued : ∀ (x : Slot) (a : Option Access), CountBounded x → CountBounded (reissued x a) := fun x a hx => by
      cases a with
      | none => exact hx
      | some a => exact Nat.zero_le _
    cases src with
    | reportWriter => exact hreissued _ _ (hs .reportWriter)
    | journalEngine => exact hreissued _ _ (hs .journalEngine)
    | priceWatch => exact hreissued _ _ (hs .priceWatch)
    | labelSequencer => exact hreissued _ _ (hs .labelSequencer)
    | configLoader => exact hreissued _ _ (hs .configLoader)) hp) hp

/-- Every command keeps the property, given the rows that touch the request path and the taking of a record, and where the
commands that complete a write may store their line. -/
theorem exec (K : SideKeeper P) {c : Instr} (hs : CompletesWrite c → Stores P false) {s s' : State}
    (hpath : OnPath c → P s')
    (hrecord : ∀ t test control boot, RecordKeeps control → RecordKeeps boot → P (takeRecord t test control boot s))
    (h : exec c s = .next s') (hp : P s) : P s' := by
  have hnext : ∀ {u : State}, P u → (Host.Outcome.next u : Host.Outcome State Fault Refusal) = .next s' → P s' :=
    fun hu he => Host.Outcome.next.inj he ▸ hu
  have hcommand : ∀ {t code owner}, (∀ {Q : State → Prop}, SideKeeper Q → ∀ l s, Q s → Q (owner l s).1) →
      (Host.Outcome.next (takeCommand t code owner s) : Host.Outcome State Fault Refusal) = .next s' → P s' :=
    fun ho he => hnext (hrecord _ _ _ _ (recordKeeps_runCommand ho) (recordKeeps_refuseBoot _)) he
  cases c with
  | request r => exact hpath (.request r)
  | requestStart t => exact hpath (.requestStart t)
  | journalEntry t => exact hpath (.journalEntry t)
  | priceWriteCapture t => exact hpath (.priceWriteCapture t)
  | acknowledgement t => exact hpath (.acknowledgement t)
  | dramGrant => exact hpath .dramGrant
  | passedWriteComplete => exact hpath .passedWriteComplete
  | passedReadComplete => exact hpath .passedReadComplete
  | placementIssue => exact K.placementIssue h hp
  | placementComplete => exact hnext (K.completePlacement (hs (by simp [CompletesWrite])) hp) h
  | captureReadIssue => exact hpath .captureReadIssue
  | captureReadComplete => exact hpath .captureReadComplete
  | checkReadIssue => exact K.checkReadIssue h hp
  | checkReadComplete => exact hnext (K.completeCheck hp) h
  | writeBackComplete => exact hnext (K.completeWriteBack (hs (by simp [CompletesWrite])) hp) h
  | periodBoundary => exact hpath .periodBoundary
  | compareEvent => exact hnext (K.compareEvent hp) h
  | roundTrigger => exact hnext (K.roundTrigger hp) h
  | epochBoundary => exact hnext (K.epochBoundary hp) h
  | secondEvent => exact hnext (K.secondEvent hp) h
  | graceExpiry => exact hnext (ite (K.endTest hp) hp) h
  | deferredCloseRetry => exact hnext (K.deferredRetry hp) h
  | pacingExpiry => exact hpath .pacingExpiry
  | dayOpenOrder => exact K.dayOpenOrder h hp
  | switchOrder => exact K.switchOrder h hp
  | partWriteIssue => exact K.partWriteIssue h hp
  | partWriteCommit => exact hnext (K.completePartWrite (hs (by simp [CompletesWrite])) hp) h
  | workRecordIssue => exact K.workRecordIssue h hp
  | workRecordComplete => exact hnext (K.completeWorkRecord (hs (by simp [CompletesWrite])) hp) h
  | zoneTimeout => exact hnext (K.watchSide (watchSide_zoneTimeout s) hp) h
  | imageReadComplete => exact hpath .imageReadComplete
  | eepromReadComplete e => exact hpath (.eepromReadComplete e)
  | resultLineIssue => exact K.resultLineIssue h hp
  | resultLineWritten => exact hnext (K.completeResultLine (hs (by simp [CompletesWrite])) hp) h
  | linkReset => exact hpath .linkReset
  | powerFailHoldBegin => exact hpath .powerFailHoldBegin
  | powerFailHoldEnd => exact K.powerFailHoldEnd h hp
  | startUp e p as => exact hpath (.startUp e p as)
  | ackReports t => exact hcommand (fun K _ s hp => ite_owner hp (ite_owner (K.evalIrq (K.setReports (s := s) (by exact id) hp)) hp)) h
  | setIrqThreshold t => exact hcommand (fun K _ s hp => K.evalIrq (K.setReports (s := s) (by exact id) hp)) h
  | queryStatus t => exact hcommand (fun K _ _ hp => K.arise hp) h
  | unlock t =>
    exact hcommand (fun K _ s hp => ite_owner hp
      (ite_owner (K.setGuard (s := s) (by rfl) (by exact id) hp) (K.setGuard (s := s) (by rfl) (by exact id) hp))) h
  | setWindow t => exact hcommand (fun K _ _ hp => K.ownSetWindow hp) h
  | setClassMap t => exact hcommand (fun K _ _ hp => K.ownSetClassMap hp) h
  | setClassDefaults t => exact hcommand (fun K _ _ hp => K.ownSetClassDefaults hp) h
  | dumpGuardLog t => exact hcommand (fun K _ _ hp => foldl (fun _ _ h => K.arise h) _ hp) h
  | clearGuardLog t => exact hcommand (fun K _ s hp => K.setGuard (s := s) (by rfl) (fun _ => Nat.zero_le _) hp) h
  | setTimebase t => exact hcommand (fun K _ s hp => K.setTime (s := s) hp) h
  | setClock t => exact hcommand (fun K _ s hp => K.setTime (s := s) hp) h
  | setSchedule t => exact hcommand (fun K _ _ hp => K.ownSetSchedule hp) h
  | queryTotals t => exact hcommand (fun K _ _ hp => K.ownQueryTotals hp) h
  | setPriceView t => exact hcommand (fun K _ _ hp => K.ownSetPriceView hp) h
  | forceEffective t => exact hcommand (fun K _ _ hp => K.ownForceEffective hp) h
  | withdrawPrice t => exact hcommand (fun K _ _ hp => K.ownWithdrawPrice hp) h
  | queryWatch t => exact hcommand (fun K _ _ hp => K.arise hp) h
  | setRounds t => exact hcommand (fun K _ _ hp => K.ownSetRounds hp) h
  | startRound t =>
    exact hcommand (fun K _ _ hp => ite_owner hp (ite_owner hp (ite_owner hp (K.watchSide (watchSide_startRound _) hp)))) h
  | stopRound t => exact hcommand (fun K _ _ hp => K.ownStopRound hp) h
  | setGuestBudget t => exact hcommand (fun K _ _ hp => K.ownSetGuestBudget hp) h
  | clearGuestLatch t => exact hcommand (fun K _ s hp => ite_owner hp (K.arise (K.setGuest (s := s) (by rfl) hp))) h
  | openDay t => exact hcommand (fun K _ _ hp => K.ownOpenDay hp) h
  | closeDay t => exact hcommand (fun K _ _ hp => K.ownCloseDay hp) h
  | closeNow t => exact hcommand (fun K _ _ hp => ite_owner (K.endTest (K.setDay hp)) hp) h
  | exportBegin t => exact hcommand (fun K _ _ hp => K.ownExportBegin hp) h
  | exportComplete t => exact hcommand (fun K _ _ hp => K.ownExportComplete hp) h
  | exportAbort t => exact hcommand (fun K _ _ hp => K.ownExportAbort hp) h
  | reloadConfig t =>
    exact hnext (hrecord _ _ _ _
      (recordKeeps_runCommand (fun K _ s hp => ite_owner hp (ite_owner hp (K.setLoader (s := s) hp))))
      (recordKeeps_judgeLoad _ _ _)) h
  | loadConfig t =>
    exact hnext (hrecord _ _ _ _ (recordKeeps_runCommand (fun _ _ _ hp => hp)) (recordKeeps_judgeLoad _ _ _)) h
  | unknownCommand t =>
    exact hnext (hrecord _ _ _ _ (recordKeeps_runCommand (fun _ _ _ hp => hp)) (recordKeeps_refuseBoot _)) h
  | retainedSupplyLost => exact hnext (K.setRetained hp) h

end SideKeeper
end Sys2Proof.Machine
end

section
/-! PROOFS. Properties of the DRAM, the window table and the states of the two banks: one that the few operations changing
them keep (`Keeper`) is kept by every command and by an idle step. -/

namespace Sys2Proof.Machine

open Sys2Proof Sys2Proof.Safety

/-- A property of the DRAM, the window table and the bank states that a change of a bank's state with its window's
write-protect flag keeps (R24, R167), as do a change of WAN rights (R25), an accepted edit (R37), the application of a
valid image (R188) and a start-up (R189). -/
structure Keeper (P : State → Prop) : Prop where
  quiet : ∀ {s s'}, Quiet s s' → P s → P s'
  bankState : ∀ {bk st s}, P s → P (setBankState bk st s)
  rights : ∀ {bk r s}, P s → P (setWanRights bk r s)
  place : ∀ {i w s}, windowRefusal s i w = none → P s → P (placeWindow i w s)
  image : ∀ {i a b s}, windowsOk i.size i.windows = true → P s → P (applyImage i a b s)
  startUp : ∀ {e p as s}, P s → P (Machine.startUp e p as s)

namespace Keeper

open SideKeeper (ite foldl Stores CompletesWrite)

variable {P : State → Prop}

/-- What such a property keeps beside the request path. -/
theorem side (K : Keeper P) : SideKeeper P where
  aside := fun h _ hp => K.quiet h hp
  bankState := K.bankState
  rights := K.rights
  place := K.place
  image := K.image

/-! ### Single updates -/

theorem linkSide (K : Keeper P) {s s' : State} (h : LinkSide s s') (hp : P s) : P s' :=
  K.quiet (s := s) (.of_eq (by rw [h.mem]) (by rw [h.guard]) h.journal) hp

theorem setPrice (K : Keeper P) {s : State} {x : PriceState} (hp : P s) : P (s.setPrice x) := K.quiet (s := s) (.of_eq rfl rfl rfl) hp

theorem setGuest (K : Keeper P) {s : State} {x : GuestState} (hp : P s) : P (s.setGuest x) := K.quiet (s := s) (.of_eq rfl rfl rfl) hp

theorem setMem (K : Keeper P) {s : State} {x : MemState} (h : x.dram = s.mem.dram) (hp : P s) : P (s.setMem x) :=
  K.quiet (s := s) (.of_eq h rfl rfl) hp

theorem setGuard (K : Keeper P) {s : State} {x : GuardState} (h : x.windows = s.guard.windows) (hp : P s) :
    P (s.setGuard x) := K.quiet (s := s) (.of_eq rfl h rfl) hp

theorem releaseSlot (K : Keeper P) {src : Source} {s : State} (hp : P s) : P (releaseSlot src s) :=
  K.setMem (s := s) (x := (Machine.releaseSlot src s).mem) rfl hp

theorem portIdle (K : Keeper P) {s : State} (hp : P s) : P (portIdle s) := K.setMem rfl hp

/-! ### The capture queue and the Configuration Loader -/

theorem captured (K : Keeper P) {old : Line} {s : State} (hp : P s) : P (captured old s) := by
  unfold Machine.captured
  dsimp only
  split
  · rename_i c _
    have hcompared := fun u (hu : P u) => K.side.watchSide (watchSide_comparePrice old c.data c.addr u) hu
    refine ite ?_ ?_
    · unfold letGo
      split
      · exact K.linkSide (linkSide_handLine _ _ _ _ _) (K.setPrice (hcompared _ (K.setPrice hp)))
      · exact K.setPrice (hcompared _ (K.setPrice hp))
    · unfold discardHeld
      split
      · exact K.linkSide (linkSide_recordRefusal _ _ _ _) (K.setPrice (hcompared _ (K.setPrice hp)))
      · exact K.setPrice (hcompared _ (K.setPrice hp))
  · exact K.setPrice hp

theorem completeCapture (K : Keeper P) {b : Bool} {s : State} (hp : P s) : P (completeCapture b s) := by
  unfold Machine.completeCapture
  split
  · exact K.captured (K.releaseSlot hp)
  · exact hp

/-- R187: an image judged valid has windows in range that keep the three laws. -/
theorem windowsOk_of_judgeImage {b : ImageBits} {i : Image} {f : Nat} (h : judgeImage b = .valid i f) :
    windowsOk i.size i.windows = true := by
  unfold judgeImage at h
  split at h
  · rename_i x hx
    obtain ⟨rfl, _⟩ : x = i ∧ imageFormatOf b = f := by simpa using h
    unfold parseImage at hx
    split at hx
    · obtain ⟨y, _, hy⟩ := Option.bind_eq_some_iff.mp hx
      split at hy
      · rename_i hok
        obtain rfl := Option.some.inj hy
        exact hok
      · simp at hy
    · simp at hx
  · simp at h

theorem windowsOk_of_judgeEeprom {e : EepromRead} {i : Image} {f : Nat} (h : judgeEeprom e = .valid i f) :
    windowsOk i.size i.windows = true := by
  unfold judgeEeprom at h
  split at h
  · simp at h
  · dsimp only at h
    split at h
    · simp at h
    · exact windowsOk_of_judgeImage h

theorem endBootstrap (K : Keeper P) {o : LoadOrigin} {b : Bool} {f : Found} {s : State}
    (hf : ∀ i n, f = .valid i n → windowsOk i.size i.windows = true) (hp : P s) : P (endBootstrap o b f s) := by
  have hidle : P (s.setLoader { s.loader with load := .idle }) := K.side.setLoader hp
  cases f with
  | absent => exact K.side.setLoader hidle
  | bad n => exact K.side.setLoader hidle
  | valid i n =>
    refine ite (K.side.setLoader hidle) (foldl (fun s t h => K.linkSide (linkSide_runLines t 5 s) h) _ ?_)
    exact K.side.setLoader (K.side.arise (K.image (hf i n rfl) hidle))

theorem completeImageRead (K : Keeper P) {b : Bool} {s : State} (hp : P s) : P (completeImageRead b s) := by
  unfold Machine.completeImageRead
  split
  · have hread : P ((Machine.releaseSlot .configLoader s).setLoader
        { (Machine.releaseSlot .configLoader s).loader with access := .idle }) := K.side.setLoader (K.releaseSlot hp)
    refine ite (K.endBootstrap (by simp) hread) ?_
    unfold imageLine
    exact ite (K.endBootstrap (by simp) hread)
      (ite (K.endBootstrap (fun _ _ h => windowsOk_of_judgeImage h) hread) (K.side.readNext (K.side.setLoader hread)))
  · exact hp

/-! ### Grants and passed lines -/

theorem grant (K : Keeper P) {s : State} (hp : P s) : P (grant s) := by
  have hinserted : ∀ src a, P (grantInserted src a s) := fun src a => ite (K.side.completeBeyond (K.completeCapture (K.setMem rfl hp)) (K.completeImageRead (K.setMem rfl hp)) (K.setMem rfl hp)) (K.setMem rfl hp)
  have hpassed : ∀ p rest, P (grantPassed p rest s) := fun p rest => K.setMem rfl hp
  unfold Machine.grant
  split
  · exact hp
  · exact hinserted _ _
  · exact hpassed _ _
  · exact ite (hinserted _ _) (hpassed _ _)

theorem completeWrite (K : Keeper P) (hs : Stores P false) {p : PassedLine} {s : State} (hp : P s) :
    P (completeWrite p s) := by
  have hgood : ∀ {u}, P u → P (recordGood p.owner 0 u) := fun {u} hu => by
    unfold recordGood
    split
    · exact K.linkSide (.of_linesPass (linesPass_setOutcome _ _ _ _ u)) hu
    · exact hu
  have hcommitted : P (commitCarried p.commit (recordGood p.owner 0 (Machine.portIdle
      (s.setMem { s.mem with dram := Memory.writeLine s.mem.dram p.addr p.mask p.data })))) := by
    unfold commitCarried
    split
    · exact K.side.commitEntry (hgood (K.portIdle (hs rfl hp)))
    · exact hgood (K.portIdle (hs rfl hp))
  refine ite ?_ hcommitted
  unfold releasedDone
  dsimp only
  split
  · exact K.side.withdrawEntry (K.setPrice hcommitted)
  · exact K.setPrice hcommitted

theorem completeRead (K : Keeper P) {p : PassedLine} {s : State} (hp : P s) : P (completeRead p s) := by
  have hport : P (Machine.portIdle s) := K.portIdle hp
  unfold Machine.completeRead
  dsimp only
  split
  · exact hport
  · split
    · exact hport
    · split
      · refine K.linkSide (.of_linesPass (linesPass_setOutcome _ _ _ _ _)) ?_
        unfold observeRead
        split
        · exact K.side.watchSide (watchSide_observeLabelRead _ _) hport
        · exact K.side.observeExport hport
        · exact hport
      · exact hport

/-! ### Time -/

theorem guestBoundary (K : Keeper P) {s : State} (hp : P s) : P (guestBoundary s) := K.linkSide (linkSide_guestBoundary _) hp

/-- An idle step. -/
theorem idle (K : Keeper P) {s : State} (hp : P s) : P (idle s) :=
  K.side.idle (K.side.microsecond (K.linkSide (linkSide_pacingCheck _) (K.setGuest hp)) (fun _ => K.guestBoundary)) hp

/-! ### The rows of the table -/

theorem takeRecord (K : Keeper P) {t : Fin 64} {test : Nat → Bool} {control boot : Line → State → State}
    (hc : ∀ l s, P s → P (control l s)) (hb : ∀ l s, P s → P (boot l s)) {s : State} (hp : P s) :
    P (takeRecord t test control boot s) := by
  have hactive : P (activate t s) := K.linkSide (linkSide_updateRequest t _ s) hp
  unfold Machine.takeRecord
  split
  · exact ite (K.linkSide (linkSide_passTurn _ _ _) (hc _ _ hactive)) hp
  · exact ite (K.linkSide (linkSide_passTurn _ _ _) (hb _ _ hactive)) hp
  · exact hp

theorem requestStart (K : Keeper P) {t : Fin 64} {s s' : State} (h : execRequestStart t s = .next s') (hp : P s) : P s' := by
  unfold execRequestStart at h
  split at h
  · obtain rfl : s = s' := by simpa using h
    exact hp
  · split at h
    · dsimp only at h
      split at h <;> obtain rfl := Host.Outcome.next.inj h
      · exact K.linkSide rfl hp
      · exact K.linkSide (linkSide_runLines _ _ _) (K.linkSide (linkSide_updateRequest _ _ s) hp)
    · obtain rfl := Host.Outcome.next.inj h
      exact hp

theorem journalEntry (K : Keeper P) {t : Fin 64} {s s' : State} (h : execJournalEntry t s = .next s') (hp : P s) : P s' := by
  have hactive : P (activate t s) := K.linkSide (linkSide_updateRequest t _ s) hp
  unfold execJournalEntry at h
  split at h
  · split at h
    · dsimp only at h
      split at h <;> obtain rfl := Host.Outcome.next.inj h
      · have htaken := fun till x => K.side.setJournal
          (x := { (activate t s).journal with contexts := vput (activate t s).journal.contexts till x })
          (fun bk => by cases bk <;> rfl) hactive
        have hbank : ∀ (bk : Bank) (till : Fin 32) (l : Line) (e : EntryFields),
            P (acceptEntry bk till l e (activate t s)).2.2 := fun bk till l e =>
          K.side.setBank (by cases bk <;> rfl) (htaken till _)
        unfold passEntry
        exact K.linkSide (linkSide_runLines _ _ _) (K.linkSide (linkSide_handLine _ _ _ _ _)
          (K.linkSide (linkSide_updateRequest _ _ _) (ite (K.side.endTest (hbank _ _ _ _)) (hbank _ _ _ _))))
      · unfold refuseEntry
        refine K.linkSide (linkSide_runLines _ _ _) (K.linkSide (linkSide_recordRefusal _ _ _ _) (ite ?_ hactive))
        exact ite hactive (K.side.arise (K.side.setBank rfl hactive))
      · exact hactive
    · obtain rfl := Host.Outcome.next.inj h
      exact hp
  · obtain rfl := Host.Outcome.next.inj h
    exact hp

theorem priceWriteCapture (K : Keeper P) {t : Fin 64} {s s' : State} (h : execPriceWriteCapture t s = .next s') (hp : P s) :
    P s' := by
  unfold execPriceWriteCapture at h
  split at h
  · split at h <;> obtain rfl := Host.Outcome.next.inj h
    · exact K.linkSide (linkSide_runLines _ _ _) (K.setPrice (K.linkSide (linkSide_updateRequest _ _ _)
        (K.linkSide (linkSide_updateRequest _ _ s) hp)))
    · exact hp
  · obtain rfl := Host.Outcome.next.inj h
    exact hp

theorem acknowledgement (K : Keeper P) {t : Fin 64} {s s' : State} (h : execAcknowledgement t s = .next s') (hp : P s) :
    P s' := by
  unfold execAcknowledgement at h
  split at h <;> obtain rfl := Host.Outcome.next.inj h
  · exact K.linkSide (linkSide_passTurn _ _ _) (K.side.watchSide (watchSide_takeAck _ _)
      (K.linkSide (linkSide_updateRequest _ _ s) hp))
  · exact hp

theorem linkReset (K : Keeper P) {s s' : State} (h : execLinkReset s = .next s') (hp : P s) : P s' := by
  obtain rfl := Host.Outcome.next.inj h
  have hprice : ∀ {u : State}, P u → P (priceLinkReset u) := fun {u} hu => by
    unfold priceLinkReset
    dsimp only
    split
    · exact K.setPrice hu
    · exact K.setPrice (K.setMem rfl (K.setPrice hu))
    · exact K.setPrice hu
  exact K.side.labelLinkReset (hprice (K.setGuest (K.setGuard rfl (K.linkSide (s := s.setMem _) rfl (K.setMem rfl hp)))))

theorem holdBegin (K : Keeper P) {s s' : State} (h : execPowerFailHoldBegin s = .next s') (hp : P s) : P s' := by
  unfold execPowerFailHoldBegin at h
  split at h <;> obtain rfl := Host.Outcome.next.inj h
  · exact hp
  · exact K.setMem rfl (foldl (f := fun s t => answerRetry t s) (fun s _ hs => K.linkSide (s := s) rfl hs) _ hp)

theorem eepromReadComplete (K : Keeper P) {e : EepromRead} {s s' : State} (h : execEepromReadComplete e s = .next s')
    (hp : P s) : P s' := by
  unfold execEepromReadComplete at h
  split at h <;> obtain rfl := Host.Outcome.next.inj h
  · exact ite (K.endBootstrap (fun _ _ h => windowsOk_of_judgeEeprom h) hp)
      (K.side.endReload (fun _ _ h => windowsOk_of_judgeEeprom h) hp)
  · exact hp

theorem captureReadIssue (K : Keeper P) {s s' : State} (h : execCaptureReadIssue s = .next s') (hp : P s) : P s' := by
  unfold execCaptureReadIssue at h
  split at h
  · exact SideKeeper.guarded h (K.side.issueAccess (K.setPrice hp)) hp
  · obtain rfl := Host.Outcome.next.inj h
    exact hp

theorem passedWriteComplete (K : Keeper P) (hs : Stores P false) {s s' : State} (h : execPassedWriteComplete s = .next s')
    (hp : P s) : P s' := by
  unfold execPassedWriteComplete at h
  split at h <;> obtain rfl := Host.Outcome.next.inj h
  · exact ite (K.completeWrite hs hp) hp
  · exact hp

theorem passedReadComplete (K : Keeper P) {s s' : State} (h : execPassedReadComplete s = .next s') (hp : P s) : P s' := by
  unfold execPassedReadComplete at h
  split at h <;> obtain rfl := Host.Outcome.next.inj h
  · exact ite (K.completeRead hp) hp
  · exact hp

/-- Every command keeps the property, where the commands that complete a write may store their line. -/
theorem exec (K : Keeper P) {c : Instr} (hs : CompletesWrite c → Stores P false) {s s' : State}
    (h : exec c s = .next s') (hp : P s) : P s' := by
  have hnext : ∀ {u : State}, P u → (Host.Outcome.next u : Host.Outcome State Fault Refusal) = .next s' → P s' :=
    fun hu he => Host.Outcome.next.inj he ▸ hu
  refine K.side.exec hs (fun hc => ?_) (fun t test control boot hcontrol hboot =>
    K.takeRecord (fun l s hs => hcontrol K.side l s hs) (fun l s hs => hboot K.side l s hs) hp) h hp
  cases hc with
  | request r =>
    change execRequest r s = _ at h
    unfold execRequest at h
    split at h <;> obtain rfl := Host.Outcome.next.inj h <;> exact K.linkSide (s := s) rfl hp
  | requestStart t => exact K.requestStart h hp
  | journalEntry t => exact K.journalEntry h hp
  | priceWriteCapture t => exact K.priceWriteCapture h hp
  | acknowledgement t => exact K.acknowledgement h hp
  | dramGrant => exact hnext (ite (K.grant hp) hp) h
  | passedWriteComplete => exact K.passedWriteComplete (hs (by simp [CompletesWrite])) h hp
  | passedReadComplete => exact K.passedReadComplete h hp
  | captureReadIssue => exact K.captureReadIssue h hp
  | captureReadComplete => exact hnext (K.completeCapture hp) h
  | periodBoundary => exact hnext (K.side.watchSide (watchSide_labelBoundary _) (K.guestBoundary (K.side.setTime hp))) h
  | pacingExpiry => exact hnext (K.linkSide (linkSide_pacingCheck _) (K.setGuest hp)) h
  | imageReadComplete => exact hnext (K.completeImageRead hp) h
  | eepromReadComplete e => exact K.eepromReadComplete h hp
  | linkReset => exact K.linkReset h hp
  | powerFailHoldBegin => exact K.holdBegin h hp
  | startUp e p as => exact hnext (K.startUp hp) h

/-- Every step keeps the property, where a stored line keeps it. -/
theorem step (K : Keeper P) (hs : Stores P false) {s s' : State} (h : step s = .next s') (hp : P s) : P s' := by
  unfold Machine.step at h
  split at h
  · obtain rfl := Host.Outcome.next.inj h
    exact K.idle hp
  · exact K.exec (fun _ => hs) h (K.side.setPending hp)

end Keeper
end Sys2Proof.Machine
end

section
/-! PROOFS. The two invariants of DRAM and of the window table, and the frame of DRAM over the commands that complete no
write: three properties that the operations of `Keeper` keep. -/

namespace Sys2Proof.Machine

open Sys2Proof Sys2Proof.Safety

theorem quiet_of_watchSide {s s' : State} (h : WatchSide s s') : Quiet s s' :=
  .of_eq (by rw [h.mem]) (by rw [h.guard]) h.journal

/-! ### The application of an image, part by part (R188) -/

/-- R188: the tables, the sizes and the chain seed of an image put in place. -/
def imageBase (i : Image) (fromEeprom : Bool) (s : State) : State :=
  let s := s.setGuard (applyLock fromEeprom { s.guard with
    windows := i.windows, classMap := i.classMap, defaults := i.defaults, keys := some i.keys })
  let s := s.setMem { s.mem with size := i.size, fill := i.fill }
  s.setJournal { s.journal with chainSeed := i.chainSeed }

/-- R24, R185: the journal windows follow their banks. -/
def imageBanked (i : Image) (fromEeprom : Bool) (s : State) : State :=
  applyBankWindow (applyBankWindow (imageBase i fromEeprom s) .a) .b

/-- R188: the settings of an image put in place. -/
def imageSet (i : Image) (atStart fromEeprom : Bool) (s : State) : State :=
  let u := applyTimed i atStart (recordWindows (imageBanked i fromEeprom s))
  let u := u.setLabel { u.label with settings := i.rounds }
  let u := u.setReports { u.reports with threshold := i.threshold }
  u.setPrice { u.price with views := i.views }

theorem applyImage_eq (i : Image) (a b : Bool) (s : State) :
    applyImage i a b s = (evalIrq (tellOwners s.guard.windows true (imageSet i a b s))).setLoader
      { (evalIrq (tellOwners s.guard.windows true (imageSet i a b s))).loader with running := true } := by
  unfold applyImage imageSet imageBanked imageBase
  dsimp only

theorem quiet_imageSet (i : Image) (a b : Bool) (s : State) : Quiet (imageBanked i b s) (imageSet i a b s) := by
  unfold imageSet
  generalize imageBanked i b s = u
  have htimed : Quiet u (applyTimed i a (recordWindows u)) := by
    cases a <;> exact .of_eq rfl rfl rfl
  obtain ⟨hm, hw, hb⟩ := htimed
  exact ⟨hm, hw, hb⟩

theorem quiet_applyImage (i : Image) (a b : Bool) (s : State) : Quiet (imageBanked i b s) (applyImage i a b s) := by
  obtain ⟨hm, hw, hb⟩ := quiet_imageSet i a b s
  obtain ⟨hm', hw', hb'⟩ := quiet_of_watchSide
    ((watchSide_tellOwners s.guard.windows true (imageSet i a b s)).trans (watchSide_evalIrq _))
  rw [applyImage_eq]
  exact ⟨hm'.trans hm, hw'.trans hw, fun bk => (hb' bk).trans (hb bk)⟩

/-! ### DRAM -/

theorem placeWindow_mem (i : Fin 16) (w : Window) (s : State) : (placeWindow i w s).mem = s.mem := by
  refine (watchSide_tellOwners _ _ _).mem.trans ?_
  split <;> rfl

theorem applyBankWindow_mem (s : State) (bk : Bank) : (applyBankWindow s bk).mem = s.mem := by
  unfold applyBankWindow
  dsimp only
  split <;> simp

theorem applyImage_dram (i : Image) (a b : Bool) (s : State) : (applyImage i a b s).mem.dram = s.mem.dram := by
  rw [(quiet_applyImage i a b s).1]
  unfold imageBanked
  rw [applyBankWindow_mem, applyBankWindow_mem]
  rfl

theorem startUp_dram (e : EepromRead) (p : Bool) (as : List (Fin 64)) (s : State) :
    (startUp e p as s).mem.dram = s.mem.dram := by
  have himage : ∀ f u, (startImage f u).2.2.mem.dram = u.mem.dram := fun f u => by
    unfold startImage
    split
    · rfl
    · rfl
    · split
      · rfl
      · exact applyImage_dram _ _ _ u
  unfold startUp startHold
  simp only [State.setMem_mem, endTest_mem, apply_ite State.mem, arise_mem, ite_self]
  rw [himage]
  simp only [apply_ite State.mem, takeRetained, State.setRetained_mem, State.setDay_mem, State.setPrice_mem,
    State.setJournal_mem, ite_self]
  rfl

/-- A property of DRAM alone. -/
theorem keeper_of_dram (Q : Memory → Prop) : Keeper (fun s => Q s.mem.dram) where
  quiet := fun h hp => by rw [h.1]; exact hp
  bankState := fun hp => by rw [setBankState_mem]; exact hp
  rights := fun hp => by rw [setWanRights_mem]; exact hp
  place := fun _ hp => by rw [placeWindow_mem]; exact hp
  image := fun _ hp => by rw [applyImage_dram]; exact hp
  startUp := fun hp => by rw [startUp_dram]; exact hp

/-- Settles O4: a stored line keeps the canonical form, and every other operation leaves DRAM alone. -/
theorem everyStepKeepsMemoryCanonical : Obligations.EveryStepKeepsMemoryCanonical := by
  unfold Obligations.EveryStepKeepsMemoryCanonical
  intro s s' hs h
  exact (keeper_of_dram (fun m => m.wf = true)).step (fun _ => Memory.writeLine_wf _ _ _) h hs

/-- Settles O8: the commands that complete no write keep `DRAM = s.mem.dram`. -/
theorem dramChangesOnlyWhereWritesComplete : Obligations.DramChangesOnlyWhereWritesComplete := by
  unfold Obligations.DramChangesOnlyWhereWritesComplete
  intro c s s' h1 h2 h3 h4 h5 h6 h
  refine (keeper_of_dram (fun m => m = s.mem.dram)).exec (fun hc => ?_) h rfl
  simp [SideKeeper.CompletesWrite, h1, h2, h3, h4, h5, h6] at hc

/-! ### The three laws of the window table (R18) -/

theorem tableLaws_iff {ws : Vector Window 16} : tableLaws ws = true ↔
    ∀ i j : Fin 16, i ≠ j → ws[i].enabled = true → ws[j].enabled = true → ws[i].compatible ws[j] = true := by
  simp only [tableLaws, List.all_eq_true, mem_sixteen, forall_const, Bool.or_eq_true, decide_eq_true_eq,
    Bool.not_eq_true', Bool.eq_false_iff]
  constructor
  · intro h i j hij hi hj
    rcases h i j with ((h | h) | h) | h
    · exact absurd h hij
    · exact absurd hi h
    · exact absurd hj h
    · exact h
  · intro h i j
    by_cases hij : i = j
    · exact .inl (.inl (.inl hij))
    · by_cases hi : ws[i].enabled = true
      · by_cases hj : ws[j].enabled = true
        · exact .inr (h i j hij hi hj)
        · exact .inl (.inr hj)
      · exact .inl (.inl (.inr hi))

theorem compatible_comm (v w : Window) : v.compatible w = w.compatible v := by
  have hbus : v.sharesBus w = w.sharesBus v := Bool.and_comm _ _
  have hrole : v.sharesRole w = w.sharesRole v := by
    simp only [Window.sharesRole]
    by_cases h : v.role = w.role
    · rw [h]
    · simp [h, Ne.symm h]
  have halias : v.aliases w = w.aliases v := by
    simp only [Window.aliases, Bool.and_assoc]
    rw [Bool.or_comm, Bool.and_comm (decide (v.dramFirst ≤ w.dramLast))]
  simp only [Window.compatible, hbus, hrole, halias]

/-- Two windows agree in what the three laws read. -/
def Window.SameShape (v w : Window) : Prop :=
  v.enabled = w.enabled ∧ v.base = w.base ∧ v.limit = w.limit ∧ v.offset = w.offset ∧ v.role = w.role

theorem compatible_of_sameShape {v v' w w' : Window} (hv : v'.SameShape v) (hw : w'.SameShape w) :
    v'.compatible w' = v.compatible w := by
  obtain ⟨_, hb, hl, ho, hr⟩ := hv
  obtain ⟨_, hb', hl', ho', hr'⟩ := hw
  unfold Window.compatible Window.sharesBus Window.sharesRole Window.aliases Window.dramFirst Window.dramLast
  rw [hb, hl, ho, hr, hb', hl', ho', hr']

theorem tableLaws_of_sameShape {ws vs : Vector Window 16} (h : ∀ i : Fin 16, vs[i].SameShape ws[i])
    (hl : tableLaws ws = true) : tableLaws vs = true := by
  rw [tableLaws_iff] at hl ⊢
  intro i j hij hi hj
  rw [compatible_of_sameShape (h i) (h j)]
  exact hl i j hij ((h i).1 ▸ hi) ((h j).1 ▸ hj)

/-- R18: under the laws one enabled window at most holds a role. -/
theorem role_unique {ws : Vector Window 16} (hl : tableLaws ws = true) {i j : Fin 16} {r : Role} (hr : r ≠ .plain)
    (hi : ws[i].enabled = true) (hj : ws[j].enabled = true) (hir : ws[i].role = r) (hjr : ws[j].role = r) : i = j := by
  by_contra hij
  have hc := tableLaws_iff.mp hl i j hij hi hj
  simp only [Window.compatible, Window.sharesRole, hir, hjr, Bool.and_eq_true, Bool.not_eq_true', Bool.and_eq_false_iff,
    decide_eq_false_iff_not] at hc
  exact hc.1.2.elim (fun h => h hr) (fun h => h trivial)

theorem roleIndex_of_holder {ws : Vector Window 16} (hl : tableLaws ws = true) {i : Fin 16} {r : Role} (hr : r ≠ .plain)
    (hi : ws[i].enabled = true) (hir : ws[i].role = r) : roleIndex ws r = some i := by
  cases h : roleIndex ws r with
  | none =>
    simp only [roleIndex, List.find?_eq_none, mem_sixteen, forall_const, Bool.and_eq_true, decide_eq_true_eq, not_and] at h
    exact absurd hir (h i hi)
  | some j =>
    have hj := List.find?_some h
    simp only [Bool.and_eq_true, decide_eq_true_eq] at hj
    rw [role_unique hl hr hj.1 hi hj.2 hir]

theorem holder_of_roleIndex {ws : Vector Window 16} {i : Fin 16} {r : Role} (h : roleIndex ws r = some i) :
    ws[i].enabled = true ∧ ws[i].role = r := by
  have hi := List.find?_some h
  simpa only [Bool.and_eq_true, decide_eq_true_eq] using hi

theorem vput_get {α : Type} {n : Nat} (v : Vector α n) (i j : Fin n) (x : α) :
    (vput v i x)[j] = if i = j then x else v[j] := by
  by_cases h : i = j
  · subst h
    simp [vput]
  · have hne : (i : Nat) ≠ j := fun e => h (Fin.ext e)
    simp [vput, hne, h]

/-- R20: under the laws, a change of a role's window changes every enabled window that holds the role and no other. -/
theorem windows_updateRoleWindow {s : State} (hl : TableLaws s) {r : Role} (hr : r ≠ .plain) (f : Window → Window)
    (i : Fin 16) : (updateRoleWindow r f s).guard.windows[i] =
      if s.guard.windows[i].enabled = true ∧ s.guard.windows[i].role = r then f s.guard.windows[i] else s.guard.windows[i] := by
  by_cases hi : s.guard.windows[i].enabled = true ∧ s.guard.windows[i].role = r
  · rw [if_pos hi, updateRoleWindow_of_some (roleIndex_of_holder hl hr hi.1 hi.2)]
    simp only [State.setGuard_guard, vput_get, if_true]
  · rw [if_neg hi]
    cases h : roleIndex s.guard.windows r with
    | none => rw [updateRoleWindow_of_none h]
    | some j =>
      have hji : j ≠ i := fun e => hi (e ▸ holder_of_roleIndex h)
      rw [updateRoleWindow_of_some h]
      simp only [State.setGuard_guard, vput_get, if_neg hji]

theorem tableLaws_updateRoleWindow {s : State} (hl : TableLaws s) {r : Role} (hr : r ≠ .plain) {f : Window → Window}
    (hf : ∀ w, (f w).SameShape w) : TableLaws (updateRoleWindow r f s) := by
  refine tableLaws_of_sameShape (fun i => ?_) hl
  rw [windows_updateRoleWindow hl hr]
  split
  · exact hf _
  · exact ⟨rfl, rfl, rfl, rfl, rfl⟩

/-! ### The write-protect flags of the journal windows (R24) -/

/-- R24: the write-protect flag of a bank's window mirrors its state. -/
def MirrorsBank (bk : Bank) (s : State) : Prop :=
  ∀ i : Fin 16, s.guard.windows[i].enabled = true → s.guard.windows[i].role = bk.role →
    s.guard.windows[i].writeProtect = (getBank s.journal bk).state.protects

theorem protectMirrors_iff {s : State} : ProtectMirrors s ↔ ∀ bk, MirrorsBank bk s := by
  have hmatch : ∀ st : BankState, (match st with | .open => false | .closing => false | _ => true) = st.protects :=
    fun st => by cases st <;> rfl
  constructor
  · intro h bk i he hr
    exact (h i bk he hr).trans (hmatch _)
  · intro h i bk he hr
    exact (h bk i he hr).trans (hmatch _).symm

theorem Bank.role_ne_plain (bk : Bank) : bk.role ≠ .plain := by cases bk <;> simp [Bank.role]

theorem Bank.role_injective {bk bk' : Bank} (h : bk.role = bk'.role) : bk = bk' := by
  cases bk <;> cases bk' <;> first | rfl | simp [Bank.role] at h

/-- A change of a bank's window that keeps shape and write-protect keeps every mirror. -/
theorem mirrorsBank_updateRoleWindow {s : State} (hl : TableLaws s) {r : Role} (hr : r ≠ .plain) {f : Window → Window}
    (hf : ∀ w, (f w).SameShape w) {bk : Bank} (hw : r = bk.role → ∀ w, (f w).writeProtect = w.writeProtect)
    (h : MirrorsBank bk s) : MirrorsBank bk (updateRoleWindow r f s) := by
  intro i he hrole
  rw [updateRoleWindow_journal]
  rw [windows_updateRoleWindow hl hr] at he hrole ⊢
  split at he <;> rename_i hi
  · rw [if_pos hi] at hrole ⊢
    rw [(hf _).2.2.2.2] at hrole
    rw [hw (hi.2.symm.trans hrole)]
    exact h i hi.1 hrole
  · rw [if_neg hi] at hrole ⊢
    exact h i he hrole

theorem getBank_setBank_ne {bk bk' : Bank} (h : bk ≠ bk') (r : BankRecord) (s : State) :
    getBank (setBank bk r s).journal bk' = getBank s.journal bk' := by
  cases bk <;> cases bk' <;> first | rfl | exact absurd rfl h

theorem tableLaws_setBankState {s : State} (hl : TableLaws s) (bk : Bank) (st : BankState) : TableLaws (setBankState bk st s) :=
  tableLaws_updateRoleWindow (s := setBank bk _ s) (by unfold TableLaws; rw [setBank_guard]; exact hl) bk.role_ne_plain
    (fun _ => ⟨rfl, rfl, rfl, rfl, rfl⟩)

/-- R24, R167: the mirror of the bank that passes to a state. -/
theorem mirrorsBank_setBankState_same {s : State} (hl : TableLaws s) (bk : Bank) (st : BankState) :
    MirrorsBank bk (setBankState bk st s) := by
  have hl' : TableLaws (setBank bk { getBank s.journal bk with state := st } s) := by
    unfold TableLaws
    rw [setBank_guard]
    exact hl
  intro i he hrole
  unfold setBankState at he hrole ⊢
  rw [updateRoleWindow_journal, getBank_setBank]
  rw [windows_updateRoleWindow hl' bk.role_ne_plain] at he hrole ⊢
  split at he <;> rename_i hi
  · rw [if_pos hi]
  · rw [if_neg hi] at hrole
    exact absurd ⟨he, hrole⟩ hi

theorem mirrorsBank_setBankState_ne {s : State} (hl : TableLaws s) {bk bk' : Bank} (hne : bk ≠ bk') (st : BankState)
    (h : MirrorsBank bk' s) : MirrorsBank bk' (setBankState bk st s) := by
  refine mirrorsBank_updateRoleWindow (s := setBank bk { getBank s.journal bk with state := st } s)
    (f := fun w => { w with writeProtect := st.protects }) (by unfold TableLaws; rw [setBank_guard]; exact hl)
    bk.role_ne_plain (fun _ => ⟨rfl, rfl, rfl, rfl, rfl⟩) (fun e => absurd (Bank.role_injective e) hne) ?_
  intro i he hrole
  rw [setBank_guard] at he hrole ⊢
  rw [getBank_setBank_ne hne]
  exact h i he hrole

theorem windowsSound_setBankState {s : State} (h : WindowsSound s) (bk : Bank) (st : BankState) :
    WindowsSound (setBankState bk st s) := by
  obtain ⟨hl, hm⟩ := h
  refine ⟨tableLaws_setBankState hl bk st, protectMirrors_iff.mpr fun bk' => ?_⟩
  by_cases hbk : bk = bk'
  · subst hbk
    exact mirrorsBank_setBankState_same hl bk st
  · exact mirrorsBank_setBankState_ne hl hbk st (protectMirrors_iff.mp hm bk')

theorem tableLaws_setWanRights {s : State} (hl : TableLaws s) (bk : Bank) (r : Rights) : TableLaws (setWanRights bk r s) :=
  tableLaws_updateRoleWindow hl bk.role_ne_plain (fun _ => ⟨rfl, rfl, rfl, rfl, rfl⟩)

theorem mirrorsBank_setWanRights {s : State} (hl : TableLaws s) {bk bk' : Bank} (r : Rights) (h : MirrorsBank bk' s) :
    MirrorsBank bk' (setWanRights bk r s) :=
  mirrorsBank_updateRoleWindow (f := fun w => { w with rights := w.rights.put .wan r }) hl bk.role_ne_plain
    (fun _ => ⟨rfl, rfl, rfl, rfl, rfl⟩) (fun _ _ => rfl) h

theorem windowsSound_setWanRights {s : State} (h : WindowsSound s) (bk : Bank) (r : Rights) :
    WindowsSound (setWanRights bk r s) := by
  obtain ⟨hl, hm⟩ := h
  exact ⟨tableLaws_setWanRights hl bk r,
    protectMirrors_iff.mpr fun bk' => mirrorsBank_setWanRights hl r (protectMirrors_iff.mp hm bk')⟩

/-- The invariant reads the window table and the bank states alone. -/
theorem windowsSound_of_quiet {s s' : State} (h : Quiet s s') (hs : WindowsSound s) : WindowsSound s' := by
  obtain ⟨_, hw, hb⟩ := h
  obtain ⟨hl, hm⟩ := hs
  refine ⟨by unfold TableLaws; rw [hw]; exact hl, protectMirrors_iff.mpr fun bk i he hrole => ?_⟩
  rw [hw] at he hrole ⊢
  rw [hb]
  exact protectMirrors_iff.mp hm bk i he hrole

/-! ### An accepted edit (R34 to R37) -/

/-- R34, R35: an accepted edit of an enabled entry stands beside every other enabled entry. -/
theorem compatible_of_windowRefusal {s : State} {i : Fin 16} {w : Window} (h : windowRefusal s i w = none)
    (hw : w.enabled = true) {j : Fin 16} (hij : i ≠ j) (hj : s.guard.windows[j].enabled = true) :
    w.compatible s.guard.windows[j] = true := by
  have hother : ∀ f, otherEntry s.guard.windows i f = false → f s.guard.windows[j] = false := by
    intro f hf
    simp only [otherEntry, List.any_eq_false, mem_sixteen, forall_const, Bool.and_eq_true, decide_eq_true_eq, not_and] at hf
    simpa using hf j ⟨Ne.symm hij, hj⟩
  unfold windowRefusal at h
  dsimp only at h
  split at h
  · simp at h
  · rw [if_neg (by simp [hw])] at h
    split at h
    · simp at h
    · split at h
      · simp at h
      · split at h
        · simp at h
        · split at h
          · simp at h
          · rename_i hbus hrole halias
            simp only [Bool.not_eq_true] at hbus hrole halias
            simp only [Window.compatible, hother _ hbus, hother _ hrole, hother _ halias, Bool.not_false, Bool.and_self]

theorem storedWindow_sameShape (j : JournalState) (w : Window) : (storedWindow j w).SameShape w := by
  unfold storedWindow
  split <;> exact ⟨rfl, rfl, rfl, rfl, rfl⟩

theorem storedWindow_writeProtect {j : JournalState} {w : Window} {bk : Bank} (he : w.enabled = true) (hr : w.role = bk.role) :
    (storedWindow j w).writeProtect = (getBank j bk).state.protects := by
  cases bk <;> simp [storedWindow, he, hr, Bank.role, Role.bank]

theorem tableLaws_vput {ws : Vector Window 16} (hl : tableLaws ws = true) {i : Fin 16} {w : Window}
    (hw : w.enabled = true → ∀ j : Fin 16, i ≠ j → ws[j].enabled = true → w.compatible ws[j] = true) :
    tableLaws (vput ws i w) = true := by
  rw [tableLaws_iff] at hl ⊢
  intro a b hab ha hb
  rw [vput_get] at ha hb ⊢
  rw [vput_get]
  by_cases hia : i = a
  · have hib : i ≠ b := fun e => hab (hia.symm.trans e)
    rw [if_pos hia] at ha ⊢
    rw [if_neg hib] at hb ⊢
    exact hw ha b hib hb
  · rw [if_neg hia] at ha ⊢
    by_cases hib : i = b
    · rw [if_pos hib] at hb ⊢
      rw [compatible_comm]
      exact hw hb a hia ha
    · rw [if_neg hib] at hb ⊢
      exact hl a b hab ha hb

theorem windowsSound_placeWindow {s : State} {i : Fin 16} {w : Window} (hnone : windowRefusal s i w = none)
    (h : WindowsSound s) : WindowsSound (placeWindow i w s) := by
  obtain ⟨hl, hm⟩ := h
  have hshape := storedWindow_sameShape s.journal w
  have hplaced : WindowsSound (s.setGuard { s.guard with windows := vput s.guard.windows i (storedWindow s.journal w) }) := by
    refine ⟨tableLaws_vput hl fun he j hij hj => ?_, protectMirrors_iff.mpr fun bk j he hrole => ?_⟩
    · rw [compatible_of_sameShape hshape ⟨rfl, rfl, rfl, rfl, rfl⟩]
      exact compatible_of_windowRefusal hnone (hshape.1 ▸ he) hij hj
    · simp only [State.setGuard_guard, State.setGuard_journal, vput_get] at he hrole ⊢
      split
      · rename_i hij
        rw [if_pos hij] at he hrole
        exact storedWindow_writeProtect (hshape.1 ▸ he) (hshape.2.2.2.2 ▸ hrole)
      · rename_i hij
        rw [if_neg hij] at he hrole
        exact protectMirrors_iff.mp hm bk j he hrole
  have hside : ∀ u : State, WindowsSound u → WindowsSound (tellOwners s.guard.windows false u) := fun u hu =>
    windowsSound_of_quiet (quiet_of_watchSide (watchSide_tellOwners _ _ u)) hu
  unfold placeWindow
  refine hside _ ?_
  split
  · exact windowsSound_of_quiet (.of_eq rfl rfl rfl) hplaced
  · exact hplaced

/-! ### The application of an image (R188) and a start-up -/

theorem windowsSound_applyBankWindow {s : State} (hl : TableLaws s) :
    WindowsSound (applyBankWindow (applyBankWindow s .a) .b) := by
  have hone : ∀ {u : State} (bk : Bank), TableLaws u → TableLaws (applyBankWindow u bk) ∧ MirrorsBank bk (applyBankWindow u bk) := by
    intro u bk hu
    have hstate := tableLaws_setBankState hu bk (getBank u.journal bk).state
    have hmirror := mirrorsBank_setBankState_same hu bk (getBank u.journal bk).state
    unfold applyBankWindow
    dsimp only
    split
    · exact ⟨tableLaws_setWanRights hstate _ _, mirrorsBank_setWanRights hstate _ hmirror⟩
    · exact ⟨hstate, hmirror⟩
  have hother : ∀ {u : State}, TableLaws u → MirrorsBank .a u → MirrorsBank .a (applyBankWindow u .b) := by
    intro u hu ha
    have hstate := tableLaws_setBankState hu .b (getBank u.journal .b).state
    have hmirror := mirrorsBank_setBankState_ne hu (bk := .b) (by simp) (getBank u.journal .b).state ha
    unfold applyBankWindow
    dsimp only
    split
    · exact mirrorsBank_setWanRights hstate _ hmirror
    · exact hmirror
  obtain ⟨hla, hma⟩ := hone .a hl
  obtain ⟨hlb, hmb⟩ := hone .b hla
  refine ⟨hlb, protectMirrors_iff.mpr fun bk => ?_⟩
  cases bk with
  | a => exact hother hla hma
  | b => exact hmb

theorem windowsSound_applyImage {i : Image} (hok : windowsOk i.size i.windows = true) (a b : Bool) (s : State) :
    WindowsSound (applyImage i a b s) := by
  have hlaws : tableLaws i.windows = true := by
    simp only [windowsOk, Bool.and_eq_true] at hok
    exact hok.2
  have hbase : TableLaws (imageBase i b s) := by
    cases b <;> exact hlaws
  exact windowsSound_of_quiet (quiet_applyImage i a b s) (windowsSound_applyBankWindow hbase)

theorem windowsSound_of_disabled {s : State} (h : s.guard.windows = Vector.replicate 16 Window.disabled) : WindowsSound s := by
  have hoff : ∀ i : Fin 16, s.guard.windows[i].enabled = false := fun i => by
    rw [h]
    simp [Window.disabled]
  refine ⟨tableLaws_iff.mpr fun i j _ hi _ => ?_, fun i bk hi _ => ?_⟩ <;> rw [hoff i] at hi <;> exact absurd hi (by simp)

theorem windowsSound_startUp (e : EepromRead) (p : Bool) (as : List (Fin 64)) (s : State) :
    WindowsSound (startUp e p as s) := by
  have himage : ∀ f u, (∀ i n, f = .valid i n → windowsOk i.size i.windows = true) → WindowsSound u →
      WindowsSound (startImage f u).2.2 := fun f u hf hu => by
    unfold startImage
    split
    · exact hu
    · exact hu
    · split
      · exact hu
      · exact windowsSound_applyImage (hf _ _ rfl) _ _ u
  have hbase : WindowsSound (if retainedValid s.retained then takeRetained s (startBase as s) else startBase as s) := by
    split <;> exact windowsSound_of_disabled rfl
  have hstarted := himage (judgeEeprom e) _ (fun _ _ h => Keeper.windowsOk_of_judgeEeprom h) hbase
  have harise : ∀ b u, WindowsSound u → WindowsSound (arise b u) := fun b u hu =>
    windowsSound_of_quiet (quiet_of_watchSide (watchSide_arise b u)) hu
  have hend : ∀ u, WindowsSound u → WindowsSound (startHold p (endTest u)) := fun u hu =>
    windowsSound_of_quiet (.of_eq (endTest_mem u ▸ rfl) (by simp [startHold]) (by simp [startHold])) hu
  unfold startUp
  refine hend _ ?_
  by_cases hv : retainedValid s.retained = true
  · simp only [if_pos hv] at hstarted ⊢
    exact harise _ _ hstarted
  · simp only [if_neg hv] at hstarted ⊢
    exact harise _ _ (harise _ _ hstarted)

theorem keeper_windowsSound : Keeper WindowsSound where
  quiet := windowsSound_of_quiet
  bankState := fun h => windowsSound_setBankState h _ _
  rights := fun h => windowsSound_setWanRights h _ _
  place := windowsSound_placeWindow
  image := fun hok _ => windowsSound_applyImage hok _ _ _
  startUp := fun _ => windowsSound_startUp _ _ _ _

/-- Settles O6: the operations that change the table or a bank's state keep both laws. -/
theorem everyStepKeepsWindowsSound : Obligations.EveryStepKeepsWindowsSound := by
  unfold Obligations.EveryStepKeepsWindowsSound
  intro s s' hs h
  exact keeper_windowsSound.step (fun _ _ _ _ _ hu => windowsSound_of_quiet (.of_eq rfl rfl rfl) hu) h hs

end Sys2Proof.Machine
end

section
/-! PROOFS. The judgement of a control record before its owner acts (R31, R32, R41, R191), the report ring's commands (R52,
R54) and the queries (R45, R110, R131). -/

namespace Sys2Proof.Machine

open Sys2Proof Sys2Proof.Safety

/-! ### A record at its turn, taken by either page -/

theorem notGuest_of_atTurn {t : Fin 64} {s : State} {r : Request} {k : Nat} {l : ReqLine} {h : Handler}
    (e : turnLine t s = some (r, k, l, h)) : r.cls ≠ .guest := by
  rcases (handlerOf_spec (turnLine_spec e).2.2.2.2).2.1 with h | h <;> rw [h] <;> simp

/-- R40, R41: a record of the control window whose code satisfies the row's test. -/
theorem takeRecord_control {t : Fin 64} {s : State} {k : Nat} {l : ReqLine} {test : Nat → Bool}
    {control boot : Line → State → State} {u : State} (e : AtTurn s t k l .control)
    (htest : test (recordCode l.data) = true) (hrun : ∀ x, control l.data (s.setLink x) = u.setLink x) :
    RecordPasses t k l u (takeRecord t test control boot s) := by
  obtain ⟨r, hr⟩ := e
  unfold takeRecord
  rw [hr]
  simp only [htest, if_true]
  rw [activate_eq, hrun]
  exact RecordPasses.of_setLink (passTurn_recordPasses hr rfl (notGuest_of_atTurn hr))

/-- R191: a record of the bootstrap page whose code satisfies the row's test. -/
theorem takeRecord_bootstrap {t : Fin 64} {s : State} {k : Nat} {l : ReqLine} {test : Nat → Bool}
    {control boot : Line → State → State} {u : State} (e : AtTurn s t k l .bootstrap)
    (htest : test (recordCode l.data) = true) (hrun : ∀ x, boot l.data (s.setLink x) = u.setLink x) :
    RecordPasses t k l u (takeRecord t test control boot s) := by
  obtain ⟨r, hr⟩ := e
  unfold takeRecord
  rw [hr]
  simp only [htest, if_true]
  rw [activate_eq, hrun]
  exact RecordPasses.of_setLink (passTurn_recordPasses hr rfl (notGuest_of_atTurn hr))

/-- R41: what a taken record that the lock refuses does, whatever its owner. -/
theorem runCommand_of_lockRefusal {owner : Owner} {l : Line} {s : State} {c : RefusalCode}
    (h : lockRefusal s.guard.lock (recordCode l) = some c) : runCommand owner l s = answered l (some c) (recordTaken s) := by
  simp only [runCommand, h, countTaken_eq]
  rfl

theorem recordTaken_answered_setLink (l : Line) (a : Option RefusalCode) (s : State) (x : LinkState) :
    answered l a (recordTaken (s.setLink x)) = (answered l a (recordTaken s)).setLink x := by
  rw [recordTaken_setLink, answered_setLink]

theorem refuseBoot_setLink (c : RefusalCode) (l : Line) (s : State) (x : LinkState) :
    refuseBoot c l (s.setLink x) = (bootAnswered l .refused (some c) s).setLink x := rfl

/-! ### The lock's judgement (R32) -/

theorem exec_protectedCommand : ∀ x ∈ protectedCommands, codeProtected x.2 = true ∧ ∃ owner boot, ∀ t s,
    exec (x.1 t) s = .next (takeRecord t (fun c => c == x.2) (runCommand owner) boot s) := by
  simp only [protectedCommands, List.forall_mem_cons, List.not_mem_nil, false_implies, implies_true, and_true]
  exact ⟨⟨rfl, ownSetWindow, _, fun _ _ => rfl⟩, ⟨rfl, ownSetClassMap, _, fun _ _ => rfl⟩,
    ⟨rfl, ownSetClassDefaults, _, fun _ _ => rfl⟩, ⟨rfl, ownSetPriceView, _, fun _ _ => rfl⟩,
    ⟨rfl, ownReloadConfig, _, fun _ _ => rfl⟩⟩

/-- Settles O22: a protected record is judged by the lock as it stood, before its owner. -/
theorem protectedCommandsNeedOpenLock : Obligations.ProtectedCommandsNeedOpenLock := by
  unfold Obligations.ProtectedCommandsNeedOpenLock
  intro x hx t s k l hturn hcode
  obtain ⟨hprotected, owner, boot, hexec⟩ := exec_protectedCommand x hx
  have hrefused : ∀ c, lockRefusal s.guard.lock (recordCode l.data) = some c → ∃ s', exec (x.1 t) s = .next s' ∧
      RecordPasses t k l (answered l.data (some c) (recordTaken s)) s' := fun c hc =>
    ⟨_, hexec t s, takeRecord_control hturn (by simp [hcode]) fun y =>
      (runCommand_of_lockRefusal (s := s.setLink y) hc).trans (recordTaken_answered_setLink l.data (some c) s y)⟩
  refine ⟨fun hlock => hrefused .locked ?_, fun hlock => hrefused .barred ?_⟩ <;>
    simp [lockRefusal, hcode, hprotected, hlock]

/-! ### Undefined codes, and the bootstrap page (R41, R191) -/

theorem codeProtected_of_undefined {c : Nat} (h : codeDefined c = false) : codeProtected c = false := by
  rw [Bool.eq_false_iff] at h ⊢
  intro hp
  refine h ?_
  simp only [codeProtected, List.contains_eq_mem, decide_eq_true_eq, List.mem_cons, List.not_mem_nil, or_false] at hp
  rcases hp with rfl | rfl | rfl | rfl | rfl <;> rfl

theorem exec_unknownCommand (t : Fin 64) (s : State) : exec (.unknownCommand t) s =
    .next (takeRecord t (fun c => !codeDefined c) (runCommand ownUnknown) (refuseBoot .unknownCommand) s) := rfl

/-- Every command of the control window but the two loads is taken by `takeCommand` with its owner. -/
theorem exec_controlCommand : ∀ x ∈ controlCommands, ∃ owner, ∀ t s, exec (x.1 t) s = .next (takeCommand t x.2 owner s) := by
  simp only [controlCommands, List.forall_mem_cons, List.not_mem_nil, false_implies, implies_true, and_true]
  exact ⟨⟨ownAckReports, fun _ _ => rfl⟩, ⟨ownSetIrqThreshold, fun _ _ => rfl⟩, ⟨ownQueryStatus, fun _ _ => rfl⟩,
    ⟨ownUnlock, fun _ _ => rfl⟩, ⟨ownSetWindow, fun _ _ => rfl⟩, ⟨ownSetClassMap, fun _ _ => rfl⟩,
    ⟨ownSetClassDefaults, fun _ _ => rfl⟩, ⟨ownDumpGuardLog, fun _ _ => rfl⟩, ⟨ownClearGuardLog, fun _ _ => rfl⟩,
    ⟨ownSetTimebase, fun _ _ => rfl⟩, ⟨ownSetClock, fun _ _ => rfl⟩, ⟨ownSetSchedule, fun _ _ => rfl⟩,
    ⟨ownQueryTotals, fun _ _ => rfl⟩, ⟨ownSetPriceView, fun _ _ => rfl⟩, ⟨ownForceEffective, fun _ _ => rfl⟩,
    ⟨ownWithdrawPrice, fun _ _ => rfl⟩, ⟨ownQueryWatch, fun _ _ => rfl⟩, ⟨ownSetRounds, fun _ _ => rfl⟩,
    ⟨ownStartRound, fun _ _ => rfl⟩, ⟨ownStopRound, fun _ _ => rfl⟩, ⟨ownSetGuestBudget, fun _ _ => rfl⟩,
    ⟨ownClearGuestLatch, fun _ _ => rfl⟩, ⟨ownOpenDay, fun _ _ => rfl⟩, ⟨ownCloseDay, fun _ _ => rfl⟩,
    ⟨ownCloseNow, fun _ _ => rfl⟩, ⟨ownExportBegin, fun _ _ => rfl⟩, ⟨ownExportComplete, fun _ _ => rfl⟩,
    ⟨ownExportAbort, fun _ _ => rfl⟩⟩

/-- Settles O23: an undefined code is not protected, so that the lock lets it pass to the refusal; the bootstrap page
refuses before the lock is consulted. -/
theorem undefinedAndBootstrapCommandsRefused : Obligations.UndefinedAndBootstrapCommandsRefused := by
  unfold Obligations.UndefinedAndBootstrapCommandsRefused
  refine ⟨fun t s k l hcode => ⟨?control, ?bootstrap⟩, ?wrongState⟩
  case control =>
    intro hturn
    refine ⟨_, exec_unknownCommand t s, takeRecord_control hturn (by simp [hcode]) fun x => ?_⟩
    have hlock : codeProtected (recordCode l.data) = true → (s.setLink x).guard.lock = .open := by
      rw [codeProtected_of_undefined hcode]
      exact fun h => absurd h (by decide)
    exact (runCommand_eq hlock rfl).trans (recordTaken_answered_setLink l.data (some .unknownCommand) s x)
  case bootstrap =>
    intro hturn
    exact ⟨_, exec_unknownCommand t s, takeRecord_bootstrap hturn (by simp [hcode]) (refuseBoot_setLink _ l.data s)⟩
  case wrongState =>
    intro x hx t s k l hturn hcode
    obtain ⟨owner, hexec⟩ := exec_controlCommand x hx
    exact ⟨_, hexec t s, takeRecord_bootstrap hturn (by simp [hcode]) (refuseBoot_setLink _ l.data s)⟩

/-! ### The report ring's commands (R52 to R54) -/

theorem exec_ackReports (t : Fin 64) (s : State) :
    exec (.ackReports t) s = .next (takeCommand t 0x0001 ownAckReports s) := rfl

theorem exec_setIrqThreshold (t : Fin 64) (s : State) :
    exec (.setIrqThreshold t) s = .next (takeCommand t 0x0002 ownSetIrqThreshold s) := rfl

theorem unconsumed_of_pos {p c cap : Nat} (h : cap ≠ 0) : unconsumed p c cap = (p + cap - c) % cap := if_neg h

/-- R53: the output at a ring with a capacity. -/
theorem evalIrq_of_pos {s : State} (h : reportCapacity s ≠ 0) : evalIrq s = s.setReports { s.reports with
    irq := decide (min s.reports.threshold (reportCapacity s - 1) ≤
      (s.reports.producer + reportCapacity s - s.reports.consumer) % reportCapacity s) } := by
  have hlevel : ∀ th p c cap, cap ≠ 0 → irqLevel th p c cap = decide (min th (cap - 1) ≤ (p + cap - c) % cap) :=
    fun th p c cap hcap => by simp [irqLevel, hcap, unconsumed_of_pos]
  unfold evalIrq
  rw [hlevel _ _ _ (ringCapacity s.guard.windows .report) h]
  rfl

/-- R53: the output at any ring. -/
theorem evalIrq_eq (s : State) : evalIrq s = s.setReports { s.reports with
    irq := decide (reportCapacity s ≠ 0) && decide (min s.reports.threshold (reportCapacity s - 1) ≤
      (s.reports.producer + reportCapacity s - s.reports.consumer) % reportCapacity s) } := by
  by_cases h : reportCapacity s = 0
  · have hzero : ringCapacity s.guard.windows .report = 0 := h
    simp [evalIrq, irqLevel, h, hzero]
  · rw [evalIrq_of_pos h]
    simp [h]

theorem reportCapacity_eq_zero {s : State} (h : roleWindow s.guard.windows .report = none) : reportCapacity s = 0 := by
  simp [reportCapacity, ringCapacity, h]

theorem ownAckReports_of_taken {l : Line} {s : State} (hcap : getField l 4 2 < reportCapacity s)
    (hrange : (getField l 4 2 + reportCapacity s - s.reports.consumer) % reportCapacity s ≤
      (s.reports.producer + reportCapacity s - s.reports.consumer) % reportCapacity s) :
    ownAckReports l s = (evalIrq (s.setReports { s.reports with consumer := getField l 4 2 }), none) := by
  have hpos : reportCapacity s ≠ 0 := by omega
  unfold ownAckReports
  simp only [hpos, if_false, unconsumed_of_pos hpos, if_pos (And.intro hcap hrange)]

theorem ownAckReports_of_empty {l : Line} {s : State} (h : reportCapacity s = 0) :
    ownAckReports l s = (s, some .wrongState) := by
  simp [ownAckReports, h]

theorem ownAckReports_of_range {l : Line} {s : State} (hpos : reportCapacity s ≠ 0)
    (h : reportCapacity s ≤ getField l 4 2 ∨
      (s.reports.producer + reportCapacity s - s.reports.consumer) % reportCapacity s <
        (getField l 4 2 + reportCapacity s - s.reports.consumer) % reportCapacity s) :
    ownAckReports l s = (s, some .badArg) := by
  unfold ownAckReports
  simp only [hpos, if_false, unconsumed_of_pos hpos]
  rw [if_neg (by omega)]

/-- Settles O24: the consumer index or the threshold is set, and the output re-evaluated from both. -/
theorem reportRingCommands : Obligations.ReportRingCommands := by
  unfold Obligations.ReportRingCommands
  refine ⟨?ack, ?ackWrongState, ?ackBadArg, ?threshold⟩
  case ack =>
    refine carriesOut_of_owner exec_ackReports fun l s x ⟨hcap, hrange⟩ => ?_
    rw [ownAckReports_of_taken (s := (recordTaken s).setLink x) hcap hrange]
    exact congrArg (·, none) (evalIrq_of_pos (Nat.ne_of_gt (Nat.zero_lt_of_lt hcap)))
  case ackWrongState =>
    exact refuses_of_owner exec_ackReports fun l s x hwindow =>
      ownAckReports_of_empty (s := (recordTaken s).setLink x) (reportCapacity_eq_zero hwindow)
  case ackBadArg =>
    exact refuses_of_owner exec_ackReports fun l s x ⟨hpos, hrange⟩ =>
      ownAckReports_of_range (s := (recordTaken s).setLink x) hpos hrange
  case threshold =>
    exact carriesOut_of_owner exec_setIrqThreshold fun l s x _ => congrArg (·, none) (evalIrq_eq _)

/-! ### The queries -/

theorem exec_queryStatus (t : Fin 64) (s : State) :
    exec (.queryStatus t) s = .next (takeCommand t 0x0003 ownQueryStatus s) := rfl

theorem exec_queryTotals (t : Fin 64) (s : State) :
    exec (.queryTotals t) s = .next (takeCommand t 0x0030 ownQueryTotals s) := rfl

theorem exec_queryWatch (t : Fin 64) (s : State) :
    exec (.queryWatch t) s = .next (takeCommand t 0x0043 ownQueryWatch s) := rfl

theorem arise_setLink (b : ReportBody) (s : State) (x : LinkState) : arise b (s.setLink x) = (reported b s).setLink x :=
  reported_setLink b s x

theorem index32_of_val {n : Nat} {t : Fin 32} (h : n = t.val) : index32 n = some t := by
  subst h
  simp [index32]

theorem index32_eq_none {n : Nat} (h : 32 ≤ n) : index32 n = none := dif_neg (by omega)

theorem ownQueryTotals_of_till {l : Line} {s : State} {bk : Bank} {t : Fin 32} (hb : getField l 4 1 = bk.code)
    (ht : getField l 5 1 = t.val) :
    ownQueryTotals l s = (arise (.totalsTill bk t (getBank s.journal bk).totals.tills[t]) s, none) := by
  have hne : (t : Nat) ≠ 255 := by omega
  simp only [ownQueryTotals, hb, Bank.ofCode_code, ht, if_neg hne, index32_of_val rfl]

theorem ownQueryTotals_of_store {l : Line} {s : State} {bk : Bank} (hb : getField l 4 1 = bk.code)
    (ht : getField l 5 1 = 255) :
    ownQueryTotals l s = (arise (.totalsStore bk (getBank s.journal bk).totals.store) s, none) := by
  simp only [ownQueryTotals, hb, Bank.ofCode_code, ht, if_true]

theorem ownQueryTotals_of_badArg {l : Line} {s : State}
    (h : 2 ≤ getField l 4 1 ∨ (32 ≤ getField l 5 1 ∧ getField l 5 1 ≠ 255)) : ownQueryTotals l s = (s, some .badArg) := by
  unfold ownQueryTotals
  cases hb : Bank.ofCode (getField l 4 1) with
  | none => rfl
  | some bk =>
    rcases h with hbank | ⟨htill, hstore⟩
    · rw [Bank.ofCode_eq_none hbank] at hb
      simp at hb
    · simp only [if_neg hstore, index32_eq_none htill]

/-- R131: the entry of an item that no other entry has stands at its position. -/
theorem entryAt_of_getElem {table : List WatchEntry} (hnodup : (table.map (fun e => e.item)).Nodup) {e : WatchEntry} {i : Nat}
    (h : table[i]? = some e) (k : Nat) : entryAt e.item k table = some (e, k + i) := by
  induction table generalizing i k with
  | nil => simp at h
  | cons x rest ih =>
    rw [List.map_cons, List.nodup_cons] at hnodup
    cases i with
    | zero =>
      obtain rfl : x = e := by simpa using h
      simp [entryAt]
    | succ i =>
      rw [List.getElem?_cons_succ] at h
      have hne : x.item ≠ e.item := fun heq =>
        hnodup.1 (heq ▸ List.mem_map_of_mem (List.mem_of_getElem? h))
      rw [entryAt, if_neg hne, ih hnodup.2 h (k + 1)]
      simp only [Nat.add_assoc, Nat.add_comm 1 i]

theorem entryAt_eq_none {table : List WatchEntry} {item : Nat} (h : ∀ e ∈ table, e.item ≠ item) (k : Nat) :
    entryAt item k table = none := by
  induction table generalizing k with
  | nil => rfl
  | cons x rest ih =>
    rw [entryAt, if_neg (h x (by simp)), ih (fun e he => h e (by simp [he]))]

/-- Settles O25: each query reports what stands once its record is taken. -/
theorem queriesReportStateAsItStands : Obligations.QueriesReportStateAsItStands := by
  unfold Obligations.QueriesReportStateAsItStands
  refine ⟨?status, ?till, ?store, ?badArg, ?watched, ?unwatched⟩
  case status =>
    exact carriesOut_of_owner exec_queryStatus fun l s x _ => congrArg (·, none) (arise_setLink _ (recordTaken s) x)
  case till =>
    intro bk till
    refine carriesOut_of_owner exec_queryTotals fun l s x ⟨hbank, htill⟩ => ?_
    rw [ownQueryTotals_of_till hbank htill]
    exact congrArg (·, none) (arise_setLink _ (recordTaken s) x)
  case store =>
    intro bk
    refine carriesOut_of_owner exec_queryTotals fun l s x ⟨hbank, hstore⟩ => ?_
    rw [ownQueryTotals_of_store hbank hstore]
    exact congrArg (·, none) (arise_setLink _ (recordTaken s) x)
  case badArg =>
    exact refuses_of_owner exec_queryTotals fun l s x hcode => ownQueryTotals_of_badArg hcode
  case watched =>
    intro e i
    refine carriesOut_of_owner exec_queryWatch fun l s x ⟨hget, hitem, hnodup⟩ => ?_
    have hentry : entryAt (getField l 4 4) 0 s.price.table = some (e, i) := by
      rw [← hitem, entryAt_of_getElem hnodup hget, Nat.zero_add]
    have hown : ownQueryWatch l ((recordTaken s).setLink x) =
        (arise (.watch (getField l 4 4) (entryAt (getField l 4 4) 0 s.price.table)) ((recordTaken s).setLink x), none) := rfl
    rw [hown, hentry]
    exact congrArg (·, none) (arise_setLink _ (recordTaken s) x)
  case unwatched =>
    refine carriesOut_of_owner exec_queryWatch fun l s x hnone => ?_
    have hown : ownQueryWatch l ((recordTaken s).setLink x) =
        (arise (.watch (getField l 4 4) (entryAt (getField l 4 4) 0 s.price.table)) ((recordTaken s).setLink x), none) := rfl
    rw [hown, entryAt_eq_none hnone]
    exact congrArg (·, none) (arise_setLink _ (recordTaken s) x)

/-! ### UNLOCK (R31) -/

theorem exec_unlock (t : Fin 64) (s : State) : exec (.unlock t) s = .next (takeCommand t 0x0010 ownUnlock s) := rfl

/-- R32: the lock that the taking of a record leaves. -/
theorem recordTaken_lock_eq_barred {s : State} : (recordTaken s).guard.lock = .barred ↔ s.guard.lock = .barred := by
  unfold recordTaken
  cases s.guard.lock <;> simp

theorem recordTaken_lock {s : State} (h : s.guard.lock ≠ .barred) : (recordTaken s).guard.lock = .locked := by
  unfold recordTaken
  cases hl : s.guard.lock <;> simp_all

theorem ownUnlock_of_barred {l : Line} {s : State} (h : s.guard.lock = .barred) : ownUnlock l s = (s, some .barred) := by
  simp [ownUnlock, h]

theorem ownUnlock_of_keys {l : Line} {s : State} (h : s.guard.lock ≠ .barred)
    (hkeys : s.guard.keys = some (getWord l 4, getWord l 8)) :
    ownUnlock l s = (s.setGuard { s.guard with lock := .open, badKeys := 0 }, none) := by
  simp [ownUnlock, h, hkeys]

theorem ownUnlock_of_badKey {l : Line} {s : State} (h : s.guard.lock ≠ .barred)
    (hkeys : s.guard.keys ≠ some (getWord l 4, getWord l 8)) :
    ownUnlock l s = (s.setGuard (badKey s.guard), some .badKey) := by
  simp [ownUnlock, h, hkeys]

/-- Settles O27: the three answers of UNLOCK's owner, on the lock that the taking of the record left. -/
theorem unlockJudgesTheKeyPair : Obligations.UnlockJudgesTheKeyPair := by
  unfold Obligations.UnlockJudgesTheKeyPair
  refine ⟨?opens, ?badKey, ?barred⟩
  case opens =>
    exact carriesOut_of_owner exec_unlock fun l s x ⟨hlock, hkeys⟩ =>
      ownUnlock_of_keys (s := (recordTaken s).setLink x) (recordTaken_lock_eq_barred.not.mpr hlock) hkeys
  case badKey =>
    refine refuses_of_owner exec_unlock fun l s x ⟨hlock, hkeys⟩ => ?_
    rw [ownUnlock_of_badKey (s := (recordTaken s).setLink x) (recordTaken_lock_eq_barred.not.mpr hlock) hkeys]
    simp only [badKey, State.setLink_guard, recordTaken_lock hlock]
    rfl
  case barred =>
    exact refuses_of_owner exec_unlock fun l s x hlock =>
      ownUnlock_of_barred (s := (recordTaken s).setLink x) (recordTaken_lock_eq_barred.mpr hlock)

end Sys2Proof.Machine
end

section
/-! PROOFS. What the records and images hold (section 12.6): each reader of codes beside the codes it accepts; the class
tables (R38, R39, R126), the time settings (R60 to R63) and the edits of the window table (R34 to R37). -/

namespace Sys2Proof.Machine

open Sys2Proof Sys2Proof.Safety

/-! ### Codes -/

theorem InitClass.ofCode_eq_some_iff {c : Nat} {x : InitClass} : InitClass.ofCode c = some x ↔ c = x.code := by
  constructor
  · intro h
    unfold InitClass.ofCode at h
    split at h <;> first | (obtain rfl := Option.some.inj h; rfl) | exact absurd h (by simp)
  · rintro rfl
    cases x <;> rfl

theorem InitClass.ofCode_eq_none {c : Nat} (h : 6 ≤ c) : InitClass.ofCode c = none := by
  obtain ⟨d, rfl⟩ := Nat.exists_eq_add_of_le' h
  rfl

theorem PriceView.ofCode_eq_none {c : Nat} (h : 2 ≤ c) : PriceView.ofCode c = none := by
  obtain ⟨d, rfl⟩ := Nat.exists_eq_add_of_le' h
  rfl

theorem Rights.ofCode_eq_none {c : Nat} (h : 3 ≤ c) : Rights.ofCode c = Option.none := by
  obtain ⟨d, rfl⟩ := Nat.exists_eq_add_of_le' h
  rfl

/-- Section 12.1: the code of a right. -/
def Rights.toCode : Rights → Nat
  | .none => 0
  | .read => 1
  | .readWrite => 2

theorem Rights.ofCode_eq_some_iff {c : Nat} {x : Rights} : Rights.ofCode c = some x ↔ c = x.toCode := by
  constructor
  · intro h
    unfold Rights.ofCode at h
    split at h <;> first | (obtain rfl := Option.some.inj h; rfl) | exact absurd h (by simp)
  · rintro rfl
    cases x <;> rfl

theorem boolOf_eq_some_iff {c : Nat} {x : Bool} : boolOf c = some x ↔ c = marker x := by
  constructor
  · intro h
    unfold boolOf at h
    split at h <;> first | (obtain rfl := Option.some.inj h; rfl) | exact absurd h (by simp)
  · rintro rfl
    cases x <;> rfl

theorem Role.ofCode_eq_some_iff {c : Nat} {x : Role} : Role.ofCode c = some x ↔ c = roleCode x := by
  constructor
  · intro h
    unfold Role.ofCode at h
    split at h <;> first | (obtain rfl := Option.some.inj h; rfl) | exact absurd h (by simp)
  · rintro rfl
    cases x <;> rfl

/-! ### The rights and the class map -/

theorem readRights_eq_some_iff {n : Nat} {b : BitVec n} {o : Nat} {r : PerClass Rights} : readRights b o = some r ↔
    Rights.ofCode (getField b o 1) = some r.cpu ∧ Rights.ofCode (getField b (o + 1) 1) = some r.lan ∧
      Rights.ofCode (getField b (o + 2) 1) = some r.guest ∧ Rights.ofCode (getField b (o + 3) 1) = some r.label ∧
      Rights.ofCode (getField b (o + 4) 1) = some r.wan ∧ Rights.ofCode (getField b (o + 5) 1) = some r.other := by
  obtain ⟨cpu, lan, guest, label, wan, other⟩ := r
  simp only [readRights, Option.bind_eq_bind, Option.pure_def, Option.bind_eq_some_iff, Option.some.injEq,
    PerClass.mk.injEq]
  constructor
  · rintro ⟨_, h1, _, h2, _, h3, _, h4, _, h5, _, h6, rfl, rfl, rfl, rfl, rfl, rfl⟩
    exact ⟨h1, h2, h3, h4, h5, h6⟩
  · rintro ⟨h1, h2, h3, h4, h5, h6⟩
    exact ⟨_, h1, _, h2, _, h3, _, h4, _, h5, _, h6, rfl, rfl, rfl, rfl, rfl, rfl⟩

theorem rightsAt_iff {n : Nat} {b : BitVec n} {o : Nat} {r : PerClass Rights} :
    RightsAt b o r ↔ readRights b o = some r := by
  have hat : RightsAt b o r ↔ ∀ c : InitClass, Rights.ofCode (getField b (o + c.code) 1) = some (r.get c) :=
    forall_congr' fun c => by
      rw [Rights.ofCode_eq_some_iff]
      cases r.get c <;> exact Iff.rfl
  rw [hat, readRights_eq_some_iff]
  constructor
  · exact fun h => ⟨h .cpu, h .lan, h .guest, h .label, h .wan, h .other⟩
  · rintro ⟨h1, h2, h3, h4, h5, h6⟩ c
    cases c <;> assumption

/-- The class that a byte of an initiator map gives a tag, FFh giving OTHER where `unmapped` allows it. -/
def readClass (unmapped : Bool) (code : Nat) : Option InitClass :=
  if unmapped && code == 255 then some .other else InitClass.ofCode code

theorem readClasses_eq_some_iff {n : Nat} {b : BitVec n} {u : Bool} {k o : Nat} {ls : List InitClass} :
    readClasses b o u k = some ls ↔
      ls.length = k ∧ ∀ i (hi : i < ls.length), readClass u (getField b (o + i) 1) = some ls[i] := by
  induction k generalizing o ls with
  | zero =>
    cases ls <;> simp [readClasses]
  | succ k ih =>
    have hread : readClasses b o u (k + 1) = (readClass u (getField b o 1)).bind fun c =>
        (readClasses b (o + 1) u k).bind fun rest => some (c :: rest) := by
      simp only [readClasses, readClass, Option.bind_eq_bind, Option.pure_def]
      split <;> rfl
    simp only [hread, Option.bind_eq_some_iff, ih, Option.some.injEq]
    constructor
    · rintro ⟨c, hc, rest, ⟨hlen, hrest⟩, rfl⟩
      refine ⟨by simp [hlen], fun i hi => ?_⟩
      cases i with
      | zero => exact hc
      | succ i =>
        rw [List.getElem_cons_succ, ← hrest i (by simpa using hi)]
        congr 2
        omega
    · rintro ⟨hlen, hall⟩
      cases ls with
      | nil => simp at hlen
      | cons c rest =>
        refine ⟨c, hall 0 (by simp), rest, ⟨by simpa using hlen, fun i hi => ?_⟩, rfl⟩
        have hi' := hall (i + 1) (by simpa using hi)
        rw [List.getElem_cons_succ] at hi'
        rw [← hi']
        congr 2
        omega

theorem foldl_vput_get {α : Type} {n : Nat} (is : List (Fin n)) (g : Fin n → α) (v : Vector α n) (j : Fin n) :
    (is.foldl (fun v i => vput v i (g i)) v)[j] = if j ∈ is then g j else v[j] := by
  induction is generalizing v with
  | nil => simp
  | cons i rest ih =>
    rw [List.foldl_cons, ih, vput_get]
    by_cases hj : j ∈ rest
    · simp [hj]
    · by_cases hij : i = j
      · subst hij
        simp [hj]
      · simp [hj, hij, Ne.symm hij]

theorem classMapOf_get (ls : List InitClass) (i : Fin 16) : (classMapOf ls)[i] = ls.getD i.val .other := by
  unfold classMapOf
  rw [foldl_vput_get sixteen (fun i => ls.getD i.val .other), if_pos (mem_sixteen i)]

theorem vector_ext_fin {α : Type} {n : Nat} {v w : Vector α n} (h : ∀ i : Fin n, v[i] = w[i]) : v = w :=
  Vector.ext fun i hi => h ⟨i, hi⟩

/-- R38, section 12.6: the initiator map that sixteen codes give. -/
theorem readClassMap_eq_some_iff {n : Nat} {b : BitVec n} {o : Nat} {u : Bool} {m : Vector InitClass 16} :
    readClassMap b o u = some m ↔ ∀ i : Fin 16, readClass u (getField b (o + i.val) 1) = some m[i] := by
  unfold readClassMap
  simp only [Option.map_eq_some_iff, readClasses_eq_some_iff]
  constructor
  · rintro ⟨ls, ⟨hlen, hall⟩, rfl⟩ i
    have hi : i.val < ls.length := by omega
    rw [hall i hi, classMapOf_get, List.getD_eq_getElem?_getD, List.getElem?_eq_getElem hi]
    rfl
  · intro h
    refine ⟨m.toList, ⟨by simp, fun i hi => ?_⟩, vector_ext_fin fun i => ?_⟩
    · exact h ⟨i, by simpa using hi⟩
    · rw [classMapOf_get]
      simp

/-! ### The class tables (R38, R39, R126) -/

theorem exec_setClassMap (t : Fin 64) (s : State) :
    exec (.setClassMap t) s = .next (takeCommand t 0x0012 ownSetClassMap s) := rfl

theorem exec_setClassDefaults (t : Fin 64) (s : State) :
    exec (.setClassDefaults t) s = .next (takeCommand t 0x0013 ownSetClassDefaults s) := rfl

theorem exec_setPriceView (t : Fin 64) (s : State) :
    exec (.setPriceView t) s = .next (takeCommand t 0x0040 ownSetPriceView s) := rfl

theorem ownSetClassMap_of_some {l : Line} {s : State} {m : Vector InitClass 16} (h : readClassMap l 4 false = some m) :
    ownSetClassMap l s = (s.setGuard { s.guard with classMap := m }, none) := by
  simp only [ownSetClassMap, h]

theorem ownSetClassMap_of_none {l : Line} {s : State} (h : readClassMap l 4 false = none) :
    ownSetClassMap l s = (s, some .badArg) := by
  simp only [ownSetClassMap, h]

theorem ownSetClassDefaults_of_some {l : Line} {s : State} {r : PerClass Rights} (h : readRights l 4 = some r) :
    ownSetClassDefaults l s = (s.setGuard { s.guard with defaults := r }, none) := by
  simp only [ownSetClassDefaults, h]

theorem ownSetClassDefaults_of_none {l : Line} {s : State} (h : readRights l 4 = none) :
    ownSetClassDefaults l s = (s, some .badArg) := by
  simp only [ownSetClassDefaults, h]

theorem ownSetPriceView_of_codes {l : Line} {s : State} {c : InitClass} {v : PriceView} (hc : getField l 4 1 = c.code)
    (hv : PriceView.ofCode (getField l 5 1) = some v) :
    ownSetPriceView l s = (s.setPrice { s.price with views := s.price.views.put c v }, none) := by
  simp only [ownSetPriceView, InitClass.ofCode_eq_some_iff.mpr hc, hv]

theorem ownSetPriceView_of_undefined {l : Line} {s : State} (h : 6 ≤ getField l 4 1 ∨ 2 ≤ getField l 5 1) :
    ownSetPriceView l s = (s, some .badArg) := by
  rcases h with hclass | hview
  · simp only [ownSetPriceView, InitClass.ofCode_eq_none hclass]
  · cases hc : InitClass.ofCode (getField l 4 1) <;> simp only [ownSetPriceView, PriceView.ofCode_eq_none hview, hc]

/-- R38: a map with an undefined code is not read. -/
theorem readClassMap_of_undefined {l : Line} {i : Fin 16} (h : 6 ≤ getField l (4 + i.val) 1) :
    readClassMap l 4 false = none := by
  refine Option.eq_none_iff_forall_ne_some.mpr fun m hm => ?_
  have hi := readClassMap_eq_some_iff.mp hm i
  rw [readClass, Bool.false_and, if_neg (by simp), InitClass.ofCode_eq_none h] at hi
  simp at hi

/-- R39: rights with an undefined code are not read. -/
theorem readRights_of_undefined {n : Nat} {b : BitVec n} {o i : Nat} (hi : i < 6) (h : 3 ≤ getField b (o + i) 1) :
    readRights b o = none := by
  refine Option.eq_none_iff_forall_ne_some.mpr fun r hr => ?_
  obtain ⟨h0, h1, h2, h3, h4, h5⟩ := readRights_eq_some_iff.mp hr
  have hnone := Rights.ofCode_eq_none h
  have hcases : i = 0 ∨ i = 1 ∨ i = 2 ∨ i = 3 ∨ i = 4 ∨ i = 5 := by omega
  rcases hcases with rfl | rfl | rfl | rfl | rfl | rfl
  · exact absurd (hnone.symm.trans h0) (by simp)
  · exact absurd (hnone.symm.trans h1) (by simp)
  · exact absurd (hnone.symm.trans h2) (by simp)
  · exact absurd (hnone.symm.trans h3) (by simp)
  · exact absurd (hnone.symm.trans h4) (by simp)
  · exact absurd (hnone.symm.trans h5) (by simp)

/-- Settles O30: each reader accepts exactly the defined codes, and its owner replaces the table. -/
theorem classTablesReplacedWhole : Obligations.ClassTablesReplacedWhole := by
  unfold Obligations.ClassTablesReplacedWhole
  refine ⟨?map, ?mapBadArg, ?defaults, ?defaultsBadArg, ?view, ?viewBadArg⟩
  case map =>
    exact fun m => carriesOut_of_owner exec_setClassMap fun l s x hcodes =>
      ownSetClassMap_of_some (s := (recordTaken s).setLink x) (readClassMap_eq_some_iff.mpr hcodes)
  case mapBadArg =>
    exact refuses_of_owner exec_setClassMap fun l s x ⟨_, hcode⟩ => ownSetClassMap_of_none (readClassMap_of_undefined hcode)
  case defaults =>
    exact fun r => carriesOut_of_owner exec_setClassDefaults fun l s x hcodes =>
      ownSetClassDefaults_of_some (s := (recordTaken s).setLink x) (readRights_eq_some_iff.mpr hcodes)
  case defaultsBadArg =>
    exact refuses_of_owner exec_setClassDefaults fun l s x ⟨_, hi, hcode⟩ =>
      ownSetClassDefaults_of_none (readRights_of_undefined hi hcode)
  case view =>
    exact fun c v => carriesOut_of_owner exec_setPriceView fun l s x ⟨hclass, hview⟩ =>
      ownSetPriceView_of_codes (s := (recordTaken s).setLink x) hclass hview
  case viewBadArg =>
    exact refuses_of_owner exec_setPriceView fun l s x hcode => ownSetPriceView_of_undefined hcode

/-! ### The time settings (R60, R62, R63) -/

theorem exec_setTimebase (t : Fin 64) (s : State) :
    exec (.setTimebase t) s = .next (takeCommand t 0x0020 ownSetTimebase s) := rfl

theorem exec_setClock (t : Fin 64) (s : State) :
    exec (.setClock t) s = .next (takeCommand t 0x0021 ownSetClock s) := rfl

theorem exec_setSchedule (t : Fin 64) (s : State) :
    exec (.setSchedule t) s = .next (takeCommand t 0x0022 ownSetSchedule s) := rfl

/-- R63: a schedule with a defined carry mode. -/
theorem readSchedule_of_code {n : Nat} {b : BitVec n} {o : Nat} {mode : CarryMode}
    (h : getField b (o + 10) 1 = mode.code) : readSchedule b o = some
      { closeAt := timeOf (getField b o 4), exportEnd := timeOf (getField b (o + 4) 4)
        grace := min (getField b (o + 8) 2) 3600, carry := mode } := by
  simp only [readSchedule, h, CarryMode.ofCode_code]
  rfl

theorem readSchedule_of_undefined {n : Nat} {b : BitVec n} {o : Nat} (h : 2 ≤ getField b (o + 10) 1) :
    readSchedule b o = none := by
  simp only [readSchedule, CarryMode.ofCode_eq_none h]
  rfl

theorem ownSetSchedule_of_some {l : Line} {s : State} {x : Schedule} (h : readSchedule l 4 = some x) :
    ownSetSchedule l s = (s.setTime { s.time with schedule := x }, none) := by
  simp only [ownSetSchedule, h]

theorem ownSetSchedule_of_none {l : Line} {s : State} (h : readSchedule l 4 = none) :
    ownSetSchedule l s = (s, some .badArg) := by
  simp only [ownSetSchedule, h]

/-- Settles O31: the owners clamp and take their settings; a schedule is read when its carry mode is defined. -/
theorem timeSettingsClampedAndTaken : Obligations.TimeSettingsClampedAndTaken := by
  unfold Obligations.TimeSettingsClampedAndTaken
  refine ⟨?timebase, ?clock, ?schedule, ?scheduleBadArg⟩
  case timebase => exact carriesOut_of_owner exec_setTimebase fun l s x _ => rfl
  case clock => exact carriesOut_of_owner exec_setClock fun l s x _ => rfl
  case schedule =>
    exact fun mode => carriesOut_of_owner exec_setSchedule fun l s x hmode =>
      ownSetSchedule_of_some (s := (recordTaken s).setLink x) (readSchedule_of_code hmode)
  case scheduleBadArg =>
    exact refuses_of_owner exec_setSchedule fun l s x hmode => ownSetSchedule_of_none (readSchedule_of_undefined hmode)

/-! ### A window entry (section 12.6) -/

theorem readWindow_eq_some_iff {n : Nat} {b : BitVec n} {o : Nat} {w : Window} :
    readWindow b o = some w ↔ WindowAt b o w := by
  obtain ⟨en, base, limit, offset, role, rights, wp⟩ := w
  simp only [readWindow, Option.bind_eq_bind, Option.pure_def, Option.bind_eq_some_iff, Option.some.injEq,
    Window.mk.injEq, boolOf_eq_some_iff, Role.ofCode_eq_some_iff, ← rightsAt_iff]
  constructor
  · rintro ⟨_, hen, _, hrole, _, hwp, _, hrights, rfl, rfl, rfl, rfl, rfl, rfl, rfl⟩
    exact ⟨hen, hrole, hwp, rfl, rfl, rfl, hrights⟩
  · rintro ⟨hen, hrole, hwp, hbase, hlimit, hoffset, hrights⟩
    exact ⟨_, hen, _, hrole, _, hwp, _, hrights, rfl, hbase.symm, hlimit.symm, hoffset.symm, rfl, rfl, rfl⟩

/-! ### The checks of an edit (R34 to R36) -/

theorem inRange_eq_false_iff {size : DramSize} {w : Window} : w.inRange size = false ↔ FailsRange size w := by
  have hpage : Config.maxPage = 1048575 := rfl
  have hbytes : Config.pageBytes = 4096 := rfl
  have hmin : w.role.minPages = if w.role = .journalA ∨ w.role = .journalB then 2 else 1 := by
    cases w.role <;> rfl
  rw [← Bool.not_eq_true]
  simp only [Window.inRange, Bool.and_eq_true, decide_eq_true_eq, hpage, hbytes, hmin, FailsRange]
  unfold Window.dramFirst Window.dramLast
  by_cases hj : w.role = .journalA ∨ w.role = .journalB
  · simp only [if_pos hj]
    push_cast
    omega
  · simp only [if_neg hj]
    push_cast
    omega

theorem roleInUse_iff {s : State} {r : Role} : roleInUse s r = true ↔ RoleBusy s r := by
  cases r <;> simp [roleInUse, RoleBusy]

end Sys2Proof.Machine
end

section
/-! PROOFS. SET_WINDOW (R34 to R37): its checks in order, what an accepted edit stores, and which rings start afresh. -/

namespace Sys2Proof.Machine

open Sys2Proof Sys2Proof.Safety

/-! ### The relations between two windows (R18, R35) -/

theorem sharesBus_iff {v w : Window} : v.sharesBus w = true ↔ v.base ≤ w.limit ∧ w.base ≤ v.limit := by
  simp only [Window.sharesBus, Bool.and_eq_true, decide_eq_true_eq]

theorem sharesRole_iff {v w : Window} : v.sharesRole w = true ↔ v.role ≠ .plain ∧ v.role = w.role := by
  simp only [Window.sharesRole, Bool.and_eq_true, decide_eq_true_eq]

theorem aliases_iff {v w : Window} :
    v.aliases w = true ↔ (v.role ≠ .plain ∨ w.role ≠ .plain) ∧ SharesDram v w := by
  simp only [Window.aliases, Bool.and_eq_true, Bool.or_eq_true, decide_eq_true_eq, and_assoc]
  exact Iff.rfl

theorem compatible_iff {v w : Window} : v.compatible w = true ↔
    ¬(v.base ≤ w.limit ∧ w.base ≤ v.limit) ∧ ¬(v.role ≠ .plain ∧ v.role = w.role) ∧
      ¬((v.role ≠ .plain ∨ w.role ≠ .plain) ∧ SharesDram v w) := by
  rw [← sharesBus_iff, ← sharesRole_iff, ← aliases_iff]
  simp only [Window.compatible, Bool.and_eq_true, Bool.not_eq_true', Bool.not_eq_true, and_assoc]

theorem lawsHold_iff {ws : Vector Window 16} : LawsHold ws ↔ tableLaws ws = true := by
  rw [tableLaws_iff]
  exact forall₅_congr fun i j _ _ _ => compatible_iff.symm

/-! ### The checks of an edit -/

theorem otherEntry_iff {ws : Vector Window 16} {i : Fin 16} {f : Window → Bool} : otherEntry ws i f = true ↔
    ∃ j : Fin 16, j ≠ i ∧ ws[j].enabled = true ∧ f ws[j] = true := by
  simp only [otherEntry, List.any_eq_true, mem_sixteen, true_and, Bool.and_eq_true, decide_eq_true_eq, and_assoc]

theorem otherEntry_iff_otherEnabled {s : State} {i : Fin 16} {f p : Window → Bool} (h : ∀ v, f v = true ↔ p v = true) :
    otherEntry s.guard.windows i f = true ↔ otherEnabled s i p = true := by
  simp only [otherEntry_iff, otherEnabled, decide_eq_true_eq, h]

/-- R34: the checks that the model makes are those of the statement, one by one. -/
theorem windowRefusal_eq (s : State) (i : Fin 16) (w : Window) : windowRefusal s i w = editRefusal s i w := by
  have hbus : otherEntry s.guard.windows i w.sharesBus = true ↔
      otherEnabled s i (fun v => decide (v.base ≤ w.limit ∧ w.base ≤ v.limit)) = true :=
    otherEntry_iff_otherEnabled fun v => by rw [sharesBus_iff, decide_eq_true_eq, and_comm]
  have hrole : otherEntry s.guard.windows i w.sharesRole = true ↔
      w.role ≠ .plain ∧ otherEnabled s i (fun v => decide (v.role = w.role)) = true := by
    simp only [otherEntry_iff, otherEnabled, decide_eq_true_eq, sharesRole_iff]
    constructor
    · rintro ⟨j, hj, he, hp, hr⟩
      exact ⟨hp, j, hj, he, hr.symm⟩
    · rintro ⟨hp, j, hj, he, hr⟩
      exact ⟨j, hj, he, hp, hr.symm⟩
  have halias : otherEntry s.guard.windows i w.aliases = true ↔
      otherEnabled s i (fun v => decide ((v.role ≠ .plain ∨ w.role ≠ .plain) ∧ SharesDram v w)) = true :=
    otherEntry_iff_otherEnabled fun v => by
      rw [aliases_iff, decide_eq_true_eq]
      exact and_congr or_comm and_comm
  exact if_congr (and_congr Iff.rfl roleInUse_iff) rfl (if_congr Iff.rfl rfl (if_congr inRange_eq_false_iff rfl
    (if_congr hbus rfl (if_congr hrole rfl (if_congr halias rfl rfl)))))

/-! ### The places of the roles (R195) -/

theorem rolePlace_of_holder {ws : Vector Window 16} (hl : tableLaws ws = true) {i : Fin 16} {r : Role} (hr : r ≠ .plain)
    (hi : ws[i].enabled = true) (hir : ws[i].role = r) : rolePlace ws r = some ⟨ws[i].base, ws[i].limit, ws[i].offset⟩ := by
  simp only [rolePlace, roleWindow, roleIndex_of_holder hl hr hi hir]
  rfl

theorem rolePlace_eq_none_iff {ws : Vector Window 16} {r : Role} :
    rolePlace ws r = none ↔ ∀ i : Fin 16, ¬(ws[i].enabled = true ∧ ws[i].role = r) := by
  simp only [rolePlace, Option.map_eq_none_iff, roleWindow_eq_none_iff, not_and, ne_eq]

theorem rolePlace_eq_iff {ws : Vector Window 16} {role : Role} {p : Option WindowPlace} (hl : LawsHold ws)
    (hr : role ≠ .plain) : rolePlace ws role = p ↔ PlaceIs ws role p := by
  by_cases hnone : rolePlace ws role = none
  · have habsent := rolePlace_eq_none_iff.mp hnone
    constructor
    · rintro rfl
      exact ⟨fun i hi hir => absurd ⟨hi, hir⟩ (habsent i), fun _ => hnone⟩
    · rintro ⟨_, hp⟩
      rw [hp habsent, hnone]
  · obtain ⟨i, hi, hir⟩ : ∃ i : Fin 16, ws[i].enabled = true ∧ ws[i].role = role := by
      by_contra hno
      exact hnone (rolePlace_eq_none_iff.mpr (not_exists.mp hno))
    have hplace := rolePlace_of_holder (lawsHold_iff.mp hl) hr hi hir
    constructor
    · rintro rfl
      exact ⟨fun j hj hjr => rolePlace_of_holder (lawsHold_iff.mp hl) hr hj hjr, fun hno => absurd ⟨hi, hir⟩ (hno i)⟩
    · rintro ⟨hp, _⟩
      rw [hplace, hp i hi hir]

/-- R20: an edit that takes no window from a role and gives it none leaves its place. -/
theorem rolePlace_vput_of_ne {ws : Vector Window 16} {i : Fin 16} {w : Window} {r : Role}
    (hold : ws[i].enabled = true → ws[i].role ≠ r) (hnew : w.enabled = true → w.role ≠ r) :
    rolePlace (vput ws i w) r = rolePlace ws r := by
  have hne : ∀ j : Fin 16, (ws[j].enabled && decide (ws[j].role = r)) = true → i ≠ j := by
    rintro j hj rfl
    simp only [Bool.and_eq_true, decide_eq_true_eq] at hj
    exact hold hj.1 hj.2
  have hindex : roleIndex (vput ws i w) r = roleIndex ws r := by
    unfold roleIndex
    congr 1
    funext j
    rw [vput_get]
    by_cases hij : i = j
    · subst hij
      have h1 : (w.enabled && decide (w.role = r)) = false := by simpa using hnew
      have h2 : (ws[i].enabled && decide (ws[i].role = r)) = false := by simpa using hold
      rw [if_pos rfl, h1, h2]
    · rw [if_neg hij]
  simp only [rolePlace, roleWindow, hindex]
  cases hj : roleIndex ws r with
  | none => rfl
  | some j =>
    obtain ⟨hen, hrole⟩ := holder_of_roleIndex hj
    have hij : i ≠ j := hne j (by rw [hen, hrole]; simp)
    simp only [Option.map_some, vput_get, if_neg hij]

/-- R20: an edit that gives a role its only window moves its place. -/
theorem rolePlace_vput_ne {ws : Vector Window 16} {i : Fin 16} {w : Window} {r : Role}
    (hnone : rolePlace ws r = none) (hw : w.enabled = true) (hr : w.role = r) :
    rolePlace (vput ws i w) r ≠ rolePlace ws r := by
  rw [hnone]
  intro h
  refine rolePlace_eq_none_iff.mp h i ?_
  rw [vput_get, if_pos rfl]
  exact ⟨hw, hr⟩

/-- R34: an accepted edit with an enabled role window finds the role free elsewhere. -/
theorem rolePlace_none_of_accepted {s : State} {i : Fin 16} {w : Window} (hnone : editRefusal s i w = none)
    (hold : s.guard.windows[i].enabled = false) (hw : w.enabled = true) (hp : w.role ≠ .plain) :
    rolePlace s.guard.windows w.role = none := by
  rw [rolePlace_eq_none_iff]
  rintro j ⟨hj, hjr⟩
  have hij : i ≠ j := by
    rintro rfl
    rw [hold] at hj
    simp at hj
  have hcompatible := compatible_of_windowRefusal ((windowRefusal_eq s i w).trans hnone) hw hij hj
  exact (compatible_iff.mp hcompatible).2.1 ⟨hp, hjr.symm⟩

/-! ### What an accepted edit stores (R20, R24, R37) -/

theorem storedWindow_eq (j : JournalState) (w : Window) : storedWindow j w = contentStored j w := by
  have hprotects : ∀ st : BankState, st.protects = decide (st ≠ .open ∧ st ≠ .closing) := fun st => by cases st <;> rfl
  unfold storedWindow contentStored
  cases hen : w.enabled <;> cases hr : w.role <;> simp [Role.bank, getBank, hprotects]

theorem isJournal_iff {w : Window} : w.isJournal = true ↔ w.enabled = true ∧ (w.role = .journalA ∨ w.role = .journalB) := by
  unfold Window.isJournal
  cases w.role <;> simp [Role.bank]

theorem ringCapacity_ne_one (ws : Vector Window 16) (r : Role) : ringCapacity ws r ≠ 1 := by
  unfold ringCapacity
  split
  · rename_i w _
    have hlines : w.nLines = (w.limit - w.base + 1) * 64 := rfl
    have hring : Config.maxRing = 4096 := rfl
    omega
  · simp

/-- R51: a ring that starts afresh holds no record, so that the output is low. -/
theorem resetReportRing_eq {s : State} (h : 1 ≤ s.reports.threshold) : resetReportRing s = s.setReports { s.reports with
    producer := 0, consumer := 0, phase := true, irq := false, placing := s.reports.placing.map (fun _ => ⟨false⟩) } := by
  have hone := ringCapacity_ne_one s.guard.windows .report
  have hlevel : irqLevel s.reports.threshold 0 0 (ringCapacity s.guard.windows .report) = false := by
    generalize ringCapacity s.guard.windows .report = cap at hone
    by_cases hcap : cap = 0
    · simp [irqLevel, hcap]
    · simp only [irqLevel, unconsumed, if_neg hcap, Nat.zero_add, Nat.sub_zero, Nat.mod_self, Bool.and_eq_false_iff,
        decide_eq_false_iff_not]
      omega
  unfold resetReportRing evalIrq
  simp only [State.setReports_reports, State.setReports_guard, hlevel]
  rfl

theorem roleMoved_iff {old new : Vector Window 16} {r : Role} :
    roleMoved old new r = true ↔ rolePlace new r ≠ rolePlace old r := by
  rw [roleMoved, decide_eq_true_eq, ne_comm]

/-- R20, R51, R146: what the owners of the two rings do when they are told of an edit. -/
theorem tellOwners_edit {old : Vector Window 16} {s : State}
    (h : rolePlace s.guard.windows .report = rolePlace old .report ∨ 1 ≤ s.reports.threshold) :
    tellOwners old false s = { s with
      reports :=
        if rolePlace s.guard.windows .report = rolePlace old .report then s.reports
        else { s.reports with
          producer := 0, consumer := 0, phase := true, irq := false, placing := s.reports.placing.map (fun _ => ⟨false⟩) }
      label :=
        if rolePlace s.guard.windows .labelQueue = rolePlace old .labelQueue then s.label
        else { s.label with
          producer := 0, consumer := 0, phase := true
          writing := s.label.writing.map (fun x => { x with inRing := false }) } } := by
  have hlabel : ∀ u : State, u.label = s.label → (if roleMoved old s.guard.windows .labelQueue then resetLabelRing u else u) =
      u.setLabel (if rolePlace s.guard.windows .labelQueue = rolePlace old .labelQueue then s.label
        else { s.label with
          producer := 0, consumer := 0, phase := true
          writing := s.label.writing.map (fun x => { x with inRing := false }) }) := by
    intro u hu
    by_cases hl : rolePlace s.guard.windows .labelQueue = rolePlace old .labelQueue
    · rw [if_neg (fun hm => roleMoved_iff.mp hm hl), if_pos hl, ← hu]
      rfl
    · rw [if_pos (roleMoved_iff.mpr hl), if_neg hl, ← hu]
      rfl
  unfold tellOwners
  by_cases hr : rolePlace s.guard.windows .report = rolePlace old .report
  · simp only [if_neg (fun hm => roleMoved_iff.mp hm hr), if_pos hr, hlabel s rfl]
    rfl
  · simp only [if_pos (roleMoved_iff.mpr hr), if_neg hr, resetReportRing_eq (h.resolve_left hr)]
    exact hlabel _ rfl

/-- R20, R37: an accepted edit, where the REPORT ring stays or its threshold is at least 1. -/
theorem placeWindow_eq {s : State} (i : Fin 16) (w : Window)
    (h : rolePlace (vput s.guard.windows i (contentStored s.journal w)) .report = rolePlace s.guard.windows .report ∨
      1 ≤ s.reports.threshold) : placeWindow i w s = entryEdited i w s := by
  have hshape := storedWindow_sameShape s.journal w
  rw [storedWindow_eq] at hshape
  have hrecord : (s.guard.windows[i].isJournal || (contentStored s.journal w).isJournal) = true ↔
      (s.guard.windows[i].enabled = true ∧ (s.guard.windows[i].role = .journalA ∨ s.guard.windows[i].role = .journalB)) ∨
        (w.enabled = true ∧ (w.role = .journalA ∨ w.role = .journalB)) := by
    rw [Bool.or_eq_true, isJournal_iff, isJournal_iff, hshape.1, hshape.2.2.2.2]
  unfold placeWindow entryEdited
  simp only [storedWindow_eq]
  by_cases hj : (s.guard.windows[i].isJournal || (contentStored s.journal w).isJournal) = true
  · simp only [if_pos hj, if_pos (hrecord.mp hj)]
    exact tellOwners_edit h
  · simp only [if_neg hj, if_neg (fun hm => hj (hrecord.mpr hm))]
    exact tellOwners_edit h

/-! ### SET_WINDOW -/

theorem exec_setWindow (t : Fin 64) (s : State) :
    exec (.setWindow t) s = .next (takeCommand t 0x0011 ownSetWindow s) := rfl

theorem index16_of_val {n : Nat} {i : Fin 16} (h : n = i.val) : index16 n = some i := by
  subst h
  simp [index16]

theorem index16_eq_none {n : Nat} (h : 16 ≤ n) : index16 n = none := dif_neg (by omega)

theorem ownSetWindow_of_unread {l : Line} {s : State} (h : 16 ≤ getField l 4 1 ∨ readWindow l 8 = none) :
    ownSetWindow l s = (s, some .badArg) := by
  rcases h with hindex | hwindow
  · simp only [ownSetWindow, index16_eq_none hindex]
  · cases hi : index16 (getField l 4 1) <;> simp only [ownSetWindow, hi, hwindow]

theorem ownSetWindow_of_refused {l : Line} {s : State} {i : Fin 16} {w : Window} {c : RefusalCode}
    (hi : getField l 4 1 = i.val) (hw : readWindow l 8 = some w) (hc : editRefusal s i w = some c) :
    ownSetWindow l s = (s, some c) := by
  simp only [ownSetWindow, index16_of_val hi, hw, windowRefusal_eq, hc]

theorem ownSetWindow_of_accepted {l : Line} {s : State} {i : Fin 16} {w : Window}
    (hi : getField l 4 1 = i.val) (hw : readWindow l 8 = some w) (hnone : editRefusal s i w = none) :
    ownSetWindow l s = (placeWindow i w s, none) := by
  simp only [ownSetWindow, index16_of_val hi, hw, windowRefusal_eq, hnone]

/-- Settles O29: an entry that is read holds defined codes, and the first check that fails answers. -/
theorem setWindowRefusedByFirstCheck : Obligations.SetWindowRefusedByFirstCheck := by
  unfold Obligations.SetWindowRefusedByFirstCheck
  refine ⟨fun l w => readWindow_eq_some_iff, ?badArg, ?first⟩
  case badArg => exact refuses_of_owner exec_setWindow fun l s x h => ownSetWindow_of_unread h
  case first =>
    exact fun i w c => refuses_of_owner exec_setWindow fun l s x ⟨hi, hw, hc⟩ =>
      ownSetWindow_of_refused (s := (recordTaken s).setLink x) hi hw hc

/-- R34, R37: an accepted edit is carried out as `entryEdited` says. -/
theorem setWindow_carriesOut {i : Fin 16} {w : Window} {cond : Line → State → Prop}
    (hcond : ∀ l s, cond l s → getField l 4 1 = i.val ∧ readWindow l 8 = some w ∧ editRefusal s i w = none ∧
      (rolePlace (vput s.guard.windows i (contentStored s.journal w)) .report = rolePlace s.guard.windows .report ∨
        1 ≤ s.reports.threshold)) {effect : Line → State → State}
    (heffect : ∀ l s, cond l s → effect l (recordTaken s) = entryEdited i w (recordTaken s)) :
    CarriesOut .setWindow 0x0011 cond effect :=
  carriesOut_of_owner exec_setWindow fun l s x hc => by
    obtain ⟨hi, hw, hnone, hring⟩ := hcond l s hc
    rw [heffect l s hc, ownSetWindow_of_accepted (s := (recordTaken s).setLink x) hi hw hnone]
    exact congrArg (·, none) (placeWindow_eq (s := (recordTaken s).setLink x) i w hring)

theorem contentStored_of_plain {j : JournalState} {w : Window} (h : w.enabled = true → w.role.bank = none) :
    contentStored j w = w := by
  unfold contentStored
  by_cases hen : w.enabled = true
  · have hb := h hen
    cases hr : w.role <;> simp_all [Role.bank]
  · simp [hen]

theorem contentStored_of_journal {j : JournalState} {w : Window} {bk : Bank} (hen : w.enabled = true) (hr : w.role = bk.role) :
    contentStored j w =
      { w with writeProtect := decide ((getBank j bk).state ≠ .open ∧ (getBank j bk).state ≠ .closing) } := by
  cases bk with
  | a => exact if_pos ⟨hen, hr⟩
  | b =>
    have hne : ¬(w.enabled = true ∧ w.role = .journalA) := fun h => by simp [hr, Bank.role] at h
    exact (if_neg hne).trans (if_pos ⟨hen, hr⟩)

/-- R51, R146, R195: an edit that touches no journal window and moves neither ring replaces the entry alone. -/
theorem entryEdited_of_quiet {i : Fin 16} {w : Window} {s : State} (hcontent : contentStored s.journal w = w)
    (hjournal : ¬((s.guard.windows[i].enabled = true ∧
        (s.guard.windows[i].role = .journalA ∨ s.guard.windows[i].role = .journalB)) ∨
      (w.enabled = true ∧ (w.role = .journalA ∨ w.role = .journalB))))
    (hreport : rolePlace (vput s.guard.windows i w) .report = rolePlace s.guard.windows .report)
    (hlabel : rolePlace (vput s.guard.windows i w) .labelQueue = rolePlace s.guard.windows .labelQueue) :
    entryEdited i w s = { s with guard := { s.guard with windows := vput s.guard.windows i w } } := by
  unfold entryEdited
  simp only [hcontent, if_neg hjournal, if_pos hreport, if_pos hlabel]

theorem entryEdited_of_journal {i : Fin 16} {w v : Window} {s : State} (hcontent : contentStored s.journal w = v)
    (hjournal : w.enabled = true ∧ (w.role = .journalA ∨ w.role = .journalB))
    (hreport : rolePlace (vput s.guard.windows i v) .report = rolePlace s.guard.windows .report)
    (hlabel : rolePlace (vput s.guard.windows i v) .labelQueue = rolePlace s.guard.windows .labelQueue) :
    entryEdited i w s = { s with
      guard := { s.guard with windows := vput s.guard.windows i v }
      retained := { s.retained with
        recordA := rolePlace (vput s.guard.windows i v) .journalA
        recordB := rolePlace (vput s.guard.windows i v) .journalB } } := by
  unfold entryEdited
  simp only [hcontent, if_pos (Or.inr hjournal), if_pos hreport, if_pos hlabel]

theorem entryEdited_of_labelQueue {i : Fin 16} {w : Window} {s : State} (hcontent : contentStored s.journal w = w)
    (hjournal : ¬((s.guard.windows[i].enabled = true ∧
        (s.guard.windows[i].role = .journalA ∨ s.guard.windows[i].role = .journalB)) ∨
      (w.enabled = true ∧ (w.role = .journalA ∨ w.role = .journalB))))
    (hreport : rolePlace (vput s.guard.windows i w) .report = rolePlace s.guard.windows .report)
    (hlabel : rolePlace (vput s.guard.windows i w) .labelQueue ≠ rolePlace s.guard.windows .labelQueue) :
    entryEdited i w s = { s with
      guard := { s.guard with windows := vput s.guard.windows i w }
      label := { s.label with
        producer := 0, consumer := 0, phase := true
        writing := s.label.writing.map (fun x => { x with inRing := false }) } } := by
  unfold entryEdited
  simp only [hcontent, if_neg hjournal, if_pos hreport, if_neg hlabel]

theorem entryEdited_of_report {i : Fin 16} {w : Window} {s : State} (hcontent : contentStored s.journal w = w)
    (hjournal : ¬((s.guard.windows[i].enabled = true ∧
        (s.guard.windows[i].role = .journalA ∨ s.guard.windows[i].role = .journalB)) ∨
      (w.enabled = true ∧ (w.role = .journalA ∨ w.role = .journalB))))
    (hreport : rolePlace (vput s.guard.windows i w) .report ≠ rolePlace s.guard.windows .report)
    (hlabel : rolePlace (vput s.guard.windows i w) .labelQueue = rolePlace s.guard.windows .labelQueue) :
    entryEdited i w s = { s with
      guard := { s.guard with windows := vput s.guard.windows i w }
      reports := { s.reports with
        producer := 0, consumer := 0, phase := true, irq := false
        placing := s.reports.placing.map (fun _ => ⟨false⟩) } } := by
  unfold entryEdited
  simp only [hcontent, if_neg hjournal, if_neg hreport, if_pos hlabel]

theorem role_bank_eq_none {r : Role} : r.bank = none ↔ ¬(r = .journalA ∨ r = .journalB) := by
  cases r <;> simp [Role.bank]

/-- An edit of a disabled entry into a role that is no journal touches no journal window. -/
theorem no_journal_of_disabled {v w : Window} (hv : v.enabled = false) (hw : w.role.bank = none) :
    ¬((v.enabled = true ∧ (v.role = .journalA ∨ v.role = .journalB)) ∨
      (w.enabled = true ∧ (w.role = .journalA ∨ w.role = .journalB))) := by
  rintro (⟨hen, _⟩ | ⟨_, hr⟩)
  · rw [hv] at hen
    simp at hen
  · exact role_bank_eq_none.mp hw hr

/-- Settles O28: an accepted edit is `entryEdited`, and by what the old and the new entry hold it moves a journal window,
a ring, or nothing but the entry. -/
theorem setWindowReplacesEntry : Obligations.SetWindowReplacesEntry := by
  unfold Obligations.SetWindowReplacesEntry
  have hoff : ∀ {v : Window} {r : Role}, v.enabled = false → v.enabled = true → v.role ≠ r := fun hv hen => by
    rw [hv] at hen
    simp at hen
  refine ⟨?general, ?places, ?plain, ?journal, ?labelQueue, ?report⟩
  case general =>
    exact fun i w => setWindow_carriesOut (fun l s ⟨hi, hw, hnone, hth⟩ => ⟨hi, hw, hnone, .inr hth⟩) fun l s _ => rfl
  case places => exact fun ws role p hl hr => rolePlace_eq_iff hl hr
  case plain =>
    intro i w
    have hsame : ∀ {s : State}, (s.guard.windows[i].enabled = true → s.guard.windows[i].role.bank = none ∧
        s.guard.windows[i].role ≠ .report ∧ s.guard.windows[i].role ≠ .labelQueue) →
        (w.enabled = true → w.role.bank = none ∧ w.role ≠ .report ∧ w.role ≠ .labelQueue) →
        rolePlace (vput s.guard.windows i w) .report = rolePlace s.guard.windows .report ∧
          rolePlace (vput s.guard.windows i w) .labelQueue = rolePlace s.guard.windows .labelQueue := fun hold hnew =>
      ⟨rolePlace_vput_of_ne (fun h => (hold h).2.1) (fun h => (hnew h).2.1),
        rolePlace_vput_of_ne (fun h => (hold h).2.2) (fun h => (hnew h).2.2)⟩
    refine setWindow_carriesOut (i := i) (w := w) (fun l s ⟨hi, hw, hnone, hold, hnew⟩ => ⟨hi, hw, hnone, .inl ?stays⟩)
      fun l s ⟨hi, hw, hnone, hold, hnew⟩ => ?effect
    case stays =>
      rw [contentStored_of_plain (fun h => (hnew h).1)]
      exact (hsame hold hnew).1
    case effect =>
      refine (entryEdited_of_quiet (s := recordTaken s) (contentStored_of_plain fun h => (hnew h).1) ?_
        (hsame hold hnew).1 (hsame hold hnew).2).symm
      rintro (⟨hen, hr⟩ | ⟨hen, hr⟩)
      · exact role_bank_eq_none.mp (hold hen).1 hr
      · exact role_bank_eq_none.mp (hnew hen).1 hr
  case journal =>
    intro i w bk
    have hsame : ∀ {s : State} {v : Window} {r : Role}, s.guard.windows[i].enabled = false → v.role = bk.role →
        bk.role ≠ r → rolePlace (vput s.guard.windows i v) r = rolePlace s.guard.windows r := fun hold hv hr =>
      rolePlace_vput_of_ne (hoff hold) (fun _ => hv ▸ hr)
    have hreport : bk.role ≠ .report := by cases bk <;> simp [Bank.role]
    have hlabel : bk.role ≠ .labelQueue := by cases bk <;> simp [Bank.role]
    have hbank : bk.role = .journalA ∨ bk.role = .journalB := by cases bk <;> simp [Bank.role]
    refine setWindow_carriesOut (i := i) (w := w) (fun l s ⟨hi, hw, hnone, hold, hen, hr⟩ => ⟨hi, hw, hnone, .inl ?stays⟩)
      fun l s ⟨hi, hw, hnone, hold, hen, hr⟩ => ?effect
    case stays =>
      rw [contentStored_of_journal hen hr]
      exact hsame hold hr hreport
    case effect =>
      exact (entryEdited_of_journal (s := recordTaken s) (contentStored_of_journal hen hr) ⟨hen, hr ▸ hbank⟩
        (hsame hold hr hreport) (hsame hold hr hlabel)).symm
  case labelQueue =>
    intro i w
    have hcontent : ∀ {j : JournalState}, w.role = .labelQueue → contentStored j w = w := fun hr =>
      contentStored_of_plain fun _ => by rw [hr]; rfl
    have hsame : ∀ {s : State}, s.guard.windows[i].enabled = false → w.role = .labelQueue →
        rolePlace (vput s.guard.windows i w) .report = rolePlace s.guard.windows .report := fun hold hr =>
      rolePlace_vput_of_ne (hoff hold) (fun _ => by simp [hr])
    refine setWindow_carriesOut (i := i) (w := w) (fun l s ⟨hi, hw, hnone, hold, hen, hr⟩ => ⟨hi, hw, hnone, .inl ?stays⟩)
      fun l s ⟨hi, hw, hnone, hold, hen, hr⟩ => ?effect
    case stays =>
      rw [hcontent hr]
      exact hsame hold hr
    case effect =>
      have hfree : rolePlace s.guard.windows .labelQueue = none :=
        hr ▸ rolePlace_none_of_accepted hnone hold hen (by simp [hr])
      exact (entryEdited_of_labelQueue (s := recordTaken s) (hcontent hr)
        (no_journal_of_disabled hold (by rw [hr]; rfl)) (hsame hold hr) (rolePlace_vput_ne hfree hen hr)).symm
  case report =>
    intro i w
    have hcontent : ∀ {j : JournalState}, w.role = .report → contentStored j w = w := fun hr =>
      contentStored_of_plain fun _ => by rw [hr]; rfl
    refine setWindow_carriesOut (i := i) (w := w)
      (fun l s ⟨hi, hw, hnone, hold, hen, hr, hth⟩ => ⟨hi, hw, hnone, .inr hth⟩)
      fun l s ⟨hi, hw, hnone, hold, hen, hr, hth⟩ => ?_
    have hfree : rolePlace s.guard.windows .report = none :=
      hr ▸ rolePlace_none_of_accepted hnone hold hen (by simp [hr])
    exact (entryEdited_of_report (s := recordTaken s) (hcontent hr) (no_journal_of_disabled hold (by rw [hr]; rfl))
      (rolePlace_vput_ne hfree hen hr) (rolePlace_vput_of_ne (hoff hold) (fun _ => by simp [hr]))).symm

end Sys2Proof.Machine
end

section
/-! PROOFS. The commands of watch entries (R128, R129), OPEN_DAY (R168) and the two loads (R192, R193). -/

namespace Sys2Proof.Machine

open Sys2Proof Sys2Proof.Safety

/-! ### Visits, whatever the outstanding requests -/

theorem endVisit_setLink (s : State) (x : LinkState) : endVisit (s.setLink x) = (endVisit s).setLink x := by
  unfold endVisit
  simp only [State.setLink_label]
  split
  · rfl
  · rename_i z _
    have hclose : closeVisit z (s.setLink x) = (closeVisit z s).setLink x := rfl
    simp only [hclose, State.setLink_label]
    split
    · exact endRound_setLink true _ x
    · exact visitZones_setLink _ _ x

/-- R144: a visit ends when its zone is WAITING with nothing left to await. -/
theorem visitDone_of_done {s : State} {z : Fin 16} (hzone : s.label.zone = some z) (hwaiting : zoneWaiting s.label = true)
    (hnone : s.label.awaited = []) : visitDone s =
      endVisit (reported (.zoneDone s.label.number z s.label.sent s.label.shown s.label.timedOut) s) := by
  simp only [visitDone, hzone, if_pos (And.intro hwaiting hnone)]
  rfl

theorem visitDone_of_not_done {s : State} (h : ¬(zoneWaiting s.label = true ∧ s.label.awaited = [])) : visitDone s = s := by
  unfold visitDone
  split
  · rfl
  · exact if_neg h

theorem zoneWaiting_iff {l : LabelState} :
    zoneWaiting l = true ↔ ∃ z, l.zone = some z ∧ l.zones[z] = .waiting := by
  unfold zoneWaiting
  cases l.zone <;> simp

theorem visitDone_setLink (s : State) (x : LinkState) : visitDone (s.setLink x) = (visitDone s).setLink x := by
  by_cases hdone : zoneWaiting s.label = true ∧ s.label.awaited = []
  · obtain ⟨z, hz, _⟩ := zoneWaiting_iff.mp hdone.1
    rw [visitDone_of_done hz hdone.1 hdone.2, visitDone_of_done (s := s.setLink x) hz hdone.1 hdone.2, reported_setLink,
      endVisit_setLink]
    rfl
  · rw [visitDone_of_not_done hdone, visitDone_of_not_done (s := s.setLink x) hdone]

/-- R144: an awaited item leaves the awaited set. -/
theorem leaveAwaited_of_mem {item : Nat} {b : Bool} {s : State} (h : item ∈ s.label.awaited) : leaveAwaited item b s =
    visitDone (s.setLabel { s.label with
      awaited := s.label.awaited.filter (fun i => decide (i ≠ item))
      shown := if b then s.label.shown + 1 else s.label.shown }) := by
  rw [leaveAwaited, if_pos (by simpa using h)]

theorem leaveAwaited_of_not_mem {item : Nat} {b : Bool} {s : State} (h : item ∉ s.label.awaited) :
    leaveAwaited item b s = s := by
  rw [leaveAwaited, if_neg (by simpa using h)]

theorem leaveAwaited_setLink (item : Nat) (b : Bool) (s : State) (x : LinkState) :
    leaveAwaited item b (s.setLink x) = (leaveAwaited item b s).setLink x := by
  by_cases h : item ∈ s.label.awaited
  · rw [leaveAwaited_of_mem h, leaveAwaited_of_mem (s := s.setLink x) h, ← visitDone_setLink]
    rfl
  · rw [leaveAwaited_of_not_mem h, leaveAwaited_of_not_mem (s := s.setLink x) h]

/-- R144: the departure of an entry is its removal, its report, and what it means to the visit. -/
theorem removeEntry_eq (item : Nat) (b : ReportBody) (s : State) : removeEntry item b s =
    leaveAwaited item false (reported b { s with price := { s.price with
      table := s.price.table.filter (fun x => decide (x.item ≠ item))
      withdrawals := s.price.withdrawals.filter (fun i => decide (i ≠ item)) } }) := rfl

theorem removeEntry_setLink (item : Nat) (b : ReportBody) (s : State) (x : LinkState) :
    removeEntry item b (s.setLink x) = (removeEntry item b s).setLink x := by
  rw [removeEntry_eq, removeEntry_eq, ← leaveAwaited_setLink, ← reported_setLink]
  rfl

/-! ### FORCE_EFFECTIVE and WITHDRAW_PRICE (R128, R129) -/

theorem exec_forceEffective (t : Fin 64) (s : State) :
    exec (.forceEffective t) s = .next (takeCommand t 0x0041 ownForceEffective s) := rfl

theorem exec_withdrawPrice (t : Fin 64) (s : State) :
    exec (.withdrawPrice t) s = .next (takeCommand t 0x0042 ownWithdrawPrice s) := rfl

theorem findEntry_eq_none_iff {s : State} {item : Nat} :
    findEntry s item = none ↔ ∀ e ∈ s.price.table, e.item ≠ item := by
  simp only [findEntry, List.find?_eq_none, decide_eq_true_eq, ne_eq]

theorem ownForceEffective_of_absent {l : Line} {s : State} (h : findEntry s (getField l 4 4) = none) :
    ownForceEffective l s = (s, some .notFound) := by
  simp only [ownForceEffective, h]

theorem ownForceEffective_of_entry {l : Line} {s : State} {e : WatchEntry} (h : findEntry s (getField l 4 4) = some e) :
    ownForceEffective l s =
      if e.exit = .none then (removeEntry e.item (.priceEffective e.item e.oldPrice e.newPrice true) s, none)
      else (s, some .wrongState) := by
  simp only [ownForceEffective, h]

theorem ownWithdrawPrice_of_absent {l : Line} {s : State} (h : findEntry s (getField l 4 4) = none) :
    ownWithdrawPrice l s = (s, some .notFound) := by
  simp only [ownWithdrawPrice, h]

theorem ownWithdrawPrice_of_none {l : Line} {s : State} {e : WatchEntry} (h : findEntry s (getField l 4 4) = some e)
    (he : e.exit = .none) : ownWithdrawPrice l s = (beginWithdrawal e.item s, none) := by
  simp only [ownWithdrawPrice, h, he]

theorem ownWithdrawPrice_of_withdraw {l : Line} {s : State} {e : WatchEntry} (h : findEntry s (getField l 4 4) = some e)
    (he : e.exit = .withdraw) : ownWithdrawPrice l s = (s, some .busy) := by
  simp only [ownWithdrawPrice, h, he]

theorem ownWithdrawPrice_of_afterWrite {l : Line} {s : State} {e : WatchEntry} {a : Nat}
    (h : findEntry s (getField l 4 4) = some e) (he : e.exit = .afterWrite a) :
    ownWithdrawPrice l s = (s, some .wrongState) := by
  simp only [ownWithdrawPrice, h, he]

/-- Settles O32: the answers of the two owners by the entry of the item and its exit marker. -/
theorem priceEntriesForcedAndWithdrawn : Obligations.PriceEntriesForcedAndWithdrawn := by
  unfold Obligations.PriceEntriesForcedAndWithdrawn
  refine ⟨?force, fun item b s => leaveAwaited_of_not_mem, ?forceNotFound, ?forceWrongState, ?withdraw, ?withdrawNotFound,
    ?withdrawBusy, ?withdrawWrongState⟩
  case force =>
    refine fun e => carriesOut_of_owner exec_forceEffective fun l s x ⟨hfind, hexit⟩ => ?_
    rw [ownForceEffective_of_entry (s := (recordTaken s).setLink x) hfind, if_pos hexit, removeEntry_setLink, removeEntry_eq]
  case forceNotFound =>
    exact refuses_of_owner exec_forceEffective fun l s x hnone =>
      ownForceEffective_of_absent (s := (recordTaken s).setLink x) (findEntry_eq_none_iff.mpr hnone)
  case forceWrongState =>
    exact fun e => refuses_of_owner exec_forceEffective fun l s x ⟨hfind, hexit⟩ =>
      (ownForceEffective_of_entry (s := (recordTaken s).setLink x) hfind).trans (if_neg hexit)
  case withdraw =>
    exact fun e => carriesOut_of_owner exec_withdrawPrice fun l s x ⟨hfind, hexit⟩ =>
      ownWithdrawPrice_of_none (s := (recordTaken s).setLink x) hfind hexit
  case withdrawNotFound =>
    exact refuses_of_owner exec_withdrawPrice fun l s x hnone =>
      ownWithdrawPrice_of_absent (s := (recordTaken s).setLink x) (findEntry_eq_none_iff.mpr hnone)
  case withdrawBusy =>
    exact fun e => refuses_of_owner exec_withdrawPrice fun l s x ⟨hfind, hexit⟩ =>
      ownWithdrawPrice_of_withdraw (s := (recordTaken s).setLink x) hfind hexit
  case withdrawWrongState =>
    exact fun e a => refuses_of_owner exec_withdrawPrice fun l s x ⟨hfind, hexit⟩ =>
      ownWithdrawPrice_of_afterWrite (s := (recordTaken s).setLink x) hfind hexit

/-! ### OPEN_DAY (R168) -/

theorem exec_openDay (t : Fin 64) (s : State) : exec (.openDay t) s = .next (takeCommand t 0x0070 ownOpenDay s) := rfl

theorem Bank.exists_of_code_lt {c : Nat} (h : c < 2) : ∃ bk, Bank.ofCode c = some bk := by
  interval_cases c <;> exact ⟨_, rfl⟩

/-- R167 to R169: what opening a bank makes of its record, its window, the retained store and the day. -/
theorem openBank_eq (bk : Bank) (seed : Word32) (day : Nat) (s : State) :
    openBank bk seed day s =
      let opened := setRetained bk
        { cursor := 0, lastIndex := none, running := seed, totals := (getBank s.journal bk).totals }
        (updateRoleWindow bk.role (fun w => { w with writeProtect := false })
          (setBank bk { getBank s.journal bk with
            state := .open, dayNumber := day, seed := seed, cursor := 0, lastIndex := none, running := seed
            fullMarker := false } s))
      opened.setDay { s.day with openBank := some bk } := by
  unfold openBank setBankState retainBank
  simp only [getBank_setBank, setBank_setBank, updateRoleWindow_journal]
  cases bk <;> simp only [setRetained, State.setRetained_day, updateRoleWindow_day, setBank_day] <;> rfl

theorem openBank_setLink (bk : Bank) (seed : Word32) (day : Nat) (s : State) (x : LinkState) :
    openBank bk seed day (s.setLink x) = (openBank bk seed day s).setLink x := by
  rw [openBank_eq, openBank_eq]
  simp only [setBank_setLink, updateRoleWindow_setLink, setRetained_setLink, State.setLink_journal, State.setLink_day]
  rfl

theorem ownOpenDay_of_undefined {l : Line} {s : State} (h : 2 ≤ getField l 4 1) : ownOpenDay l s = (s, some .badArg) := by
  simp only [ownOpenDay, Bank.ofCode_eq_none h]

theorem ownOpenDay_of_ready {l : Line} {s : State} {bk : Bank} (hbank : getField l 4 1 = bk.code)
    (hphase : s.day.phase = .noDay) (ha : s.journal.bankA.state = .idle) (hb : s.journal.bankB.state = .idle)
    (hwa : hasJournalWindow s .a = true) (hwb : hasJournalWindow s .b = true) :
    ownOpenDay l s = ((openBank bk (openSeed s.journal) (getField l 6 2) s).setDay
      { (openBank bk (openSeed s.journal) (getField l 6 2) s).day with phase := .dayOpen }, none) := by
  simp [ownOpenDay, hbank, Bank.ofCode_code, hphase, ha, hb, hwa, hwb]

theorem ownOpenDay_of_wrongState {l : Line} {s : State} (hcode : getField l 4 1 < 2)
    (h : s.day.phase ≠ .noDay ∨ s.journal.bankA.state ≠ .idle ∨ s.journal.bankB.state ≠ .idle) :
    ownOpenDay l s = (s, some .wrongState) := by
  obtain ⟨bk, hbk⟩ := Bank.exists_of_code_lt hcode
  by_cases hphase : s.day.phase = .noDay
  · have hbanks := h.resolve_left (not_not_intro hphase)
    simp only [ownOpenDay, hbk, hphase, ne_eq, not_true_eq_false, if_false, if_pos hbanks]
  · simp only [ownOpenDay, hbk, ne_eq, if_pos hphase]

theorem ownOpenDay_of_no_window {l : Line} {s : State} (hcode : getField l 4 1 < 2) (hphase : s.day.phase = .noDay)
    (ha : s.journal.bankA.state = .idle) (hb : s.journal.bankB.state = .idle)
    (h : hasJournalWindow s .a = false ∨ hasJournalWindow s .b = false) : ownOpenDay l s = (s, some .notFound) := by
  obtain ⟨bk, hbk⟩ := Bank.exists_of_code_lt hcode
  simp only [ownOpenDay, hbk, hphase, ha, hb, ne_eq, not_true_eq_false, or_self, if_false, if_pos h]

/-- Settles O36: the conditions of OPEN_DAY in order, and what opening the bank makes of the state. -/
theorem openDayOpensNamedBank : Obligations.OpenDayOpensNamedBank := by
  unfold Obligations.OpenDayOpensNamedBank
  refine ⟨?opens, ?badArg, ?wrongState, ?notFound⟩
  case opens =>
    refine fun bk => carriesOut_of_owner exec_openDay fun l s x ⟨hbank, hphase, ha, hb, hwa, hwb⟩ => ?_
    rw [ownOpenDay_of_ready (s := (recordTaken s).setLink x) hbank hphase ha hb hwa hwb]
    rw [openBank_setLink, openBank_eq]
    unfold openSeed
    simp only [State.setLink_journal]
    cases (recordTaken s).journal.carried <;> rfl
  case badArg => exact refuses_of_owner exec_openDay fun l s x hcode => ownOpenDay_of_undefined hcode
  case wrongState =>
    exact refuses_of_owner exec_openDay fun l s x ⟨hcode, hstate⟩ =>
      ownOpenDay_of_wrongState (s := (recordTaken s).setLink x) hcode hstate
  case notFound =>
    exact refuses_of_owner exec_openDay fun l s x ⟨hcode, hphase, ha, hb, hwindow⟩ =>
      ownOpenDay_of_no_window (s := (recordTaken s).setLink x) hcode hphase ha hb hwindow

/-! ### The two loads (R192, R193) -/

theorem exec_reloadConfig (t : Fin 64) (s : State) : exec (.reloadConfig t) s =
    .next (takeRecord t (fun c => c == 0x0080) (runCommand ownReloadConfig) bootReload s) := rfl

theorem exec_loadConfig (t : Fin 64) (s : State) : exec (.loadConfig t) s =
    .next (takeRecord t (fun c => c == 0x0081) (runCommand ownLoadConfig) bootLoad s) := rfl

/-- R41: a command that either page takes, carried out or refused by its owner in the control window. -/
theorem takeRecord_of_owner {t : Fin 64} {code : Nat} {owner : Owner} {boot : Line → State → State} {s : State} {k : Nat}
    {l : ReqLine} (hturn : AtTurn s t k l .control) (hcode : recordCode l.data = code)
    (hlock : codeProtected code = true → s.guard.lock = .open) {u : State} {a : Option RefusalCode}
    (howner : ∀ x, owner l.data ((recordTaken s).setLink x) = (u.setLink x, a)) :
    RecordPasses t k l (answered l.data a u) (takeRecord t (fun c => c == code) (runCommand owner) boot s) := by
  refine takeRecord_control hturn (by simp [hcode]) fun x => ?_
  rw [← answered_setLink]
  exact runCommand_eq (by rw [hcode]; exact hlock) (howner x)

theorem reloadBarred_iff {s : State} : reloadBarred s = true ↔
    s.day.phase = .closing ∨ s.day.phase = .switching ∨ s.label.round ≠ .idle ∨
      ∃ bk : Bank, s.day.openBank ≠ some bk ∧ (getBank s.journal bk).state ≠ .idle := by
  have hbanks : (∃ bk : Bank, s.day.openBank ≠ some bk ∧ (getBank s.journal bk).state ≠ .idle) ↔
      (s.day.openBank ≠ some .a ∧ (getBank s.journal .a).state ≠ .idle) ∨
        (s.day.openBank ≠ some .b ∧ (getBank s.journal .b).state ≠ .idle) := by
    constructor
    · rintro ⟨bk, h⟩
      cases bk
      · exact .inl h
      · exact .inr h
    · rintro (h | h)
      · exact ⟨.a, h⟩
      · exact ⟨.b, h⟩
  rw [hbanks]
  simp only [reloadBarred, Bool.or_eq_true, decide_eq_true_eq, List.any_cons, List.any_nil, Bool.or_false, Bool.and_eq_true,
    or_assoc]

theorem ownReloadConfig_of_busy {l : Line} {s : State} (h : s.loader.load ≠ .idle) :
    ownReloadConfig l s = (s, some .busy) := by
  simp only [ownReloadConfig, if_pos h]

theorem ownReloadConfig_of_idle {l : Line} {s : State} (h : s.loader.load = .idle) :
    ownReloadConfig l s = if reloadBarred s then (s, some .wrongState)
      else (s.setLoader { s.loader with load := .readingEeprom (originOf false l) }, none) := by
  simp only [ownReloadConfig, h, ne_eq, not_true_eq_false, if_false]

theorem judgeLoad_of_busy {o : LoadOrigin} {load : Load} {b : Bool} {s : State} (h : s.loader.load ≠ .idle) :
    judgeLoad o load b s = postResult o .refused (some .busy) none s := if_pos h

theorem judgeLoad_of_badArg {o : LoadOrigin} {load : Load} {s : State} (h : s.loader.load = .idle) :
    judgeLoad o load true s = postResult o .refused (some .badArg) none s := (if_neg (not_not_intro h)).trans (if_pos rfl)

theorem judgeLoad_of_ready {o : LoadOrigin} {load : Load} {s : State} (h : s.loader.load = .idle) :
    judgeLoad o load false s = withLoad load (postResult o .accepted none none s) :=
  (if_neg (not_not_intro h)).trans (if_neg (by simp))

/-- Settles O39: what each load's owner answers, and what the judgement on the bootstrap page makes of it. -/
theorem loadCommandsBeginLoads : Obligations.LoadCommandsBeginLoads := by
  unfold Obligations.LoadCommandsBeginLoads
  refine ⟨?reload, ?reloadBusy, ?reloadWrongState, ?load, ?bootReload, ?bootLoad⟩
  case reload =>
    intro t s k l hturn hcode hlock hcond
    obtain ⟨hidle, hbarred⟩ := hcond
    refine ⟨_, exec_reloadConfig t s, takeRecord_of_owner hturn hcode hlock fun x => ?_⟩
    rw [ownReloadConfig_of_idle (s := (recordTaken s).setLink x) hidle,
      if_neg (fun h => hbarred (reloadBarred_iff (s := (recordTaken s).setLink x).mp h))]
    rfl
  case reloadBusy =>
    intro t s k l hturn hcode hlock hbusy
    exact ⟨_, exec_reloadConfig t s, takeRecord_of_owner hturn hcode hlock fun x =>
      ownReloadConfig_of_busy (s := (recordTaken s).setLink x) hbusy⟩
  case reloadWrongState =>
    intro t s k l hturn hcode hlock hcond
    obtain ⟨hidle, hbarred⟩ := hcond
    refine ⟨_, exec_reloadConfig t s, takeRecord_of_owner hturn hcode hlock fun x => ?_⟩
    rw [ownReloadConfig_of_idle (s := (recordTaken s).setLink x) hidle,
      if_pos (reloadBarred_iff (s := (recordTaken s).setLink x).mpr hbarred)]
  case load =>
    intro t s k l hturn hcode hlock _
    exact ⟨_, exec_loadConfig t s, takeRecord_of_owner hturn hcode hlock fun x => rfl⟩
  case bootReload =>
    intro t s k l hturn hcode
    refine ⟨fun hbusy => ?_, fun hidle => ?_⟩
    · exact ⟨_, exec_reloadConfig t s, takeRecord_bootstrap hturn (by simp [hcode]) fun x =>
        judgeLoad_of_busy (s := s.setLink x) hbusy⟩
    · exact ⟨_, exec_reloadConfig t s, takeRecord_bootstrap hturn (by simp [hcode]) fun x =>
        judgeLoad_of_ready (s := s.setLink x) hidle⟩
  case bootLoad =>
    intro t s k l hturn hcode
    refine ⟨fun hbusy => ?_, fun hidle haddr => ?_, fun hidle haddr => ?_⟩
    · exact ⟨_, exec_loadConfig t s, takeRecord_bootstrap hturn (by simp [hcode]) fun x =>
        judgeLoad_of_busy (s := s.setLink x) hbusy⟩
    · refine ⟨_, exec_loadConfig t s, takeRecord_bootstrap hturn (by simp [hcode]) fun x => ?_⟩
      have hbad : decide (Config.bootstrapLimit ≤ getField l.data 4 4) = true := decide_eq_true haddr
      unfold bootLoad
      rw [hbad]
      exact judgeLoad_of_badArg (s := s.setLink x) hidle
    · refine ⟨_, exec_loadConfig t s, takeRecord_bootstrap hturn (by simp [hcode]) fun x => ?_⟩
      have hgood : decide (Config.bootstrapLimit ≤ getField l.data 4 4) = false :=
        decide_eq_false (Nat.not_le_of_lt haddr)
      unfold bootLoad
      rw [hgood]
      exact judgeLoad_of_ready (s := s.setLink x) hidle

end Sys2Proof.Machine
end

section
/-! PROOFS. The step (log entry 2), the rows whose event a state does not make (log entry 9), the invariants at reset, and
what an access at the port is. -/

namespace Sys2Proof.Machine

open Sys2Proof Sys2Proof.Safety

/-- Settles O1: by the definition of the step. -/
theorem stepRunsFrontCommand : Obligations.StepRunsFrontCommand := by
  unfold Obligations.StepRunsFrontCommand
  intro c rest s hpending
  simp only [step, hpending]
  rfl

/-! ### Nothing due (log entry 2) -/

theorem visitExpired_iff {l : LabelState} :
    visitExpired l = true ↔ ∃ z, l.zone = some z ∧ l.zones[z] = .waiting ∧ l.timeout = 0 := by
  simp only [visitExpired, Bool.and_eq_true, decide_eq_true_eq, zoneWaiting_iff]
  constructor
  · rintro ⟨⟨z, hz, hw⟩, ht⟩
    exact ⟨z, hz, hw, ht⟩
  · rintro ⟨z, hz, hw, ht⟩
    exact ⟨⟨z, hz, hw⟩, ht⟩

theorem idle_of_nothingDue {s : State} (h : NothingDue s) : idle s = microsecond s := by
  obtain ⟨hcompare, htrigger, hepoch, hretry, hgrace, hvisit⟩ := h
  have hexpired : ¬visitExpired s.label = true := by
    rw [visitExpired_iff]
    rintro ⟨z, hz, hw, ht⟩
    exact absurd (hvisit z hz hw) (by omega)
  have hclosing : ¬(s.day.phase = .closing ∧ s.day.grace = 0) := by
    rintro ⟨hphase, hzero⟩
    exact absurd (hgrace hphase) (by omega)
  unfold idle
  rw [if_neg (by omega), if_neg (by omega), if_neg (by omega), if_neg hexpired, if_neg hclosing, if_neg (by simp [hretry])]

theorem pacingCheck_of_empty {s : State} (h : s.guest.queue = []) : pacingCheck s = s := by
  rw [pacingCheck, if_neg (by simp [paceHead, h])]

/-- R154, R157: with no request deferred the pacing timer of a microsecond releases nothing. -/
theorem microsecond_of_empty {s : State} (h : s.guest.queue = []) : microsecond s =
    if s.time.micros ≥ 999 then periodTick (clockTick ((pacingCount 1 s).setTime { s.time with micros := 0 }))
    else (pacingCount 1 s).setTime { s.time with micros := s.time.micros + 1 } := by
  unfold microsecond
  rw [pacingCheck_of_empty (s := pacingCount 1 s) h]
  rfl

theorem clockTick_of_lt {s : State} (h : s.time.millis < 999) :
    clockTick s = s.setTime { s.time with millis := s.time.millis + 1 } := by
  rw [clockTick, if_neg (by omega)]

theorem periodTick_of_compare {s : State} (h : s.time.counter + 1 < s.time.inForce.p)
    (hc : s.time.counter + 1 = s.time.inForce.c) : periodTick s =
      s.setTime { s.time with counter := s.time.counter + 1, compareDue := s.time.compareDue + 1 } := by
  unfold periodTick
  dsimp only
  rw [if_neg (by omega), if_pos hc]

theorem periodTick_of_ne {s : State} (h : s.time.counter + 1 < s.time.inForce.p)
    (hc : s.time.counter + 1 ≠ s.time.inForce.c) : periodTick s =
      s.setTime { s.time with counter := s.time.counter + 1 } := by
  unfold periodTick
  dsimp only
  rw [if_neg (by omega), if_neg hc]

/-- Settles O2: with nothing due the block lets one microsecond pass, whose thousandth is a tick. -/
theorem emptyQueueLetsTimePass : Obligations.EmptyQueueLetsTimePass := by
  unfold Obligations.EmptyQueueLetsTimePass
  intro s hpending hdue hqueue
  have hstep : step s = .next (microsecond s) := by
    simp only [step, hpending, idle_of_nothingDue hdue]
  rw [hstep, microsecond_of_empty hqueue]
  refine ⟨fun hmicros => ?_, fun hmicros hmillis hcounter => ?_⟩
  · rw [if_neg (by omega)]
    rfl
  · have hnone : s.time.compareDue = 0 := hdue.1
    have hclock := clockTick_of_lt (s := (pacingCount 1 s).setTime { s.time with micros := 0 }) hmillis
    rw [if_pos (by omega), hclock]
    by_cases hc : s.time.counter + 1 = s.time.inForce.c
    · rw [if_pos hc]
      refine (congrArg Host.Outcome.next (periodTick_of_compare (by exact hcounter) (by exact hc))).trans ?_
      simp only [State.setTime_time, hnone]
      rfl
    · rw [if_neg hc, ← hnone]
      exact congrArg Host.Outcome.next (periodTick_of_ne (by exact hcounter) (by exact hc))

/-! ### An access at the port (R14) -/

theorem grantedAccess_eq_some_iff {s : State} {src : Source} {a : Access} :
    grantedAccess s.mem src = some a ↔ InsertedAtPort s src a := by
  unfold grantedAccess InsertedAtPort
  by_cases hport : s.mem.port = .inserted src
  · rw [if_pos hport]
    cases s.mem.slots.get src <;> simp [hport]
  · rw [if_neg hport]
    simp [hport]

theorem grantedAccess_eq_none_iff {s : State} {src : Source} :
    grantedAccess s.mem src = none ↔ ∀ a, ¬InsertedAtPort s src a := by
  simp only [Option.eq_none_iff_forall_ne_some, ne_eq, grantedAccess_eq_some_iff]

theorem completePlacement_of_not_made {b : Bool} {s : State}
    (h : (∀ a, ¬InsertedAtPort s .reportWriter a) ∨ s.reports.placing = none) : completePlacement b s = s := by
  unfold completePlacement
  rcases h with h | h
  · rw [grantedAccess_eq_none_iff.mpr h]
  · rw [h]
    cases grantedAccess s.mem .reportWriter <;> rfl

theorem completeCapture_of_not_made {b : Bool} {s : State}
    (h : (∀ a, ¬InsertedAtPort s .priceWatch a) ∨ s.price.access ≠ .captureRead) : completeCapture b s = s := by
  unfold completeCapture
  rcases h with h | h
  · rw [grantedAccess_eq_none_iff.mpr h]
  · split
    · exact absurd ‹_› h
    · rfl

theorem completeCheck_of_not_made {b : Bool} {s : State}
    (h : (∀ a, ¬InsertedAtPort s .priceWatch a) ∨ ∀ item, s.price.access ≠ .checkRead item) : completeCheck b s = s := by
  unfold completeCheck
  rcases h with h | h
  · rw [grantedAccess_eq_none_iff.mpr h]
  · split
    · exact absurd ‹_› (h _)
    · rfl

theorem completeWriteBack_of_not_made {b : Bool} {s : State}
    (h : (∀ a, ¬InsertedAtPort s .priceWatch a) ∨ ∀ item, s.price.access ≠ .writeBack item) :
    completeWriteBack b s = s := by
  unfold completeWriteBack
  rcases h with h | h
  · rw [grantedAccess_eq_none_iff.mpr h]
  · split
    · exact absurd ‹_› (h _)
    · rfl

theorem completePartWrite_of_not_made {b : Bool} {s : State}
    (h : (∀ a, ¬InsertedAtPort s .journalEngine a) ∨ ∀ o e, s.journal.partWrite ≠ .writing o e) :
    completePartWrite b s = s := by
  unfold completePartWrite
  rcases h with h | h
  · rw [grantedAccess_eq_none_iff.mpr h]
  · split
    · exact absurd ‹_› (h _ _)
    · rfl

theorem completeWorkRecord_of_not_made {b : Bool} {s : State}
    (h : (∀ a, ¬InsertedAtPort s .labelSequencer a) ∨ s.label.writing = none) : completeWorkRecord b s = s := by
  unfold completeWorkRecord
  rcases h with h | h
  · rw [grantedAccess_eq_none_iff.mpr h]
  · rw [h]
    cases grantedAccess s.mem .labelSequencer <;> rfl

theorem completeImageRead_of_not_made {b : Bool} {s : State}
    (h : (∀ a, ¬InsertedAtPort s .configLoader a) ∨ s.loader.access ≠ .imageRead ∨
      ∀ o next ls e, s.loader.load ≠ .readingMemory o next ls e) : completeImageRead b s = s := by
  unfold completeImageRead
  rcases h with h | h | h
  · rw [grantedAccess_eq_none_iff.mpr h]
  · split
    · exact absurd ‹_› h
    · rfl
  · split
    · exact absurd ‹_› (h _ _ _ _)
    · rfl

theorem completeResultLine_of_not_made {b : Bool} {s : State}
    (h : (∀ a, ¬InsertedAtPort s .configLoader a) ∨ s.loader.access ≠ .resultWrite) : completeResultLine b s = s := by
  unfold completeResultLine
  rcases h with h | h
  · rw [grantedAccess_eq_none_iff.mpr h]
  · split
    · exact absurd ‹_› h
    · rfl

/-! ### Lines and records that are absent -/

theorem takeRecord_of_absent {t : Fin 64} {s : State} {test : Nat → Prop} {b : Nat → Bool}
    (hb : ∀ c, b c = true → test c) (h : RecordAbsent s t test) (control boot : Line → State → State) :
    takeRecord t b control boot s = s := by
  unfold takeRecord
  split
  · rename_i hturn
    exact if_neg fun hc => h _ _ (.inl ⟨_, hturn⟩) (hb _ hc)
  · rename_i hturn
    exact if_neg fun hc => h _ _ (.inr ⟨_, hturn⟩) (hb _ hc)
  · rfl

theorem takeCommand_of_absent {t : Fin 64} {s : State} {code : Nat} (h : RecordAbsent s t (fun c => c = code))
    (owner : Owner) : takeCommand t code owner s = s :=
  takeRecord_of_absent (fun _ hc => by simpa using hc) h _ _

/-- Every control record's row but the loads' and the undefined codes', sent for an absent record. -/
theorem exec_controlCommand_of_absent {x : (Fin 64 → Instr) × Nat} (hx : x ∈ controlCommands) {t : Fin 64} {s : State}
    (h : RecordAbsent s t (fun c => c = x.2)) : exec (x.1 t) s = .next s := by
  obtain ⟨owner, hexec⟩ := exec_controlCommand x hx
  rw [hexec, takeCommand_of_absent h]

theorem giveOrder_of_barred {s : State} {o : PartOrder} (h : OrderBarred s o.bank) : giveOrder o s = s := by
  refine if_neg ?_
  rintro ⟨hordered, hidle, hwindow⟩
  rcases h with h | h | h
  · simp [h] at hordered
  · exact h hidle
  · simp [hasJournalWindow, h] at hwindow

theorem nextInserted_eq_none {s : State} (h : ∀ src a n, s.mem.slots.get src ≠ .waiting a n) :
    nextInserted s.mem = none := by
  unfold nextInserted
  rw [List.findSome?_eq_none_iff]
  intro src _
  cases hs : s.mem.slots.get src with
  | waiting a n => exact absurd hs (h src a n)
  | empty => rfl
  | granted a => rfl

theorem endTest_of_not_closing {s : State} (h : s.day.phase ≠ .closing) : endTest s = s := if_neg fun hc => h hc.1

theorem execRequestStart_of_not_made {t : Fin 64} {s : State} (h : ∀ r, ¬AtStart s t r) :
    execRequestStart t s = .next s := by
  unfold execRequestStart
  split
  · rfl
  · rename_i r hr
    refine if_neg fun hc => h r ⟨hr, hc.1, ?_⟩
    simpa using hc.2

theorem execDramGrant_of_not_made {s : State} (h : s.mem.port ≠ .idle ∨ s.mem.hold = true ∨
    (s.mem.queue = [] ∧ ∀ src a n, s.mem.slots.get src ≠ .waiting a n)) : execDramGrant s = .next s := by
  unfold execDramGrant
  by_cases hc : s.mem.port = .idle ∧ s.mem.hold = false
  · rw [if_pos hc]
    obtain ⟨hqueue, hslots⟩ := (h.resolve_left (not_not_intro hc.1)).resolve_left (by simp [hc.2])
    simp only [grant, hqueue, nextInserted_eq_none hslots]
  · rw [if_neg hc]

theorem execPlacementIssue_of_not_made {s : State} (h : s.reports.pending = [] ∨
    roleWindow s.guard.windows .report = none ∨ s.reports.placing ≠ none ∨ s.mem.slots.reportWriter ≠ .empty ∨
      ringFull s.reports.producer s.reports.consumer (ringCapacity s.guard.windows .report) = true) :
    execPlacementIssue s = .next s := by
  unfold execPlacementIssue
  split
  · rename_i hp hw
    refine if_neg fun hc => ?_
    simp only [canPlace, Bool.and_eq_true, decide_eq_true_eq, Bool.not_eq_true'] at hc
    obtain ⟨⟨hplacing, hslot⟩, hfull⟩ := hc
    rcases h with h | h | h | h | h
    · simp [h] at hp
    · simp [h] at hw
    · exact h hplacing
    · exact h hslot
    · exact absurd (h.symm.trans hfull) (by simp)
  · rfl

theorem execCaptureReadIssue_of_not_made {s : State} (h : captureCandidate s.price = none ∨ s.price.access ≠ .idle ∨
    s.mem.slots.priceWatch ≠ .empty ∨ s.mem.hold = true ∨
      (withdrawalCandidate s.price ≠ none ∧ s.price.lastIssue = .capture)) : execCaptureReadIssue s = .next s := by
  unfold execCaptureReadIssue
  split
  · rename_i c hcand
    refine if_neg fun hc => ?_
    simp only [priceIdle, Bool.and_eq_true, decide_eq_true_eq, Option.isNone_iff_eq_none] at hc
    obtain ⟨⟨haccess, hslot⟩, hhold, hturn⟩ := hc
    rcases h with h | h | h | h | ⟨hw, hl⟩
    · simp [h] at hcand
    · exact h haccess
    · exact h hslot
    · simp [h] at hhold
    · exact hturn.elim hw (fun hlast => by simp [hl] at hlast)
  · rfl

theorem execCheckReadIssue_of_not_made {s : State} (h : withdrawalCandidate s.price = none ∨ s.price.access ≠ .idle ∨
    s.mem.slots.priceWatch ≠ .empty ∨
      (captureCandidate s.price ≠ none ∧ s.mem.hold = false ∧ s.price.lastIssue = .withdrawal)) :
    execCheckReadIssue s = .next s := by
  unfold execCheckReadIssue
  split
  · rename_i e hcand
    refine if_neg fun hc => ?_
    simp only [priceIdle, Bool.and_eq_true, decide_eq_true_eq, Option.isNone_iff_eq_none] at hc
    obtain ⟨⟨haccess, hslot⟩, hturn⟩ := hc
    rcases h with h | h | h | ⟨hcapture, hhold, hl⟩
    · simp [h] at hcand
    · exact h haccess
    · exact h hslot
    · rcases hturn with hturn | hturn | hturn
      · exact hcapture hturn
      · simp [hhold] at hturn
      · simp [hl] at hturn
  · rfl

theorem execPartWriteIssue_of_not_made {s : State} (h : ∀ o, s.journal.partWrite = .draining o →
    roleWindow s.guard.windows o.bank.role = none ∨ 0 < (getBank s.journal o.bank).inFlight ∨
      s.mem.slots.journalEngine ≠ .empty) : execPartWriteIssue s = .next s := by
  unfold execPartWriteIssue
  split
  · rename_i o ho
    split
    · rename_i w hw
      refine if_neg fun hc => ?_
      rcases h o ho with h | h | h
      · simp [h] at hw
      · omega
      · exact h hc.2
    · rfl
  · rfl

theorem execWorkRecordIssue_of_not_made {s : State} (h : (∀ z, s.label.zone = some z → s.label.zones[z] ≠ .queueing) ∨
    roleWindow s.guard.windows .labelQueue = none ∨ s.label.writing ≠ none ∨ s.mem.slots.labelSequencer ≠ .empty ∨
      s.mem.hold = true ∨ ringFull s.label.producer s.label.consumer (ringCapacity s.guard.windows .labelQueue) = true) :
    execWorkRecordIssue s = .next s := by
  unfold execWorkRecordIssue
  split
  · rename_i z w hz hw
    refine if_neg fun hc => ?_
    simp only [canIssueRecord, zoneQueueing, hz, Bool.and_eq_true, decide_eq_true_eq, Bool.not_eq_true'] at hc
    obtain ⟨⟨⟨⟨hqueueing, hwriting⟩, hslot⟩, hhold⟩, hfull⟩ := hc
    rcases h with h | h | h | h | h | h
    · exact h z hz hqueueing
    · simp [h] at hw
    · exact h hwriting
    · exact h hslot
    · simp [h] at hhold
    · exact absurd (h.symm.trans hfull) (by simp)
  · rfl

theorem execResultLineIssue_of_not_made {s : State} (h : s.loader.result = none ∨ s.loader.access ≠ .idle ∨
    s.mem.slots.configLoader ≠ .empty) : execResultLineIssue s = .next s := by
  unfold execResultLineIssue
  split
  · rename_i r hr
    refine if_neg fun hc => ?_
    rcases h with h | h | h
    · simp [h] at hr
    · exact h hc.1
    · exact h hc.2
  · rfl

theorem execDayOpenOrder_of_not_made {s : State} (h : ∀ bk, s.day.phase = .dayOpen → s.day.openBank = some bk →
    (getBank s.journal bk).state = .open → (getBank s.journal bk).cursor = 0 → OrderBarred s bk) :
    execDayOpenOrder s = .next s := by
  unfold execDayOpenOrder
  split
  · rename_i bk hphase hbank
    split
    · rename_i hc
      exact congrArg _ (giveOrder_of_barred (h bk hphase hbank hc.1 hc.2))
    · rfl
  · rfl

theorem execSwitchOrder_of_not_made {s : State} (h : ∀ o, s.day.phase = .switching → switchNext s = some o →
    OrderBarred s o.bank) : execSwitchOrder s = .next s := by
  unfold execSwitchOrder
  split
  · rename_i o hphase ho
    exact congrArg _ (giveOrder_of_barred (h o hphase ho))
  · rfl

theorem execJournalEntry_of_not_made {t : Fin 64} {s : State} (h : ∀ k l bk, ¬AtTurn s t k l (.journal bk)) :
    execJournalEntry t s = .next s := by
  unfold execJournalEntry
  split
  · exact absurd ⟨_, ‹_›⟩ (h _ _ _)
  · rfl

theorem execPriceWriteCapture_of_not_made {t : Fin 64} {s : State} (h : ∀ k l, ¬AtTurn s t k l .capture) :
    execPriceWriteCapture t s = .next s := by
  unfold execPriceWriteCapture
  split
  · exact absurd ⟨_, ‹_›⟩ (h _ _)
  · rfl

theorem execAcknowledgement_of_not_made {t : Fin 64} {s : State} (h : ∀ k l, ¬AtTurn s t k l .ack) :
    execAcknowledgement t s = .next s := by
  unfold execAcknowledgement
  split
  · exact absurd ⟨_, ‹_›⟩ (h _ _)
  · rfl

theorem execPassedWriteComplete_of_not_made {s : State} (h : ∀ p, s.mem.port = .passed p → p.kind ≠ .write) :
    execPassedWriteComplete s = .next s := by
  unfold execPassedWriteComplete
  split
  · exact congrArg _ (if_neg (h _ ‹_›))
  · rfl

theorem execPassedReadComplete_of_not_made {s : State} (h : ∀ p, s.mem.port = .passed p → p.kind ≠ .read) :
    execPassedReadComplete s = .next s := by
  unfold execPassedReadComplete
  split
  · exact congrArg _ (if_neg (h _ ‹_›))
  · rfl

theorem compareEvent_of_not_made {s : State} (h : s.time.compareDue = 0 ∧ s.time.inForce.c ≤ s.time.counter) :
    compareEvent s = s := by
  obtain ⟨hdue, hcounter⟩ := h
  unfold compareEvent
  rw [if_neg (by omega), if_neg (by omega)]

theorem graceExpiry_of_not_made {s : State} (h : s.day.phase ≠ .closing ∨ 0 < s.day.grace) : graceExpiry s = s := by
  unfold graceExpiry
  rcases h with h | h
  · rw [endTest_of_not_closing h, ite_self]
  · rw [if_neg (by omega)]

theorem zoneTimeout_of_not_made {s : State}
    (h : ∀ z, s.label.zone = some z → s.label.zones[z] = .waiting → 0 < s.label.timeout) : zoneTimeout s = s := by
  refine if_neg fun hc => ?_
  obtain ⟨z, hz, hw, ht⟩ := visitExpired_iff.mp hc
  exact absurd (h z hz hw) (by omega)

theorem execEepromReadComplete_of_not_made {e : EepromRead} {s : State} (h : ∀ o, s.loader.load ≠ .readingEeprom o) :
    execEepromReadComplete e s = .next s := by
  unfold execEepromReadComplete
  split
  · exact absurd ‹_› (h _)
  · rfl

/-- Log entry 9: a row whose event is not made changes nothing. -/
theorem exec_of_notMade {c : Instr} {s : State} (h : NotMade c s) : exec c s = .next s := by
  have hrecord : ∀ x ∈ controlCommands, ∀ t, RecordAbsent s t (fun c => c = x.2) → exec (x.1 t) s = .next s :=
    fun x hx t hx' => exec_controlCommand_of_absent hx hx'
  simp only [controlCommands, List.forall_mem_cons, List.not_mem_nil, false_implies, implies_true, and_true] at hrecord
  obtain ⟨r1, r2, r3, r4, r5, r6, r7, r8, r9, r10, r11, r12, r13, r14, r15, r16, r17, r18, r19, r20, r21, r22, r23, r24, r25,
    r26, r27, r28⟩ := hrecord
  cases c with
  | request r => exact h.elim
  | requestStart t => exact execRequestStart_of_not_made h
  | journalEntry t => exact execJournalEntry_of_not_made h
  | priceWriteCapture t => exact execPriceWriteCapture_of_not_made h
  | acknowledgement t => exact execAcknowledgement_of_not_made h
  | dramGrant => exact execDramGrant_of_not_made h
  | passedWriteComplete => exact execPassedWriteComplete_of_not_made h
  | passedReadComplete => exact execPassedReadComplete_of_not_made h
  | placementIssue => exact execPlacementIssue_of_not_made h
  | placementComplete => exact congrArg _ (completePlacement_of_not_made h)
  | captureReadIssue => exact execCaptureReadIssue_of_not_made h
  | captureReadComplete => exact congrArg _ (completeCapture_of_not_made h)
  | checkReadIssue => exact execCheckReadIssue_of_not_made h
  | checkReadComplete => exact congrArg _ (completeCheck_of_not_made h)
  | writeBackComplete => exact congrArg _ (completeWriteBack_of_not_made h)
  | periodBoundary => exact h.elim
  | compareEvent => exact congrArg _ (compareEvent_of_not_made h)
  | roundTrigger => exact congrArg _ (if_pos h)
  | epochBoundary => exact congrArg _ (if_pos h)
  | secondEvent => exact h.elim
  | graceExpiry => exact congrArg _ (graceExpiry_of_not_made h)
  | deferredCloseRetry => exact congrArg _ (if_neg fun hc => absurd (hc.symm.trans h) (by simp))
  | pacingExpiry => exact h.elim
  | dayOpenOrder => exact execDayOpenOrder_of_not_made h
  | switchOrder => exact execSwitchOrder_of_not_made h
  | partWriteIssue => exact execPartWriteIssue_of_not_made h
  | partWriteCommit => exact congrArg _ (completePartWrite_of_not_made h)
  | workRecordIssue => exact execWorkRecordIssue_of_not_made h
  | workRecordComplete => exact congrArg _ (completeWorkRecord_of_not_made h)
  | zoneTimeout => exact congrArg _ (zoneTimeout_of_not_made h)
  | imageReadComplete => exact congrArg _ (completeImageRead_of_not_made h)
  | eepromReadComplete e => exact execEepromReadComplete_of_not_made h
  | resultLineIssue => exact execResultLineIssue_of_not_made h
  | resultLineWritten => exact congrArg _ (completeResultLine_of_not_made h)
  | linkReset => exact h.elim
  | powerFailHoldBegin => exact if_pos h
  | powerFailHoldEnd => exact if_neg fun hc => absurd (hc.symm.trans h) (by simp)
  | startUp e p as => exact h.elim
  | ackReports t => exact r1 t h
  | setIrqThreshold t => exact r2 t h
  | queryStatus t => exact r3 t h
  | unlock t => exact r4 t h
  | setWindow t => exact r5 t h
  | setClassMap t => exact r6 t h
  | setClassDefaults t => exact r7 t h
  | dumpGuardLog t => exact r8 t h
  | clearGuardLog t => exact r9 t h
  | setTimebase t => exact r10 t h
  | setClock t => exact r11 t h
  | setSchedule t => exact r12 t h
  | queryTotals t => exact r13 t h
  | setPriceView t => exact r14 t h
  | forceEffective t => exact r15 t h
  | withdrawPrice t => exact r16 t h
  | queryWatch t => exact r17 t h
  | setRounds t => exact r18 t h
  | startRound t => exact r19 t h
  | stopRound t => exact r20 t h
  | setGuestBudget t => exact r21 t h
  | clearGuestLatch t => exact r22 t h
  | openDay t => exact r23 t h
  | closeDay t => exact r24 t h
  | closeNow t => exact r25 t h
  | exportBegin t => exact r26 t h
  | exportComplete t => exact r27 t h
  | exportAbort t => exact r28 t h
  | reloadConfig t =>
    exact congrArg _ (takeRecord_of_absent (test := fun c => c = 0x0080) (fun _ hc => by simpa using hc) h _ _)
  | loadConfig t =>
    exact congrArg _ (takeRecord_of_absent (test := fun c => c = 0x0081) (fun _ hc => by simpa using hc) h _ _)
  | unknownCommand t =>
    exact congrArg _ (takeRecord_of_absent (test := fun c => codeDefined c = false) (fun _ hc => by simpa using hc) h _ _)
  | retainedSupplyLost => exact h.elim

/-- An outcome that is a next state. -/
def IsNext (o : Host.Outcome State Fault Refusal) : Prop := ∃ s', o = .next s'

theorem isNext_next (s : State) : IsNext (.next s) := ⟨s, rfl⟩

theorem isNext_ite {p : Prop} [Decidable p] {x y : Host.Outcome State Fault Refusal} (hx : IsNext x) (hy : IsNext y) :
    IsNext (if p then x else y) := by
  split
  · exact hx
  · exact hy

theorem isNext_execRequestStart (t : Fin 64) (s : State) : IsNext (execRequestStart t s) := by
  unfold execRequestStart
  split
  · exact isNext_next _
  · exact isNext_ite (isNext_ite (isNext_next _) (isNext_next _)) (isNext_next _)

theorem isNext_execJournalEntry (t : Fin 64) (s : State) : IsNext (execJournalEntry t s) := by
  unfold execJournalEntry
  split
  · split
    · dsimp only
      split <;> exact isNext_next _
    · exact isNext_next _
  · exact isNext_next _

theorem isNext_execPriceWriteCapture (t : Fin 64) (s : State) : IsNext (execPriceWriteCapture t s) := by
  unfold execPriceWriteCapture
  split
  · split <;> exact isNext_next _
  · exact isNext_next _

theorem isNext_execAcknowledgement (t : Fin 64) (s : State) : IsNext (execAcknowledgement t s) := by
  unfold execAcknowledgement
  split <;> exact isNext_next _

theorem isNext_execPassedWriteComplete (s : State) : IsNext (execPassedWriteComplete s) := by
  unfold execPassedWriteComplete
  split <;> exact isNext_next _

theorem isNext_execPassedReadComplete (s : State) : IsNext (execPassedReadComplete s) := by
  unfold execPassedReadComplete
  split <;> exact isNext_next _

theorem isNext_execPlacementIssue (s : State) : IsNext (execPlacementIssue s) := by
  unfold execPlacementIssue
  split
  · exact isNext_ite (isNext_next _) (isNext_next _)
  · exact isNext_next _

theorem isNext_execCaptureReadIssue (s : State) : IsNext (execCaptureReadIssue s) := by
  unfold execCaptureReadIssue
  split
  · exact isNext_ite (isNext_next _) (isNext_next _)
  · exact isNext_next _

theorem isNext_execCheckReadIssue (s : State) : IsNext (execCheckReadIssue s) := by
  unfold execCheckReadIssue
  split
  · exact isNext_ite (isNext_next _) (isNext_next _)
  · exact isNext_next _

theorem isNext_execDayOpenOrder (s : State) : IsNext (execDayOpenOrder s) := by
  unfold execDayOpenOrder
  split
  · exact isNext_ite (isNext_next _) (isNext_next _)
  · exact isNext_next _

theorem isNext_execSwitchOrder (s : State) : IsNext (execSwitchOrder s) := by
  unfold execSwitchOrder
  split <;> exact isNext_next _

theorem isNext_execPartWriteIssue (s : State) : IsNext (execPartWriteIssue s) := by
  unfold execPartWriteIssue
  split
  · split
    · exact isNext_ite (isNext_next _) (isNext_next _)
    · exact isNext_next _
  · exact isNext_next _

theorem isNext_execWorkRecordIssue (s : State) : IsNext (execWorkRecordIssue s) := by
  unfold execWorkRecordIssue
  split
  · exact isNext_ite (isNext_ite (isNext_next _) (isNext_next _)) (isNext_next _)
  · exact isNext_next _

theorem isNext_execEepromReadComplete (e : EepromRead) (s : State) : IsNext (execEepromReadComplete e s) := by
  unfold execEepromReadComplete
  split <;> exact isNext_next _

theorem isNext_execResultLineIssue (s : State) : IsNext (execResultLineIssue s) := by
  unfold execResultLineIssue
  split
  · exact isNext_ite (isNext_next _) (isNext_next _)
  · exact isNext_next _

/-- Every command answers a next state, in each branch of its row. -/
theorem exec_isNext (c : Instr) (s : State) : IsNext (exec c s) := by
  cases c with
  | request r => exact isNext_ite (isNext_next _) (isNext_next _)
  | requestStart t => exact isNext_execRequestStart t s
  | journalEntry t => exact isNext_execJournalEntry t s
  | priceWriteCapture t => exact isNext_execPriceWriteCapture t s
  | acknowledgement t => exact isNext_execAcknowledgement t s
  | passedWriteComplete => exact isNext_execPassedWriteComplete s
  | passedReadComplete => exact isNext_execPassedReadComplete s
  | placementIssue => exact isNext_execPlacementIssue s
  | captureReadIssue => exact isNext_execCaptureReadIssue s
  | checkReadIssue => exact isNext_execCheckReadIssue s
  | dayOpenOrder => exact isNext_execDayOpenOrder s
  | switchOrder => exact isNext_execSwitchOrder s
  | partWriteIssue => exact isNext_execPartWriteIssue s
  | workRecordIssue => exact isNext_execWorkRecordIssue s
  | eepromReadComplete e => exact isNext_execEepromReadComplete e s
  | resultLineIssue => exact isNext_execResultLineIssue s
  | powerFailHoldBegin => exact isNext_ite (isNext_next _) (isNext_next _)
  | powerFailHoldEnd => exact isNext_ite (isNext_next _) (isNext_next _)
  | _ => exact isNext_next _

/-- Settles O3: no command faults, and a row whose event is not made changes nothing. -/
theorem everyCommandAnswersNextState : Obligations.EveryCommandAnswersNextState := by
  unfold Obligations.EveryCommandAnswersNextState
  exact ⟨exec_isNext, fun _ _ => exec_of_notMade⟩

/-! ### The invariants at reset -/

theorem bounded_reset : Bounded State.reset := by
  refine ⟨by decide, by decide, by decide, by decide, by decide, by decide, by decide, fun src => ?_⟩
  cases src <;> exact trivial

theorem linesTracked_of_empty {s : State} (hrequests : s.link.requests = []) (hport : s.mem.port = .idle)
    (hqueue : s.mem.queue = []) (hprice : s.price.queue = []) (hguest : s.guest.queue = []) : LinesTracked s := by
  have hpassed : passedLines s.mem = [] := by rw [passedLines, hport, hqueue]
  constructor <;> simp [hrequests, hpassed, hqueue, hprice, hguest]

/-- Settles O7: reset holds no request, no deferred request, no price line and no enabled window. -/
theorem resetMeetsInvariants : Obligations.ResetMeetsInvariants := by
  unfold Obligations.ResetMeetsInvariants
  exact ⟨reset_dram_wf, bounded_reset, List.nodup_nil, List.nodup_nil, linesTracked_of_empty rfl rfl rfl rfl rfl,
    windowsSound_of_disabled rfl⟩

end Sys2Proof.Machine
end

section
/-! PROOFS. The sequence check (R76), the price check (R96) and the handling of an entry by its kind (R78 to R83, R103 to
R107). -/

namespace Sys2Proof.Machine

open Sys2Proof Sys2Proof.Safety

/-! ### Saturating additions (R103) -/

theorem Acc.add_of_range {a : Acc} {v : Int} {m : Bool} (hlow : -140737488355327 ≤ a.value + v)
    (hhigh : a.value + v ≤ 140737488355327) : a.add v m = (⟨a.value + v, a.marked || m⟩, m) := by
  have hlimit : Config.accLimit = 140737488355327 := rfl
  have h1 : ¬(140737488355327 < a.value + v) := by omega
  have h2 : ¬(a.value + v < -140737488355327) := by omega
  simp only [Acc.add, hlimit, h1, h2, decide_false, Bool.or_false, Bool.false_or, if_false]

theorem Acc.add_of_above {a : Acc} {v : Int} {m : Bool} (h : 140737488355327 < a.value + v) :
    a.add v m = (⟨140737488355327, true⟩, true) := by
  have hlimit : Config.accLimit = 140737488355327 := rfl
  simp only [Acc.add, hlimit, h, decide_true, Bool.true_or, Bool.or_true, if_true]

theorem Acc.add_of_below {a : Acc} {v : Int} {m : Bool} (h : a.value + v < -140737488355327) :
    a.add v m = (⟨-140737488355327, true⟩, true) := by
  have hlimit : Config.accLimit = 140737488355327 := rfl
  have h1 : ¬(140737488355327 < a.value + v) := by omega
  simp only [Acc.add, hlimit, h1, h, decide_true, decide_false, Bool.true_or, Bool.or_true, if_true, if_false]

/-! ### The price check (R96) -/

theorem priceCheck_some {w : WatchEntry} {p : Nat} (hne : w.oldPrice ≠ w.newPrice) : priceCheck (some w) p =
    if p = w.newPrice ∧ w.oldPrice < w.newPrice ∧ w.policy = .hold then (w.oldPrice, 0x200)
    else if p = w.newPrice ∧ w.oldPrice < w.newPrice then (p, 0x400)
    else if p = w.newPrice ∨ p = w.oldPrice then (p, 0) else (p, 0x800) := by
  unfold priceCheck
  by_cases hnew : p = w.newPrice
  · by_cases hlt : w.oldPrice < w.newPrice
    · cases hp : w.policy <;> simp [hnew, hlt, hp, flagPriceHeld, flagPriceAhead]
    · simp [hnew, hlt]
  · by_cases hold : p = w.oldPrice
    · simp [hold, hne]
    · simp [hnew, hold, flagPriceOther]

/-! ### The sequence check and the counts (R76, R106) -/

theorem seqDistance_eq {e : EntryFields} {c : TillContext} (h : c.lastSeq < 65536) :
    seqDistance e.seq c.lastSeq = seqStep e c := by
  rw [seqDistance, seqStep, Nat.mod_eq_of_lt h]

theorem hasWarning_iff {f : Word32} : hasWarning f = true ↔ f &&& 0x7FFF ≠ 0 := by
  simp [hasWarning, warningFlags]

/-- R106: the counts of the store after an entry with these flags. -/
theorem counted_eq (f : Word32) (d : DayTotals) :
    { d with store := { d.store with
        entries := countAdd d.store.entries 1
        flagged := if hasWarning f then countAdd d.store.flagged 1 else d.store.flagged } } = counted f d := by
  unfold counted
  by_cases h : hasWarning f = true
  · rw [if_pos h, if_pos (hasWarning_iff.mp h)]
    rfl
  · rw [if_neg h, if_neg (fun hf => h (hasWarning_iff.mpr hf))]
    rfl

theorem handleEntry_duplicate {watch : List WatchEntry} {e : EntryFields} {t : Fin 32} {c : TillContext} {d : DayTotals}
    (hlast : c.lastSeq < 65536) (hvalid : c.seqValid = true) (hstep : seqStep e c = 0) :
    handleEntry watch e t c d = ⟨some 0, 0x2, none, c, counted 0x2 d⟩ := by
  unfold handleEntry
  simp only [seqDistance_eq hlast, if_pos (And.intro hvalid hstep), counted_eq]
  rfl

theorem handleEntry_late {watch : List WatchEntry} {e : EntryFields} {t : Fin 32} {c : TillContext} {d : DayTotals}
    (hlast : c.lastSeq < 65536) (hvalid : c.seqValid = true) (hstep : 32768 ≤ seqStep e c) :
    handleEntry watch e t c d = ⟨some 0, 0x4, none, c, counted 0x4 d⟩ := by
  unfold handleEntry
  have hne : ¬(c.seqValid = true ∧ seqStep e c = 0) := by omega
  simp only [seqDistance_eq hlast, if_neg hne, if_pos (And.intro hvalid hstep), counted_eq]
  rfl

/-- R76: the till's context with the sequence state that an entry taken in sequence leaves. -/
def sequenced (e : EntryFields) (c : TillContext) : TillContext := { c with seqValid := true, lastSeq := e.seq }

/-- R76, R106: an entry in sequence is what the handling by kind makes of it. -/
theorem handledAs_of_kind {watch : List WatchEntry} {e : EntryFields} {t : Fin 32} {c : TillContext} {d : DayTotals}
    {amount : Option Int} {flags : Word32} {price : Option Nat} {context : TillContext} {totals : DayTotals}
    (hlast : c.lastSeq < 65536) (hseq : InSequence e c)
    (h : handleKind watch e t (sequenced e c) d = ⟨amount, flags, price, sequenced e context, totals⟩) :
    HandledAs watch e t c d amount flags price context totals := by
  have h1 : ¬(c.seqValid = true ∧ seqStep e c = 0) := by
    rintro ⟨hv, hz⟩
    rcases hseq with hf | hr
    · simp [hv] at hf
    · omega
  have h2 : ¬(c.seqValid = true ∧ 32768 ≤ seqStep e c) := by
    rintro ⟨hv, hz⟩
    rcases hseq with hf | hr
    · simp [hv] at hf
    · omega
  have hgap : flagIf (c.seqValid && decide (2 ≤ seqStep e c)) flagSeqGap =
      if c.seqValid = true ∧ 2 ≤ seqStep e c then 0x1 else 0 := by
    simp only [flagIf, flagSeqGap, Bool.and_eq_true, decide_eq_true_eq]
  have hkind : handleKind watch e t { c with seqValid := true, lastSeq := e.seq } d =
      ⟨amount, flags, price, sequenced e context, totals⟩ := h
  unfold HandledAs handleEntry
  simp only [seqDistance_eq hlast, if_neg h1, if_neg h2, hkind, hgap, counted_eq]
  rfl

theorem flags_or_none (f : Word32) : f ||| 0 = f := BitVec.or_zero

theorem flags_none_or (f : Word32) : 0 ||| f = f := BitVec.zero_or

/-! ### The kinds, one by one -/

section Kinds
variable {watch : List WatchEntry} {e : EntryFields} {t : Fin 32} {c : TillContext} {d : DayTotals}

theorem handleOpen_of_idle (h : c.state = .idle) :
    handleOpen e t c d = ⟨some 0, 0, none, { clearContext c with state := .inTxn, txnNo := e.txnNo }, d⟩ := by
  simp only [handleOpen, h]

theorem handleOpen_of_inTxn (h : c.state = .inTxn) :
    handleOpen e t c d = ⟨some 0, 0x8, none, { clearContext c with state := .inTxn, txnNo := e.txnNo },
      onTill t (fun x => { x with abandoned := min (x.abandoned + 1) 4294967295 }) d⟩ := by
  simp only [handleOpen, h]
  rfl

/-- R79: the price and the flags that the price check gives a line. -/
def linePrice (watch : List WatchEntry) (e : EntryFields) (isReturn : Bool) : Nat × Word32 :=
  if isReturn then (e.price, 0) else priceCheck (watch.find? (fun w => decide (w.item = e.item))) e.price

theorem handleLine_of_idle {isReturn : Bool} (h : c.state = .idle) :
    handleLine watch e isReturn c d =
      let p := linePrice watch e isReturn
      let r := lineAmount isReturn p.1 e.quantity e.discount
      ⟨some r.amount, p.2 ||| r.flags ||| 0x10, some p.1, c, d⟩ := by
  simp only [handleLine, h]
  rfl

theorem lineAmount_inRange (isReturn : Bool) (p : Nat) (q : Int) (k : Nat) :
    (lineAmount isReturn p q k).inRange = lineInRange p q := by
  unfold lineAmount
  cases h : lineInRange p q <;> simp

theorem handleLine_of_not_inRange {isReturn : Bool} (h : c.state = .inTxn)
    (hr : (lineAmount isReturn (linePrice watch e isReturn).1 e.quantity e.discount).inRange = false) :
    handleLine watch e isReturn c d =
      let p := linePrice watch e isReturn
      ⟨some 0, p.2 ||| (lineAmount isReturn p.1 e.quantity e.discount).flags, some p.1, c, d⟩ := by
  have hamount : (lineAmount isReturn (linePrice watch e isReturn).1 e.quantity e.discount).amount = 0 := by
    rw [lineAmount_inRange] at hr
    rw [lineAmount_of_not_inRange hr]
  unfold linePrice at hr hamount ⊢
  simp only [handleLine, h, hr, hamount]
  rfl

theorem handleLine_of_inRange {isReturn : Bool} (h : c.state = .inTxn)
    (hr : (lineAmount isReturn (linePrice watch e isReturn).1 e.quantity e.discount).inRange = true) :
    handleLine watch e isReturn c d =
      let p := linePrice watch e isReturn
      let r := lineAmount isReturn p.1 e.quantity e.discount
      ⟨some r.amount, p.2 ||| r.flags ||| flagIf (accountLine e isReturn r.amount c).2 flagOverflow |||
        flagIf (!joinsList c e.seq) flagListFull, some p.1, (accountLine e isReturn r.amount c).1, d⟩ := by
  unfold linePrice at hr ⊢
  simp only [handleLine, h, hr, if_true]

theorem joinsList_iff {seq : Nat} : joinsList c seq = true ↔ c.list.length < 64 ∧ ∀ l ∈ c.list, l.seq ≠ seq := by
  simp only [joinsList, Bool.and_eq_true, decide_eq_true_eq, Bool.not_eq_true', List.any_eq_false]
  exact Iff.rfl

theorem handleVoid_of_found {l : ListedLine} (h : c.state = .inTxn)
    (hl : c.list.find? (fun l => decide (l.seq = e.refSeq)) = some l) :
    handleVoid e c d =
      let total := c.total.add (-l.amount) false
      let voids := c.voids.add (-l.amount) false
      ⟨some (-l.amount), if total.2 || voids.2 then 0x1000 else 0, none,
        { c with total := total.1, voids := voids.1, list := c.list.filter (fun x => decide (x.seq ≠ e.refSeq)) }, d⟩ := by
  simp only [handleVoid, h, hl]
  rfl

theorem handleVoid_of_unmatched (h : c.state = .inTxn) (hl : ∀ l ∈ c.list, l.seq ≠ e.refSeq) :
    handleVoid e c d = ⟨some 0, 0x20, none, c, d⟩ := by
  have hnone : c.list.find? (fun l => decide (l.seq = e.refSeq)) = none := by simpa using hl
  simp only [handleVoid, h, hnone]
  rfl

theorem handleTender_of_range (h : c.state = .inTxn) (hlow : 0 ≤ e.amount) (hhigh : e.amount ≤ 9999999999) :
    handleTender e c d = ⟨none, if (c.tender.add e.amount false).2 then 0x1000 else 0, none,
      { c with tender := (c.tender.add e.amount false).1 }, d⟩ := by
  have hmax : 0 ≤ e.amount ∧ e.amount ≤ Config.maxTender := ⟨hlow, hhigh⟩
  simp only [handleTender, h, if_pos hmax]
  rfl

theorem handleTender_of_not_range (h : c.state = .inTxn) (ha : e.amount < 0 ∨ 9999999999 < e.amount) :
    handleTender e c d = ⟨none, 0x80, none, c, d⟩ := by
  have hmax : Config.maxTender = 9999999999 := rfl
  have hrange : ¬(0 ≤ e.amount ∧ e.amount ≤ Config.maxTender) := by omega
  simp only [handleTender, h, if_neg hrange]
  rfl

end Kinds

/-! ### A SALE or RETURN line in a transaction (R79) -/

theorem accountLine_sale {e : EntryFields} {a : Int} {c : TillContext} : accountLine e false a c =
    ({ c with
        total := (c.total.add a false).1, sales := (c.sales.add a false).1
        list := if joinsList c e.seq then c.list ++ [⟨e.seq, e.item, false, a⟩] else c.list },
      (c.total.add a false).2 || (c.sales.add a false).2) := by
  simp [accountLine]

theorem accountLine_return {e : EntryFields} {a : Int} {c : TillContext} : accountLine e true a c =
    ({ c with
        total := (c.total.add a false).1, returns := (c.returns.add a false).1
        list := if joinsList c e.seq then c.list ++ [⟨e.seq, e.item, true, a⟩] else c.list },
      (c.total.add a false).2 || (c.returns.add a false).2) := by
  simp [accountLine]

theorem handleClose_of_inTxn {t : Fin 32} {c : TillContext} {d : DayTotals} (h : c.state = .inTxn) :
    handleClose t c d =
      ⟨some c.total.value,
        (if (closeTotals t c d).2 || c.total.marked then 0x1000 else 0) |||
          (if 0 < c.total.value ∧ c.tender.value < c.total.value then 0x40 else 0), none, clearContext c,
        (closeTotals t c d).1⟩ := by
  simp only [handleClose, h, flagIf, Bool.and_eq_true, decide_eq_true_eq]
  rfl

/-- R83: a kind that needs a transaction makes nothing of an entry without one. -/
theorem handleKind_of_idle {watch : List WatchEntry} {e : EntryFields} {t : Fin 32} {c : TillContext} {d : DayTotals}
    (hk : e.kind = .void ∨ e.kind = .tender ∨ e.kind = .txnClose) (h : c.state = .idle) :
    handleKind watch e t c d = ⟨some 0, 0x10, none, c, d⟩ := by
  rcases hk with hk | hk | hk
  · simp only [handleKind, hk, handleVoid, h]
    rfl
  · simp only [handleKind, hk, handleTender, h]
    rfl
  · simp only [handleKind, hk, handleClose, h]
    rfl

/-- Settles O48: the sequence check decides whether the kind handling runs, and each kind is one equation. -/
theorem entryHandledBySequenceAndKind : Obligations.EntryHandledBySequenceAndKind := by
  unfold Obligations.EntryHandledBySequenceAndKind
  refine ⟨fun a v m => ⟨Acc.add_of_range, Acc.add_of_above, Acc.add_of_below⟩, fun p => rfl,
    fun w p hne => priceCheck_some hne, fun watch e t c d _ hlast => ⟨handleEntry_duplicate hlast, handleEntry_late hlast, ?_⟩⟩
  intro hseq
  have hkind : ∀ {amount flags price context totals},
      handleKind watch e t (sequenced e c) d = ⟨amount, flags, price, sequenced e context, totals⟩ →
      HandledAs watch e t c d amount flags price context totals := fun h => handledAs_of_kind hlast hseq h
  refine ⟨?openIdle, ?openInTxn, ?saleIdle, ?returnIdle, ?sale, ?return_, ?void, ?tender, ?close, ?idle, ?unknown⟩
  case openIdle =>
    intro hk hs
    refine hkind ?_
    simp only [handleKind, hk]
    exact handleOpen_of_idle hs
  case openInTxn =>
    intro hk hs
    refine hkind ?_
    simp only [handleKind, hk]
    exact handleOpen_of_inTxn hs
  case saleIdle =>
    intro hk hs
    refine hkind ?_
    simp only [handleKind, hk]
    exact handleLine_of_idle hs
  case returnIdle =>
    intro hk hs
    refine hkind ?_
    simp only [handleKind, hk]
    rw [handleLine_of_idle (c := sequenced e c) hs]
    simp [linePrice]
  case sale =>
    intro hk hs
    have hline : handleKind watch e t (sequenced e c) d = handleLine watch e false (sequenced e c) d := by
      simp only [handleKind, hk]
    refine ⟨fun hr => hkind ?_, fun hr hlisted => hkind ?_, fun hr hlisted => hkind ?_⟩
    · exact hline.trans (handleLine_of_not_inRange (c := sequenced e c) hs hr)
    · have hjoins : joinsList (sequenced e c) e.seq = true := joinsList_iff.mpr hlisted
      rw [hline, handleLine_of_inRange (c := sequenced e c) hs hr]
      simp only [accountLine_sale, hjoins, Bool.not_true, flagIf, Bool.false_eq_true, if_false, flags_or_none, if_true]
      rfl
    · have hjoins : joinsList (sequenced e c) e.seq = false :=
        Bool.eq_false_iff.mpr fun hj => hlisted (joinsList_iff.mp hj)
      rw [hline, handleLine_of_inRange (c := sequenced e c) hs hr]
      simp only [accountLine_sale, hjoins, Bool.not_false, flagIf, Bool.false_eq_true, if_false, if_true]
      rfl
  case return_ =>
    intro hk hs
    have hline : handleKind watch e t (sequenced e c) d = handleLine watch e true (sequenced e c) d := by
      simp only [handleKind, hk]
    have hprice : linePrice watch e true = (e.price, 0) := rfl
    refine ⟨fun hr => hkind ?_, fun hr hlisted => hkind ?_, fun hr hlisted => hkind ?_⟩
    · rw [hline, handleLine_of_not_inRange (c := sequenced e c) hs hr, hprice]
      simp only [flags_none_or]
    · have hjoins : joinsList (sequenced e c) e.seq = true := joinsList_iff.mpr hlisted
      rw [hline, handleLine_of_inRange (c := sequenced e c) hs hr, hprice]
      simp only [accountLine_return, hjoins, Bool.not_true, flagIf, Bool.false_eq_true, if_false, flags_or_none,
        flags_none_or, if_true]
      rfl
    · have hjoins : joinsList (sequenced e c) e.seq = false :=
        Bool.eq_false_iff.mpr fun hj => hlisted (joinsList_iff.mp hj)
      rw [hline, handleLine_of_inRange (c := sequenced e c) hs hr, hprice]
      simp only [accountLine_return, hjoins, Bool.not_false, flagIf, Bool.false_eq_true, if_false, flags_none_or, if_true]
      rfl
  case void =>
    intro hk hs
    refine ⟨fun l hl => hkind ?_, fun hl => hkind ?_⟩
    · simp only [handleKind, hk]
      exact handleVoid_of_found hs hl
    · simp only [handleKind, hk]
      exact handleVoid_of_unmatched hs hl
  case tender =>
    intro hk hs
    refine ⟨fun hlow hhigh => hkind ?_, fun ha => hkind ?_⟩
    · simp only [handleKind, hk]
      exact handleTender_of_range hs hlow hhigh
    · simp only [handleKind, hk]
      exact handleTender_of_not_range hs ha
  case close =>
    intro hk hs
    refine hkind ?_
    simp only [handleKind, hk]
    exact handleClose_of_inTxn (c := sequenced e c) hs
  case idle =>
    intro hk hs
    exact hkind (handleKind_of_idle (c := sequenced e c) hk hs)
  case unknown =>
    intro hk
    refine hkind ?_
    simp only [handleKind, hk]
    rfl

end Sys2Proof.Machine
end

section
/-! PROOFS. The rows of time that need no request: the compare event and the round trigger (R58, R137), the epoch boundary
(R127), and the second event with its matches, the grace and the deferred close (R61, R64, R171, R173, R184). -/

namespace Sys2Proof.Machine

open Sys2Proof Sys2Proof.Safety

/-! ### Compare events and round triggers (R58, R137) -/

theorem compareEvent_of_due {s : State} (h : 0 < s.time.compareDue) :
    compareEvent s = s.setTime (countCompare { s.time with compareDue := s.time.compareDue - 1 }) := if_pos h

theorem countCompare_eq (t : TimeState) : countCompare t = { t with
    roundCount := if t.roundCount + 1 ≥ t.inForce.n then 0 else t.roundCount + 1
    triggerDue := if t.roundCount + 1 ≥ t.inForce.n then t.triggerDue + 1 else t.triggerDue } := by
  unfold countCompare
  by_cases h : t.roundCount + 1 ≥ t.inForce.n
  · simp only [if_pos h]
  · simp only [if_neg h]

theorem roleWindow_isSome_iff {ws : Vector Window 16} {r : Role} :
    (roleWindow ws r).isSome = true ↔ ∃ i : Fin 16, ws[i].enabled = true ∧ ws[i].role = r := by
  rw [← Option.ne_none_iff_isSome, ne_eq, roleWindow_eq_none_iff]
  push Not
  exact Iff.rfl

/-- R137, R139: staged work in an enabled zone. -/
theorem workExists_iff {s : State} : workExists s = true ↔
    ∃ e ∈ s.price.table, e.state = .staged ∧ e.exit = .none ∧ s.label.settings.mask.getLsbD e.zone.val = true := by
  simp only [workExists, zoneEnabled, List.any_eq_true, Bool.and_eq_true, decide_eq_true_eq, and_assoc]

theorem roundTrigger_of_due {s : State} (h : 0 < s.time.triggerDue) : roundTrigger s =
    if s.label.settings.trigger = .timebase ∧ s.label.round = .idle ∧ s.mem.hold = false ∧
        (roleWindow s.guard.windows .labelQueue).isSome = true ∧ workExists s = true then
      startRound (s.setTime { s.time with triggerDue := s.time.triggerDue - 1 })
    else s.setTime { s.time with triggerDue := s.time.triggerDue - 1 } := if_neg (by omega)

/-- Settles O42: the compare event is one change of the Time Base, and the trigger's conditions are read off the state. -/
theorem compareEventsAndRoundTriggers : Obligations.CompareEventsAndRoundTriggers := by
  unfold Obligations.CompareEventsAndRoundTriggers
  refine ⟨fun s hdue => ?compare, fun s hdue => ⟨fun hready => ?starts, fun hready => ?forgotten⟩⟩
  case compare => exact congrArg Host.Outcome.next ((compareEvent_of_due hdue).trans (congrArg _ (countCompare_eq _)))
  case starts =>
    obtain ⟨htrigger, hround, hhold, hwindow, hwork⟩ := hready
    refine congrArg Host.Outcome.next ((roundTrigger_of_due hdue).trans (if_pos ?_))
    exact ⟨htrigger, hround, hhold, roleWindow_isSome_iff.mpr hwindow, workExists_iff.mpr hwork⟩
  case forgotten =>
    refine congrArg Host.Outcome.next ((roundTrigger_of_due hdue).trans (if_neg ?_))
    rintro ⟨htrigger, hround, hhold, hwindow, hwork⟩
    exact hready ⟨htrigger, hround, hhold, roleWindow_isSome_iff.mp hwindow, workExists_iff.mp hwork⟩

/-! ### The epoch boundary (R127) -/

/-- R48: the report state with a report, stamped with a time, at the tail of the pending queue. -/
def withReport (b : ReportBody) (t : TimeState) (r : ReportState) : ReportState :=
  if r.pending.length < 16 then { r with pending := r.pending ++ [⟨t.seconds, t.millis, t.clock, b⟩] }
  else { r with overflow := true }

theorem reported_eq (b : ReportBody) (s : State) : reported b s = s.setReports (withReport b s.time s.reports) := by
  unfold reported withReport
  split <;> rfl

theorem reported_setTime {s : State} {t : TimeState} (hs : t.seconds = s.time.seconds) (hm : t.millis = s.time.millis)
    (hc : t.clock = s.time.clock) (b : ReportBody) : reported b (s.setTime t) = (reported b s).setTime t := by
  have hstamp : withReport b t s.reports = withReport b s.time s.reports := by simp only [withReport, hs, hm, hc]
  simp only [reported_eq, State.setTime_time, State.setTime_reports, hstamp]
  rfl

theorem reported_setPrice (b : ReportBody) (s : State) (p : PriceState) :
    reported b (s.setPrice p) = (reported b s).setPrice p := by
  simp only [reported_eq, State.setPrice_time, State.setPrice_reports]
  rfl

theorem reported_setDay (b : ReportBody) (s : State) (d : DayState) :
    reported b (s.setDay d) = (reported b s).setDay d := arise_setDay b s d

@[simp] theorem reported_time (b : ReportBody) (s : State) : (reported b s).time = s.time := by
  unfold reported
  split <;> rfl

@[simp] theorem reported_price (b : ReportBody) (s : State) : (reported b s).price = s.price := by
  unfold reported
  split <;> rfl

@[simp] theorem reported_label (b : ReportBody) (s : State) : (reported b s).label = s.label := by
  unfold reported
  split <;> rfl

/-- R127: the PRICE_EFFECTIVE reports of entries, in table order. -/
def effectiveReports (es : List WatchEntry) (s : State) : State :=
  es.foldl (fun x e => reported (.priceEffective e.item e.oldPrice e.newPrice false) x) s

theorem effectiveReports_setPrice (es : List WatchEntry) (s : State) (p : PriceState) :
    effectiveReports es (s.setPrice p) = (effectiveReports es s).setPrice p := by
  induction es generalizing s with
  | nil => rfl
  | cons e es ih =>
    simp only [effectiveReports, List.foldl_cons, reported_setPrice] at ih ⊢
    exact ih _

theorem effectiveReports_setTime (es : List WatchEntry) {s : State} {t : TimeState} (hs : t.seconds = s.time.seconds)
    (hm : t.millis = s.time.millis) (hc : t.clock = s.time.clock) :
    effectiveReports es (s.setTime t) = (effectiveReports es s).setTime t := by
  induction es generalizing s with
  | nil => rfl
  | cons e es ih =>
    simp only [effectiveReports, List.foldl_cons, reported_setTime hs hm hc] at ih ⊢
    exact ih (by simpa using hs) (by simpa using hm) (by simpa using hc)

/-- R144: an entry that no visit awaits leaves the table with its report alone. -/
theorem removeEntry_of_not_awaited {item : Nat} {s : State} (ha : item ∉ s.label.awaited)
    (hw : item ∉ s.price.withdrawals) (b : ReportBody) : removeEntry item b s =
      (reported b s).setPrice { s.price with table := s.price.table.filter (fun x => decide (x.item ≠ item)) } := by
  have hkept : s.price.withdrawals.filter (fun i => decide (i ≠ item)) = s.price.withdrawals :=
    List.filter_eq_self.mpr fun i hi => decide_eq_true fun heq => hw (heq ▸ hi)
  rw [removeEntry_eq, leaveAwaited_of_not_mem (by simpa using ha), hkept]
  exact reported_setPrice b s _

/-- R127, first pass: entries that no visit awaits leave the table with their reports. -/
theorem foldl_removeEntry (es : List WatchEntry) (s : State) (ha : ∀ e ∈ es, e.item ∉ s.label.awaited)
    (hw : ∀ e ∈ es, e.item ∉ s.price.withdrawals) :
    es.foldl (fun s e => removeEntry e.item (.priceEffective e.item e.oldPrice e.newPrice false) s) s =
      (effectiveReports es s).setPrice { s.price with
        table := s.price.table.filter (fun x => es.all (fun e => decide (x.item ≠ e.item))) } := by
  induction es generalizing s with
  | nil => simp [effectiveReports, State.setPrice]
  | cons e es ih =>
    rw [List.foldl_cons, removeEntry_of_not_awaited (ha e List.mem_cons_self) (hw e List.mem_cons_self), ih]
    · rw [effectiveReports_setPrice]
      simp only [State.setPrice_price, List.filter_filter, effectiveReports, List.foldl_cons, List.all_cons,
        Bool.and_comm]
      rfl
    · exact fun x hx => by simpa using ha x (List.mem_cons_of_mem e hx)
    · exact fun x hx => hw x (List.mem_cons_of_mem e hx)

/-- Among elements with distinct keys, keeping those whose key differs from that of every one that satisfies a test keeps
those that do not satisfy it. -/
theorem filter_keys_ne {α β : Type} [DecidableEq β] {key : α → β} {xs : List α} (h : (xs.map key).Nodup) (p : α → Bool) :
    xs.filter (fun x => (xs.filter p).all (fun e => decide (key x ≠ key e))) = xs.filter (fun x => !p x) := by
  refine List.filter_congr fun x hx => ?_
  rw [Bool.eq_iff_iff, List.all_eq_true, Bool.not_eq_true']
  constructor
  · intro hall
    refine Bool.eq_false_iff.mpr fun hp => ?_
    simpa using hall x (List.mem_filter.mpr ⟨hx, hp⟩)
  · intro hp e he
    obtain ⟨hmem, hpe⟩ := List.mem_filter.mp he
    refine decide_eq_true fun heq => ?_
    have hsame : x = e := List.inj_on_of_nodup_map h hx hmem heq
    rw [hsame, hpe] at hp
    exact absurd hp (by simp)

theorem retires_eq (e : WatchEntry) :
    retires e = decide (e.state = .shown ∧ e.epochSeen = true ∧ e.exit = .none) := by
  simp only [retires, Bool.decide_and, Bool.decide_eq_true, Bool.and_assoc]

/-- R127: what the second pass leaves of an entry. -/
def epochMarked (e : WatchEntry) : WatchEntry :=
  if e.state = .shown ∧ e.exit = .none then { e with epochSeen := true } else e

theorem epochPass_eq {s : State} (hitems : ItemsDistinct s)
    (ha : ∀ e ∈ s.price.table.filter retires, e.item ∉ s.label.awaited)
    (hw : ∀ e ∈ s.price.table.filter retires, e.item ∉ s.price.withdrawals) : epochPass s =
      (effectiveReports (s.price.table.filter retires) s).setPrice { s.price with
        table := (s.price.table.filter (fun e => !retires e)).map epochMarked } := by
  unfold epochPass
  dsimp only
  rw [foldl_removeEntry _ s ha hw, filter_keys_ne hitems retires]
  rfl

/-- Settles O43: the first pass filters the marked entries out with their reports, the second marks what is left. -/
theorem epochBoundaryRetiresMarkedEntries : Obligations.EpochBoundaryRetiresMarkedEntries := by
  unfold Obligations.EpochBoundaryRetiresMarkedEntries
  intro s hdue hitems
  have hpass : epochBoundary s = epochPass (s.setTime { s.time with epochDue := s.time.epochDue - 1 }) :=
    if_neg (by omega)
  simp only [decide_not, ← retires_eq]
  intro ha hw
  refine congrArg Host.Outcome.next (hpass.trans ?_)
  rw [epochPass_eq (s := s.setTime { s.time with epochDue := s.time.epochDue - 1 }) hitems ha hw]
  rw [effectiveReports_setTime (s := s) (t := { s.time with epochDue := s.time.epochDue - 1 }) _ rfl rfl rfl]
  rfl

/-! ### The second event (R61, R64, R171, R173) -/

theorem secondEvent_of_not_closing {s : State} (h : s.day.phase ≠ .closing) :
    secondEvent s = giveMatches (countDeferred (s.setTime (nextSecond s.time))) := by
  simp only [secondEvent, h, decide_false, Bool.false_eq_true, if_false]

theorem secondEvent_of_closing {s : State} (h : s.day.phase = .closing) :
    secondEvent s = graceSecond (giveMatches (countDeferred (s.setTime (nextSecond s.time)))) := by
  simp only [secondEvent, h, decide_true, if_true]

theorem countDeferred_of_none {s : State} (h : s.day.deferred = none) : countDeferred s = s := by
  simp only [countDeferred, h]

theorem countDeferred_of_lt {s : State} {n : Nat} (h : s.day.deferred = some n) (hn : n < 59) :
    countDeferred s = s.setDay { s.day with deferred := some (n + 1) } := by
  have hlt : n + 1 < Config.retrySeconds := by simp only [Config.retrySeconds]; omega
  simp only [countDeferred, h, if_pos hlt]

theorem countDeferred_of_last {s : State} (h : s.day.deferred = some 59) :
    countDeferred s = s.setDay { s.day with deferred := some 0, retryDue := true } := by
  have hlast : ¬(59 + 1 < Config.retrySeconds) := by decide
  simp only [countDeferred, h, if_neg hlast]

theorem giveMatches_of_no_match {s : State} (h : s.time.clock = .unset ∨
    (s.time.schedule.closeAt ≠ some s.time.seconds ∧ s.time.schedule.exportEnd ≠ some s.time.seconds)) :
    giveMatches s = s := by
  have hclose : matchesAt s.time s.time.schedule.closeAt = false := by
    rcases h with h | ⟨h, _⟩ <;> simp [matchesAt, h]
  have hexport : matchesAt s.time s.time.schedule.exportEnd = false := by
    rcases h with h | ⟨_, h⟩ <;> simp [matchesAt, h]
  simp only [giveMatches, hclose, hexport]

theorem giveMatches_of_close {s : State} (hclock : s.time.clock = .set)
    (hclose : s.time.schedule.closeAt = some s.time.seconds) (hexport : s.time.schedule.exportEnd ≠ some s.time.seconds) :
    giveMatches s = timedClose s := by
  have h1 : matchesAt s.time s.time.schedule.closeAt = true := by simp [matchesAt, hclock, hclose]
  have h2 : matchesAt s.time s.time.schedule.exportEnd = false := by simp [matchesAt, hexport]
  simp only [giveMatches, h1, h2]

theorem giveMatches_of_export {s : State} (hclock : s.time.clock = .set)
    (hclose : s.time.schedule.closeAt ≠ some s.time.seconds) (hexport : s.time.schedule.exportEnd = some s.time.seconds) :
    giveMatches s = exportDeadline s := by
  have h1 : matchesAt s.time s.time.schedule.closeAt = false := by simp [matchesAt, hclose]
  have h2 : matchesAt s.time s.time.schedule.exportEnd = true := by simp [matchesAt, hclock, hexport]
  simp only [giveMatches, h1, h2]

theorem lowerGrace_eq (s : State) : lowerGrace s =
    s.setDay { s.day with grace := if s.mem.hold then s.day.grace else s.day.grace - 1 } := by
  unfold lowerGrace
  cases s.mem.hold <;> rfl

/-- R173: while some till is IN_TXN a grace above 0 is lowered, and the end test does not pass before its row. -/
theorem graceSecond_of_inTxn {s : State} {t : Fin 32} (ht : s.journal.contexts[t].state = .inTxn) (hg : 0 < s.day.grace) :
    graceSecond s = lowerGrace s := by
  have hset : suspendSet s.journal ≠ [] := fun hnil => by
    have hidle := suspendSet_eq_nil_iff.mp hnil t
    rw [ht] at hidle
    exact absurd hidle (by simp)
  unfold graceSecond
  rw [lowerGrace_eq]
  by_cases hzero : (if s.mem.hold then s.day.grace else s.day.grace - 1) = 0
  · exact (if_pos ⟨hzero, hg⟩).trans (if_neg hset)
  · exact (if_neg fun hc => hzero hc.1).trans (if_neg fun hc => hc.2.elim hset hzero)

/-- R173: with every till IDLE the end test passes. -/
theorem graceSecond_of_idle {s : State} (hphase : s.day.phase = .closing)
    (h : ∀ t : Fin 32, s.journal.contexts[t].state = .idle) : graceSecond s = s.setDay { s.day with
      phase := .switching, grace := if s.mem.hold then s.day.grace else s.day.grace - 1 } := by
  have hends : ∀ d : DayState, d.phase = .closing → endTest (s.setDay d) = s.setDay { d with phase := .switching } :=
    fun d hd => if_pos ⟨hd, .inl (suspendSet_eq_nil_iff.mpr h)⟩
  have hset : suspendSet s.journal = [] := suspendSet_eq_nil_iff.mpr h
  unfold graceSecond
  rw [lowerGrace_eq]
  refine Eq.trans ?_ (hends { s.day with grace := if s.mem.hold then s.day.grace else s.day.grace - 1 } hphase)
  by_cases hzero : (if s.mem.hold then s.day.grace else s.day.grace - 1) = 0 ∧ 0 < s.day.grace
  · exact (if_pos hzero).trans (if_pos hset)
  · exact if_neg hzero

/-- Settles O44: with no match the second event is the clock's advance, then the deferred close's count or the grace. -/
theorem secondEventAdvancesClockAndGrace : Obligations.SecondEventAdvancesClockAndGrace := by
  unfold Obligations.SecondEventAdvancesClockAndGrace
  intro s second time hmatch
  have hgive : ∀ d : DayState, giveMatches ((s.setTime time).setDay d) = (s.setTime time).setDay d :=
    fun d => giveMatches_of_no_match hmatch
  have hopen (hphase : s.day.phase ≠ .closing) : exec .secondEvent s = .next (giveMatches (countDeferred (s.setTime time))) :=
    congrArg Host.Outcome.next (secondEvent_of_not_closing hphase)
  have hclosing (hphase : s.day.phase = .closing) (hnone : s.day.deferred = none) :
      exec .secondEvent s = .next (graceSecond (s.setTime time)) := by
    refine congrArg Host.Outcome.next ((secondEvent_of_closing hphase).trans ?_)
    rw [countDeferred_of_none (s := s.setTime (nextSecond s.time)) hnone]
    exact congrArg graceSecond (giveMatches_of_no_match hmatch)
  refine ⟨fun hphase hnone => ?_, fun n hphase hsome hn => ?_, fun hphase hlast => ?_,
    fun hphase hnone ⟨t, ht⟩ hg => ?_, fun hphase hnone hidle => ?_⟩
  · rw [hopen hphase, countDeferred_of_none (s := s.setTime time) hnone]
    exact congrArg _ (hgive s.day)
  · rw [hopen hphase, countDeferred_of_lt (s := s.setTime time) hsome hn]
    exact congrArg _ (hgive _)
  · rw [hopen hphase, countDeferred_of_last (s := s.setTime time) hlast]
    exact congrArg _ (hgive _)
  · rw [hclosing hphase hnone, graceSecond_of_inTxn (s := s.setTime time) ht hg, lowerGrace_eq]
    rfl
  · rw [hclosing hphase hnone, graceSecond_of_idle (s := s.setTime time) hphase hidle]
    rfl

/-! ### The timed close and the deadline of exports (R64, R171, R184) -/

theorem timedClose_of_accepted {s : State} {bk : Bank} (hphase : s.day.phase = .dayOpen) (hopen : s.day.openBank = some bk)
    (hnone : s.day.deferred = none) (haccept : closeFailure s bk = none) : timedClose s = acceptTimed bk s := by
  simp only [timedClose, hphase, hopen, hnone, haccept]

theorem timedClose_of_failure {s : State} {bk : Bank} {c : RefusalCode} (hphase : s.day.phase = .dayOpen)
    (hopen : s.day.openBank = some bk) (hnone : s.day.deferred = none) (hfail : closeFailure s bk = some c) :
    timedClose s = (reported (.closeDeferred (waitedBank s bk).1 (waitedBank s bk).2) s).setDay
      { s.day with deferred := some 0 } := by
  simp only [timedClose, hphase, hopen, hnone, hfail]
  exact arise_setDay _ _ _

theorem closeFailure_of_barred {s : State} {bk : Bank} (h : (getBank s.journal bk).cursor = 0 ∨
    (getBank s.journal bk.other).state ≠ .idle ∨ hasJournalWindow s bk.other = false) :
    ∃ c, closeFailure s bk = some c := by
  by_cases hcursor : (getBank s.journal bk).cursor = 0
  · exact ⟨_, closeFailure_of_empty hcursor⟩
  by_cases hother : (getBank s.journal bk.other).state = .idle
  · exact ⟨_, closeFailure_of_no_window hcursor hother ((h.resolve_left hcursor).resolve_left (not_not_intro hother))⟩
  · exact ⟨_, closeFailure_of_other_busy hcursor hother⟩

theorem exportLate_of_not_exporting {s : State} {bk : Bank} (h : (getBank s.journal bk).state ≠ .exporting) :
    exportLate s bk = s := if_neg h

theorem exportLate_of_exporting {s : State} {bk : Bank} (h : (getBank s.journal bk).state = .exporting) :
    exportLate s bk = updateRoleWindow bk.role
      (fun w => { w with rights := { w.rights with wan := (getBank s.journal bk).savedWan }, writeProtect := true })
      (setBank bk { getBank s.journal bk with state := .closed }
        (reported (.exportLate bk (getBank s.journal bk).exportCursor) s)) := by
  rw [exportLate, if_pos h, endExport_eq, arise_eq_reported, reported_journal]
  rfl

@[simp] theorem updateRoleWindow_journal_eq (r : Role) (f : Window → Window) (s : State) :
    (updateRoleWindow r f s).journal = s.journal := by
  unfold updateRoleWindow
  split <;> rfl

/-- R184: the deadline makes the one bank that is EXPORTING late. -/
theorem exportDeadline_of_one {s : State} {bk : Bank} (h : (getBank s.journal bk).state = .exporting)
    (hother : (getBank s.journal bk.other).state ≠ .exporting) : exportDeadline s = exportLate s bk := by
  cases bk with
  | a =>
    refine exportLate_of_not_exporting ?_
    rw [exportLate_of_exporting h, updateRoleWindow_journal_eq, getBank_setBank_ne (by decide), reported_journal]
    exact hother
  | b => exact congrArg (exportLate · .b) (exportLate_of_not_exporting hother)

/-- Settles O45: a lone match is the timed close or the deadline, on the state with the clock advanced. -/
theorem matchesMakeTimedCloseAndExportLate : Obligations.MatchesMakeTimedCloseAndExportLate := by
  unfold Obligations.MatchesMakeTimedCloseAndExportLate
  intro s second next
  have hevent (hphase : s.day.phase ≠ .closing) (hnone : s.day.deferred = none) :
      exec .secondEvent s = .next (giveMatches next) := by
    refine congrArg Host.Outcome.next ((secondEvent_of_not_closing hphase).trans ?_)
    exact congrArg giveMatches (countDeferred_of_none (s := s.setTime (nextSecond s.time)) hnone)
  refine ⟨fun bk hclock hclose hexport hphase hopen hnone => ?close,
    fun bk hclock hexport hclose hphase hnone hstate hother => ?deadline⟩
  case close =>
    have htimed : exec .secondEvent s = .next (timedClose next) :=
      (hevent (by simp [hphase]) hnone).trans
        (congrArg Host.Outcome.next (giveMatches_of_close (s := next) hclock hclose hexport))
    refine ⟨fun hcursor hidle hwindow => ?_, fun hcursor => ?_, fun hcursor hbarred => ?_⟩
    · have haccept : closeFailure next bk = none := closeFailure_eq_none hcursor hidle hwindow
      rw [htimed, timedClose_of_accepted (s := next) hphase hopen hnone haccept]
      exact congrArg Host.Outcome.next (acceptClose_eq_closeBegun bk _ _ true next)
    · have hwaited : waitedBank next bk = (bk, .open) := if_pos hcursor
      rw [htimed, timedClose_of_failure (s := next) hphase hopen hnone (closeFailure_of_empty hcursor), hwaited]
      rfl
    · obtain ⟨c, hfail⟩ : ∃ c, closeFailure next bk = some c := closeFailure_of_barred (s := next) (.inr hbarred)
      have hwaited : waitedBank next bk = (bk.other, (getBank s.journal bk.other).state) := if_neg hcursor
      rw [htimed, timedClose_of_failure (s := next) hphase hopen hnone hfail, hwaited]
      rfl
  case deadline =>
    rw [hevent hphase hnone, giveMatches_of_export (s := next) hclock hclose hexport,
      exportDeadline_of_one (s := next) hstate hother, exportLate_of_exporting (s := next) hstate]

/-! ### The rows of a grace and of a retry (R171, R173) -/

theorem deferredRetry_of_due {s : State} {bk : Bank} (hdue : s.day.retryDue = true) (hphase : s.day.phase = .dayOpen)
    (hopen : s.day.openBank = some bk) : deferredRetry s =
      if closeFailure s bk = none then acceptTimed bk (s.setDay { s.day with retryDue := false })
      else s.setDay { s.day with retryDue := false } := by
  rw [deferredRetry, if_pos hdue]
  simp only [retryClose, State.setDay_day, hphase, hopen]
  rfl

theorem setBank_setDay (bk : Bank) (r : BankRecord) (s : State) (d : DayState) :
    setBank bk r (s.setDay d) = (setBank bk r s).setDay d := by
  cases bk <;> rfl

theorem updateRoleWindow_setDay (r : Role) (f : Window → Window) (s : State) (d : DayState) :
    updateRoleWindow r f (s.setDay d) = (updateRoleWindow r f s).setDay d := by
  unfold updateRoleWindow
  simp only [State.setDay_guard]
  split <;> rfl

/-- R171: an accepted close clears what is left of a deferred one. -/
theorem closeBegun_retryDue (bk : Bank) (g : Nat) (m : CarryMode) (b : Bool) (s : State) :
    closeBegun bk g m b (s.setDay { s.day with retryDue := false }) = closeBegun bk g m b s := by
  unfold closeBegun
  simp only [State.setDay_journal, setBank_setDay, updateRoleWindow_setDay, reported_setDay]
  rfl

/-- Settles O46: at a grace of 0 the end test passes; a due retry is the timed close where no test of R170 fails. -/
theorem graceExpiryAndDeferredRetry : Obligations.GraceExpiryAndDeferredRetry := by
  unfold Obligations.GraceExpiryAndDeferredRetry
  refine ⟨fun s hphase hgrace => ?_, fun s bk hdue hphase hopen => ⟨fun hcursor hidle hwindow => ?_, fun hbarred => ?_⟩⟩
  · have hends : endTest s = s.setDay { s.day with phase := .switching } := if_pos ⟨hphase, .inr hgrace⟩
    exact congrArg Host.Outcome.next ((if_pos hgrace).trans hends)
  · refine congrArg Host.Outcome.next ((deferredRetry_of_due hdue hphase hopen).trans ?_)
    rw [if_pos (closeFailure_eq_none hcursor hidle hwindow), acceptTimed, acceptClose_eq_closeBegun]
    exact closeBegun_retryDue bk _ _ true s
  · obtain ⟨c, hfail⟩ := closeFailure_of_barred hbarred
    refine congrArg Host.Outcome.next ((deferredRetry_of_due hdue hphase hopen).trans (if_neg ?_))
    simp [hfail]

end Sys2Proof.Machine
end

section
/-! PROOFS. The visits of a round (R136, R138, R141) and the period boundary (R57, R139, R145, R150, R160). -/

namespace Sys2Proof.Machine

open Sys2Proof Sys2Proof.Safety

/-! ### The visits of a list of zones (R138, R141) -/

theorem reported_setLabel (b : ReportBody) (s : State) (l : LabelState) :
    reported b (s.setLabel l) = (reported b s).setLabel l := by
  simp only [reported_eq, State.setLabel_time, State.setLabel_reports]
  rfl

theorem reported_setLabel_setLabel (b : ReportBody) (s : State) (l l' : LabelState) :
    (reported b (s.setLabel l)).setLabel l' = (reported b s).setLabel l' := by
  rw [reported_setLabel]
  rfl

/-- R141: a zone has staged work when a visit of it gathers some item. -/
theorem gather_ne_nil_iff {p : PriceState} {z : Fin 16} :
    gather p z ≠ [] ↔ ∃ e ∈ p.table, e.state = .staged ∧ e.zone = z ∧ e.exit = .none := by
  simp [gather, and_assoc]

theorem gather_eq (p : PriceState) (z : Fin 16) : gather p z =
    (p.table.filter (fun e => decide (e.state = .staged ∧ e.zone = z ∧ e.exit = .none))).map (fun e => ⟨e.item, false⟩) := by
  simp only [gather, Bool.decide_and, Bool.and_assoc]

/-- R138: a visit that gathers nothing has begun and ended at once. -/
def trivialVisit (z : Fin 16) (s : State) : State := closeVisit z (openVisit z s)

theorem visitZones_cons_of_nil {z : Fin 16} {rest : List (Fin 16)} {s : State} (h : gather s.price z = []) :
    visitZones (z :: rest) s = visitZones rest (trivialVisit z s) := if_pos h

theorem visitZones_cons_of_ne_nil {z : Fin 16} {rest : List (Fin 16)} {s : State} (h : gather s.price z ≠ []) :
    visitZones (z :: rest) s = setZone z .queueing (openVisit z s) := if_neg h

theorem trivialVisit_zones (z y : Fin 16) (s : State) :
    (trivialVisit z s).label.zones[y] = if z = y then .done else s.label.zones[y] := vput_get _ _ _ _

/-- R138, R141: zones that gather nothing end at once, and the first that gathers something is visited. -/
theorem visitZones_of_first {pre rest : List (Fin 16)} {z : Fin 16} (s : State)
    (hpre : ∀ y ∈ pre, gather s.price y = []) (hz : gather s.price z ≠ []) :
    ∃ zones, visitZones (pre ++ z :: rest) s = s.setLabel { s.label with
        zone := some z, visit := gather s.price z, awaited := [], sent := 0, shown := 0, timedOut := 0, timeout := 0
        recordNo := 0, visited := s.label.visited + pre.length, zones := zones } ∧
      ∀ y : Fin 16, zones[y] = if y = z then .queueing else if y ∈ pre then .done else s.label.zones[y] := by
  induction pre generalizing s with
  | nil =>
    refine ⟨vput s.label.zones z .queueing, visitZones_cons_of_ne_nil hz, fun y => ?_⟩
    simp only [vput_get, List.not_mem_nil, if_false, eq_comm]
  | cons x pre ih =>
    obtain ⟨zones, heq, hzones⟩ := ih (trivialVisit x s) (fun y hy => hpre y (List.mem_cons_of_mem x hy)) hz
    refine ⟨zones, ?_, fun y => ?_⟩
    · rw [List.cons_append, visitZones_cons_of_nil (hpre x List.mem_cons_self), heq, List.length_cons,
        Nat.add_comm pre.length 1, ← Nat.add_assoc]
      rfl
    · rw [hzones, trivialVisit_zones]
      by_cases hx : x = y
      · simp [hx]
      · simp [hx, Ne.symm hx]

/-- R138: with nothing gathered in any of the zones the round ends. -/
theorem visitZones_of_none {zs : List (Fin 16)} (s : State) (h : ∀ y ∈ zs, gather s.price y = []) :
    ∃ l, visitZones zs s = (reported (.roundDone s.label.number (s.label.visited + zs.length) false) s).setLabel l ∧
      l.number = s.label.number ∧ l.zone = none ∧ l.settings = s.label.settings ∧
      l.round = (if s.label.settings.mode = .oneRound then .idle else .running) ∧ l.producer = s.label.producer ∧
      l.consumer = s.label.consumer ∧ l.phase = s.label.phase ∧ l.writing = s.label.writing ∧
      ∀ y : Fin 16, l.zones[y] = if y ∈ zs then .done else s.label.zones[y] := by
  induction zs generalizing s with
  | nil =>
    refine ⟨{ s.label with zone := none, round := if s.label.settings.mode = .oneRound then .idle else .running },
      ?_, rfl, rfl, rfl, rfl, rfl, rfl, rfl, rfl, fun y => by simp⟩
    simp only [visitZones, endRound, arise_eq_reported, reported_label, Bool.false_eq_true, false_or]
    rfl
  | cons x zs ih =>
    obtain ⟨l, heq, hnumber, hzone, hsettings, hround, hproducer, hconsumer, hphase, hwriting, hzones⟩ :=
      ih (trivialVisit x s) fun y hy => h y (List.mem_cons_of_mem x hy)
    refine ⟨l, ?_, hnumber, hzone, hsettings, hround, hproducer, hconsumer, hphase, hwriting, fun y => ?_⟩
    · have hcount : s.label.visited + (x :: zs).length = s.label.visited + 1 + zs.length := by
        rw [List.length_cons, Nat.add_comm zs.length 1, ← Nat.add_assoc]
      rw [visitZones_cons_of_nil (h x List.mem_cons_self), hcount]
      exact heq.trans (reported_setLabel_setLabel _ s _ l)
    · rw [hzones, trivialVisit_zones]
      by_cases hx : x = y
      · simp [hx]
      · simp [hx, Ne.symm hx]

/-! ### The zones of a round, ascending (R138) -/

theorem sixteen_split (z : Fin 16) : sixteen =
    sixteen.filter (fun y => decide (y < z)) ++ z :: sixteen.filter (fun y => decide (z < y)) := by
  revert z
  decide

/-- The zones that satisfy a test, split at one of them. -/
theorem filter_sixteen_split {p : Fin 16 → Bool} {z : Fin 16} (h : p z = true) : sixteen.filter p =
    sixteen.filter (fun y => decide (y < z) && p y) ++ z :: sixteen.filter (fun y => decide (z < y) && p y) := by
  conv_lhs => rw [sixteen_split z]
  rw [List.filter_append, List.filter_cons_of_pos h, List.filter_filter, List.filter_filter]
  simp only [Bool.and_comm]

theorem mem_filter_sixteen {p : Fin 16 → Bool} {y : Fin 16} : y ∈ sixteen.filter p ↔ p y = true := by
  simp [List.mem_filter, mem_sixteen]

/-- R138, R141: of the zones that satisfy a test, the lowest with staged work is visited, those below it having ended. -/
theorem visitZones_of_lowest {p : Fin 16 → Bool} {z : Fin 16} (s : State)
    (hz : p z = true ∧ ∃ e ∈ s.price.table, e.state = .staged ∧ e.zone = z ∧ e.exit = .none)
    (hlow : ∀ y : Fin 16, y < z → ¬(p y = true ∧ ∃ e ∈ s.price.table, e.state = .staged ∧ e.zone = y ∧ e.exit = .none)) :
    ∃ zones, visitZones (sixteen.filter p) s = s.setLabel { s.label with
        zone := some z, visit := gather s.price z, awaited := [], sent := 0, shown := 0, timedOut := 0, timeout := 0
        recordNo := 0, visited := s.label.visited + (sixteen.filter (fun y => decide (y < z) && p y)).length
        zones := zones } ∧
      ∀ y : Fin 16, zones[y] = if y = z then .queueing else if y < z ∧ p y = true then .done else s.label.zones[y] := by
  have hpre : ∀ y ∈ sixteen.filter (fun y => decide (y < z) && p y), gather s.price y = [] := by
    intro y hy
    rw [mem_filter_sixteen, Bool.and_eq_true, decide_eq_true_eq] at hy
    exact not_not.mp fun hne => hlow y hy.1 ⟨hy.2, gather_ne_nil_iff.mp hne⟩
  rw [filter_sixteen_split hz.1]
  obtain ⟨zones, heq, hzones⟩ := visitZones_of_first (rest := sixteen.filter (fun y => decide (z < y) && p y)) s hpre
    (gather_ne_nil_iff.mpr hz.2)
  refine ⟨zones, heq, fun y => ?_⟩
  simp only [hzones, mem_filter_sixteen, Bool.and_eq_true, decide_eq_true_eq]

theorem gather_of_no_work {p : Fin 16 → Bool} {s : State}
    (h : ∀ z : Fin 16, ¬(p z = true ∧ ∃ e ∈ s.price.table, e.state = .staged ∧ e.zone = z ∧ e.exit = .none)) :
    ∀ y ∈ sixteen.filter p, gather s.price y = [] := fun y hy =>
  not_not.mp fun hne => h y ⟨mem_filter_sixteen.mp hy, gather_ne_nil_iff.mp hne⟩

/-! ### A visit ends, a round starts -/

theorem endVisit_of_running {s : State} {now : Fin 16} (hzone : s.label.zone = some now)
    (hround : s.label.round = .running) :
    endVisit s = visitZones (standbyZones (closeVisit now s).label) (closeVisit now s) := by
  have hgo : ¬(closeVisit now s).label.round = .stopping := fun h => by
    rw [show (closeVisit now s).label.round = s.label.round from rfl, hround] at h
    exact absurd h (by simp)
  simp only [endVisit, hzone, if_neg hgo]

/-- R136: the label state as a round starts. -/
def roundBegun (l : LabelState) : LabelState :=
  { l with number := (l.number + 1) % 256, zones := Vector.replicate 16 .standby, visited := 0, round := .running }

theorem startRound_eq (s : State) : startRound s = visitZones
    (sixteen.filter (fun z => s.label.settings.mask.getLsbD z.val)) (s.setLabel (roundBegun s.label)) := by
  have hstandby : standbyZones (roundBegun s.label) = sixteen.filter (fun z => s.label.settings.mask.getLsbD z.val) := by
    refine List.filter_congr fun z _ => ?_
    simp [roundBegun, zoneEnabled]
  exact congrArg (visitZones · (s.setLabel (roundBegun s.label))) hstandby

/-- Settles O34: the standby zones split at the lowest with staged work, those before it being trivial visits. -/
theorem roundVisitsLowestZoneWithWork : Obligations.RoundVisitsLowestZoneWithWork := by
  unfold Obligations.RoundVisitsLowestZoneWithWork
  refine ⟨fun s now hzone hround => ⟨fun z hwork hlow => ?nextVisit, fun hnone => ?lastVisit⟩,
    fun s => ⟨fun z hwork hlow => ?firstVisit, fun hnone => ?noVisit⟩⟩
  case nextVisit =>
    obtain ⟨zones, heq, hzones⟩ := visitZones_of_lowest (closeVisit now s) hwork hlow
    exact ⟨_, (endVisit_of_running hzone hround).trans heq, by rw [gather_eq]; rfl, hzones⟩
  case lastVisit =>
    obtain ⟨l, heq, hnumber, hzone', hsettings, hround', hproducer, hconsumer, hphase, hwriting, hzones⟩ :=
      visitZones_of_none (closeVisit now s) (gather_of_no_work hnone)
    refine ⟨l, (endVisit_of_running hzone hround).trans (heq.trans ?_), hnumber, hzone', hsettings, hround', hproducer,
      hconsumer, hphase, hwriting, fun y => ?_⟩
    · exact reported_setLabel_setLabel _ s _ l
    · rw [hzones]
      simp only [mem_filter_sixteen]
      rfl
  case firstVisit =>
    obtain ⟨zones, heq, hzones⟩ := visitZones_of_lowest (s.setLabel (roundBegun s.label)) hwork hlow
    refine ⟨_, (startRound_eq s).trans heq, by rw [gather_eq]; rfl, Nat.zero_add _, fun y => ?_⟩
    rw [hzones]
    simp [roundBegun]
  case noVisit =>
    obtain ⟨l, heq, hnumber, hzone, hsettings, hround, hproducer, hconsumer, hphase, hwriting, _⟩ :=
      visitZones_of_none (s.setLabel (roundBegun s.label)) (gather_of_no_work hnone)
    refine ⟨l, (startRound_eq s).trans (heq.trans ?_), hnumber, hzone, hsettings, hround, hproducer, hconsumer, hphase,
      hwriting⟩
    exact (congrArg (fun n => (reported (.roundDone _ n false) _).setLabel l) (Nat.zero_add _)).trans
      (reported_setLabel_setLabel _ s _ l)

/-! ### The period boundary (R57) -/

theorem releaseAll_of_empty {b : Bool} {s : State} (h : s.guest.queue = []) : releaseAll b s = s := by
  simp only [releaseAll, h, release]

theorem guestBoundary_of_empty {s : State} (h : s.guest.queue = []) : guestBoundary s = s.setGuest { s.guest with
    usage := 0, inForce := s.guest.staged.getD s.guest.inForce, staged := none, violations := 0 } :=
  releaseAll_of_empty h

theorem boundaryTime_eq (t : TimeState) : boundaryTime t = { t with
    counter := 0, inForce := t.staged.getD t.inForce, staged := none
    epochCount := if t.epochCount + 1 ≥ t.inForce.e ∨ t.staged ≠ none then 0 else t.epochCount + 1
    roundCount := if t.staged ≠ none then 0 else t.roundCount
    epochDue := if t.epochCount + 1 ≥ t.inForce.e then t.epochDue + 1 else t.epochDue
    compareDue := if (t.staged.getD t.inForce).c = 0 then t.compareDue + 1 else t.compareDue } := by
  unfold boundaryTime
  cases hst : t.staged with
  | none =>
    by_cases hc : t.inForce.c = 0
    · simp [hc]
    · simp [hc]
  | some x =>
    by_cases hc : x.c = 0
    · simp [hc]
    · simp [hc]

theorem labelBoundary_of_hold {s : State} (h : s.mem.hold = true) : labelBoundary s = s := if_pos h

theorem labelBoundary_of_waiting {s : State} (h : s.mem.hold = false) (hw : zoneWaiting s.label = true) :
    labelBoundary s = s.setLabel { s.label with timeout := s.label.timeout - 1 } :=
  (if_neg (by simp [h])).trans (if_pos hw)

theorem labelBoundary_of_resting {s : State} (h : s.mem.hold = false) (hround : s.label.round = .running)
    (hzone : s.label.zone = none) (hwork : workExists s = true) : labelBoundary s = startRound s := by
  have hnot : ¬zoneWaiting s.label = true := by simp [zoneWaiting, hzone]
  exact (if_neg (by simp [h])).trans ((if_neg hnot).trans (if_pos ⟨hround, hzone, hwork⟩))

theorem labelBoundary_of_neither {s : State} (h : s.mem.hold = false) (hw : ¬zoneWaiting s.label = true)
    (hrest : ¬(s.label.round = .running ∧ s.label.zone = none ∧ workExists s = true)) : labelBoundary s = s :=
  (if_neg (by simp [h])).trans ((if_neg hw).trans (if_neg hrest))

/-- Settles O40: Time Base, Guest Budget and Label Sequencer take the boundary one after another. -/
theorem periodBoundaryActsInOrder : Obligations.PeriodBoundaryActsInOrder := by
  unfold Obligations.PeriodBoundaryActsInOrder
  intro s hqueue ended force time guest work waits
  have htime : boundaryTime s.time = time := by
    have hforce : s.time.staged.getD s.time.inForce = force := by
      simp only [force]
      cases s.time.staged <;> rfl
    rw [boundaryTime_eq, hforce]
  have hguest : guestBoundary (s.setTime time) = (s.setTime time).setGuest guest := by
    have hin : s.guest.staged.getD s.guest.inForce = guest.inForce := by
      simp only [guest]
      cases s.guest.staged <;> rfl
    rw [guestBoundary_of_empty (s := s.setTime time) hqueue]
    simp only [State.setTime_guest, hin]
    rfl
  have hexec : exec .periodBoundary s = .next (labelBoundary ((s.setTime time).setGuest guest)) := by
    rw [← hguest, ← htime]
    rfl
  have hwork : workExists ((s.setTime time).setGuest guest) = true ↔ work := workExists_iff
  have hwaits : zoneWaiting ((s.setTime time).setGuest guest).label = true ↔ waits := zoneWaiting_iff
  refine ⟨fun hhold => ?_, fun hhold hw => ?_, fun hhold hround hzone hw => ?_, fun hhold hw hrest => ?_⟩
  · exact hexec.trans (congrArg Host.Outcome.next (labelBoundary_of_hold hhold))
  · exact hexec.trans (congrArg Host.Outcome.next (labelBoundary_of_waiting hhold (hwaits.mpr hw)))
  · exact hexec.trans (congrArg Host.Outcome.next (labelBoundary_of_resting hhold hround hzone (hwork.mpr hw)))
  · refine hexec.trans (congrArg Host.Outcome.next (labelBoundary_of_neither hhold (mt hwaits.mp hw) ?_))
    exact fun hc => hrest ⟨hc.1, hc.2.1, hwork.mp hc.2.2⟩

end Sys2Proof.Machine
end

section
/-! PROOFS. The DRAM port: what a completing write leaves (R12, R14), the grants (R15), and the power-fail hold (R17). -/

namespace Sys2Proof.Machine

open Sys2Proof Sys2Proof.Safety

/-! ### One value for each source -/

@[simp] theorem PerSource.get_map {α β : Type} (p : PerSource α) (f : α → β) (src : Source) :
    (p.map f).get src = f (p.get src) := by
  cases src <;> rfl

theorem PerSource.any_toList {α : Type} {p : PerSource α} {f : α → Bool} :
    p.toList.any f = true ↔ ∃ src, f (p.get src) = true := by
  rw [List.any_eq_true]
  constructor
  · rintro ⟨x, hx, hf⟩
    simp only [PerSource.toList, List.mem_cons, List.not_mem_nil, or_false] at hx
    rcases hx with rfl | rfl | rfl | rfl | rfl
    · exact ⟨.reportWriter, hf⟩
    · exact ⟨.journalEngine, hf⟩
    · exact ⟨.priceWatch, hf⟩
    · exact ⟨.labelSequencer, hf⟩
    · exact ⟨.configLoader, hf⟩
  · rintro ⟨src, hf⟩
    exact ⟨p.get src, by cases src <;> simp [PerSource.get, PerSource.toList], hf⟩

/-- What holds of both branches of a choice holds of the choice. -/
theorem apply_ite_eq {α : Type} {c : Prop} [Decidable c] {f : State → α} {a b : State} {x : α} (ha : f a = x) (hb : f b = x) :
    f (if c then a else b) = x := by
  split
  · exact ha
  · exact hb

/-! ### What the port and the DRAM are after a write (R12, R14) -/

/-- The port is IDLE and the DRAM holds a line written. -/
def Stored (dram : Memory) (addr : Nat) (mask : Mask) (data : Line) (m : MemState) : Prop :=
  m.port = .idle ∧ m.dram = Memory.writeLine dram addr mask data

/-- R14: a granted write that completes in range has been stored, and its slot is free. -/
theorem stored_releaseSlot (src : Source) (a : Access) (s : State) :
    Stored s.mem.dram a.addr a.mask a.data (releaseSlot src (storeAccess false a s)).mem := ⟨rfl, rfl⟩

theorem recordGood_mem (o : Option LineRef) (d : Line) (s : State) : (recordGood o d s).mem = s.mem := by
  cases o with
  | none => rfl
  | some x => exact setOutcome_mem _ _ _ _ _

theorem commitCarried_mem (c : Option EntryCommit) (s : State) : (commitCarried c s).mem = s.mem := by
  cases c with
  | none => rfl
  | some x => exact commitEntry_mem x s

theorem releasedDone_mem (addr : Nat) (s : State) : (releasedDone addr s).mem = s.mem := by
  unfold releasedDone
  dsimp only
  split
  · exact (watchSide_removeEntry _ _ _).mem
  · rfl

theorem completeWrite_mem (p : PassedLine) (s : State) : (completeWrite p s).mem =
    { s.mem with port := .idle, selfRefresh := s.mem.selfRefresh || s.mem.hold
                 dram := Memory.writeLine s.mem.dram p.addr p.mask p.data } := by
  unfold completeWrite
  refine apply_ite_eq (f := State.mem) ?_ ?_
  · rw [releasedDone_mem, commitCarried_mem, recordGood_mem]
    rfl
  · rw [commitCarried_mem, recordGood_mem]
    rfl

theorem handOver_mem (bk : Bank) (s : State) : (handOver bk s).mem = s.mem := by
  simp only [handOver, openBank_mem, setBankState_mem, State.setJournal_mem, setBank_mem]

theorem finishSwitch_mem (bk : Bank) (s : State) : (finishSwitch bk s).mem = s.mem := by
  have hdrop : ∀ (ts : List (Fin 32)) (u : State), (ts.foldl dropContext u).mem = u.mem := by
    intro ts
    induction ts with
    | nil => exact fun u => rfl
    | cons t ts ih => exact fun u => ih (dropContext u t)
  unfold finishSwitch
  dsimp only
  rw [arise_mem, State.setDay_mem]
  split
  · exact hdrop _ s
  · rfl

theorem orderCommitted_mem (o : PartOrder) (s : State) : (orderCommitted o s).mem = s.mem := by
  have hcommitted : ∀ (bk : Bank) (u : State), (switchCommitted bk o u).mem = u.mem := fun bk u => by
    have hkind : ∀ v : State, (if o.kind = .dayClose then handOver bk v else v).mem = v.mem := fun v =>
      apply_ite_eq (f := State.mem) (handOver_mem bk v) rfl
    exact apply_ite_eq (f := State.mem) ((finishSwitch_mem bk _).trans (hkind _)) (hkind _)
  unfold orderCommitted
  dsimp only
  split
  · exact hcommitted _ _
  · exact apply_ite_eq (f := State.mem) (arise_mem _ _) rfl
  · rfl

theorem commitPart_mem (o : PartOrder) (e : Line) (s : State) : (commitPart o e s).mem = s.mem := by
  unfold commitPart
  dsimp only
  rw [orderCommitted_mem, (watchSide_reportFlagged _ _ _ _ _ _ _).mem, retainBank_mem, State.setJournal_mem, setBank_mem]

theorem writtenBack_mem (item : Nat) (s : State) : (writtenBack item s).mem = s.mem := by
  unfold writtenBack
  dsimp only
  split
  · exact (watchSide_removeEntry _ _ _).mem
  · rfl

/-- R191, R192: the next image read is issued into its slot; port and DRAM stay. -/
theorem readNext_port (s : State) : (readNext s).mem.port = s.mem.port ∧ (readNext s).mem.dram = s.mem.dram := by
  unfold readNext
  split
  · split <;> exact ⟨rfl, rfl⟩
  · exact ⟨rfl, rfl⟩

theorem placement_stored {s : State} {a : Access} (ha : grantedAccess s.mem .reportWriter = some a)
    (hp : s.reports.placing ≠ none) :
    Stored s.mem.dram a.addr a.mask a.data (completePlacement false s).mem := by
  obtain ⟨p, hp⟩ := Option.ne_none_iff_exists'.mp hp
  simp only [completePlacement, ha, hp]
  split
  · rw [evalIrq_mem]
    exact stored_releaseSlot _ a s
  · exact stored_releaseSlot _ a s

theorem partWrite_stored {s : State} {a : Access} {o : PartOrder} {e : Line}
    (ha : grantedAccess s.mem .journalEngine = some a) (hp : s.journal.partWrite = .writing o e) :
    Stored s.mem.dram a.addr a.mask a.data (completePartWrite false s).mem := by
  simp only [completePartWrite, ha, hp, commitPart_mem]
  exact stored_releaseSlot _ a s

theorem writeBack_stored {s : State} {a : Access} {i : Nat} (ha : grantedAccess s.mem .priceWatch = some a)
    (hp : s.price.access = .writeBack i) : Stored s.mem.dram a.addr a.mask a.data (completeWriteBack false s).mem := by
  simp only [completeWriteBack, ha, hp, writtenBack_mem]
  exact stored_releaseSlot _ a s

theorem workRecord_stored {s : State} {a : Access} (ha : grantedAccess s.mem .labelSequencer = some a)
    (hp : s.label.writing ≠ none) : Stored s.mem.dram a.addr a.mask a.data (completeWorkRecord false s).mem := by
  obtain ⟨w, hw⟩ := Option.ne_none_iff_exists'.mp hp
  simp only [completeWorkRecord, ha, hw, (watchSide_workWritten _ _).mem]
  exact stored_releaseSlot _ a s

theorem resultLine_stored {s : State} {a : Access} (ha : grantedAccess s.mem .configLoader = some a)
    (hp : s.loader.access = .resultWrite) : Stored s.mem.dram a.addr a.mask a.data (completeResultLine false s).mem := by
  simp only [completeResultLine, ha, hp]
  obtain ⟨hport, hdram⟩ := readNext_port ((releaseSlot .configLoader (storeAccess false a s)).setLoader
    { (releaseSlot .configLoader (storeAccess false a s)).loader with access := .idle })
  exact ⟨hport, hdram⟩

/-- R12, R14: each of the six completions stores its line and leaves the port IDLE. -/
theorem exec_stored {c : Instr} {s : State} {addr : Nat} {mask : Mask} {data : Line} (h : WriteAtPort c s addr mask data) :
    ∃ s', exec c s = .next s' ∧ Stored s.mem.dram addr mask data s'.mem := by
  rcases h with ⟨rfl, p, hport, hkind, rfl, rfl, rfl⟩ | ⟨src, hport, hslot, hsource⟩
  · refine ⟨completeWrite p s, ?_, ?_⟩
    · show execPassedWriteComplete s = _
      simp only [execPassedWriteComplete, hport, if_pos hkind]
    · rw [completeWrite_mem]
      exact ⟨rfl, rfl⟩
  · have ha : grantedAccess s.mem src = some ⟨.write, addr, mask, data⟩ := grantedAccess_eq_some_iff.mpr ⟨hport, hslot⟩
    rcases hsource with ⟨rfl, rfl, hp⟩ | ⟨rfl, rfl, o, e, hp⟩ | ⟨rfl, rfl, i, hp⟩ | ⟨rfl, rfl, hp⟩ | ⟨rfl, rfl, hp⟩
    · exact ⟨completePlacement false s, rfl, placement_stored (a := ⟨.write, addr, mask, data⟩) ha hp⟩
    · exact ⟨completePartWrite false s, rfl, partWrite_stored (a := ⟨.write, addr, mask, data⟩) ha hp⟩
    · exact ⟨completeWriteBack false s, rfl, writeBack_stored (a := ⟨.write, addr, mask, data⟩) ha hp⟩
    · exact ⟨completeWorkRecord false s, rfl, workRecord_stored (a := ⟨.write, addr, mask, data⟩) ha hp⟩
    · exact ⟨completeResultLine false s, rfl, resultLine_stored (a := ⟨.write, addr, mask, data⟩) ha hp⟩

/-- Settles O9: the line is stored, and the DRAM as a canonical list of cells reads a stored line byte by byte. -/
theorem completedWriteStoresMaskedBytes : Obligations.CompletedWriteStoresMaskedBytes := by
  unfold Obligations.CompletedWriteStoresMaskedBytes
  intro c s addr mask data hcanonical hwrite
  obtain ⟨s', hexec, hport, hdram⟩ := exec_stored hwrite
  refine ⟨s', hexec, hport, fun x => ?_⟩
  rw [hdram]
  exact Memory.read_writeLine hcanonical addr mask data x

/-! ### Grants (R15) -/

/-- The first element of a list on which a partial function is defined, when it is undefined before it. -/
theorem findSome?_of_takeWhile {α β : Type} [DecidableEq α] {f : α → Option β} {x : α} {y : β} {l : List α} (hx : x ∈ l)
    (hf : f x = some y) (hbefore : ∀ z ∈ l.takeWhile (fun z => decide (z ≠ x)), f z = none) : l.findSome? f = some y := by
  induction l with
  | nil => exact absurd hx List.not_mem_nil
  | cons z l ih =>
    by_cases hz : z = x
    · rw [List.findSome?_cons, hz, hf]
    · rw [List.takeWhile_cons_of_pos (by simpa using hz)] at hbefore
      rw [List.findSome?_cons, hbefore z List.mem_cons_self]
      exact ih ((List.mem_cons.mp hx).resolve_left (Ne.symm hz)) fun w hw => hbefore w (List.mem_cons_of_mem z hw)

theorem Source.mem_after (src last : Source) : src ∈ last.after := by
  cases last <;> cases src <;> decide

/-- R15: the next inserted access is the first WAITING slot in cyclic order. -/
theorem nextInserted_eq_some {m : MemState} {src : Source} {a : Access} {n : Nat} (hslot : m.slots.get src = .waiting a n)
    (hbefore : ∀ x, x ∈ m.lastGranted.after.takeWhile (fun x => decide (x ≠ src)) → ∀ b k, m.slots.get x ≠ .waiting b k) :
    nextInserted m = some (src, a) := by
  refine findSome?_of_takeWhile (src.mem_after m.lastGranted) (by rw [hslot]) fun x hx => ?_
  cases hs : m.slots.get x with
  | waiting b k => exact absurd hs (hbefore x hx b k)
  | empty => rfl
  | granted b => rfl

theorem isUrgent_iff {x : Slot} : x.isUrgent = true ↔ ∃ a n, x = .waiting a n ∧ 8 ≤ n := by
  cases x <;> simp [Slot.isUrgent, Config.maxWait]
  exact decide_eq_true_iff

theorem execDramGrant_of_free {s : State} (hport : s.mem.port = .idle) (hhold : s.mem.hold = false) :
    exec .dramGrant s = .next (grant s) := congrArg Host.Outcome.next (if_pos ⟨hport, hhold⟩)

/-- R15: while no slot has waited for 8 grants the head of the passed-line queue is granted. -/
theorem grant_of_passed {s : State} {p : PassedLine} {rest : List PassedLine} (hqueue : s.mem.queue = p :: rest)
    (hcalm : ∀ src a n, s.mem.slots.get src = .waiting a n → n < 8) : grant s = grantPassed p rest s := by
  have hurgent : ¬s.mem.slots.toList.any Slot.isUrgent = true := by
    rw [PerSource.any_toList]
    rintro ⟨src, hsrc⟩
    obtain ⟨a, n, hslot, hn⟩ := isUrgent_iff.mp hsrc
    exact absurd (hcalm src a n hslot) (by omega)
  unfold grant
  rw [hqueue]
  cases hnext : nextInserted s.mem with
  | none => rfl
  | some x => exact if_neg hurgent

theorem grant_of_inserted {s : State} {src : Source} {a : Access} (hnext : nextInserted s.mem = some (src, a))
    (hturn : s.mem.queue = [] ∨ ∃ x b, s.mem.slots.get x = .waiting b 8) : grant s = grantInserted src a s := by
  unfold grant
  cases hqueue : s.mem.queue with
  | nil => simp only [hnext]
  | cons p rest =>
    obtain ⟨x, b, hslot⟩ := hturn.resolve_left (by simp [hqueue])
    have hurgent : s.mem.slots.toList.any Slot.isUrgent = true :=
      PerSource.any_toList.mpr ⟨x, isUrgent_iff.mpr ⟨b, 8, hslot, by omega⟩⟩
    simp only [hnext, if_pos hurgent]

theorem grantInserted_of_inRange {s : State} {src : Source} {a : Access} (h : a.addr < s.mem.size.bytes) :
    grantInserted src a s = s.setMem { s.mem with
      port := .inserted src, slots := s.mem.slots.put src (.granted a), lastGranted := src } :=
  if_neg (by simp only [outOfRange, decide_eq_true_eq]; exact Nat.not_le.mpr h)

theorem waitMore_of_lt {a : Access} {n : Nat} (h : n < 8) : (Slot.waiting a n).waitMore = .waiting a (n + 1) :=
  congrArg (Slot.waiting a) (Nat.min_eq_left h)

/-- Settles O14: the grant by what waits, in the three cases of R15. -/
theorem grantFollowsQueueAndWaitCounts : Obligations.GrantFollowsQueueAndWaitCounts := by
  unfold Obligations.GrantFollowsQueueAndWaitCounts
  intro s
  refine ⟨execDramGrant_of_not_made, fun p rest hport hhold hqueue hcalm => ?_,
    fun src a n hport hhold hturn hslot hbefore hrange => ?_⟩
  · refine ⟨s.mem.slots.map Slot.waitMore, ?_, fun src => ?_⟩
    · rw [execDramGrant_of_free hport hhold, grant_of_passed hqueue hcalm]
      rfl
    · rw [PerSource.get_map]
      cases hslot : s.mem.slots.get src with
      | waiting a n => exact waitMore_of_lt (hcalm src a n hslot)
      | empty => rfl
      | granted a => rfl
  · rw [execDramGrant_of_free hport hhold, grant_of_inserted (nextInserted_eq_some hslot hbefore) hturn,
      grantInserted_of_inRange hrange]
    rfl

/-! ### The power-fail hold (R17, R197) -/

/-- Requests answered RETRY one after another are removed, and the answers go out in that order. -/
theorem foldl_answerRetry (rs : List Request) (s : State) :
    (rs.map (fun r => r.txn)).foldl (fun s t => answerRetry t s) s = s.setLink
      { requests := s.link.requests.filter (fun q => rs.all (fun r => decide (q.txn ≠ r.txn)))
        completions := s.link.completions ++ rs.map (fun r => ⟨r.txn, .retry⟩) } := by
  induction rs generalizing s with
  | nil => simp [State.setLink]
  | cons r rs ih =>
    rw [List.map_cons, List.foldl_cons, ih]
    simp only [answerRetry, sendCompletion, removeRequest, State.setLink_link, List.filter_filter, List.all_cons,
      List.map_cons, List.append_assoc, List.singleton_append, Bool.and_comm]
    rfl

theorem holdMem_slots (m : MemState) (src : Source) :
    (∀ a n, m.slots.get src = .waiting a n → (holdMem m).slots.get src = .empty ∧ (holdMem m).abandoned.get src = some a) ∧
    ((∀ a n, m.slots.get src ≠ .waiting a n) →
      (holdMem m).slots.get src = m.slots.get src ∧ (holdMem m).abandoned.get src = none) := by
  simp only [holdMem, PerSource.get_map]
  cases m.slots.get src with
  | waiting a n => exact ⟨fun b k h => by cases h; exact ⟨rfl, rfl⟩, fun h => absurd rfl (h a n)⟩
  | empty => exact ⟨fun b k h => Slot.noConfusion h, fun _ => ⟨rfl, rfl⟩⟩
  | granted a => exact ⟨fun b k h => Slot.noConfusion h, fun _ => ⟨rfl, rfl⟩⟩

theorem resumeMem_slots (m : MemState) (src : Source) :
    (resumeMem m).slots.get src = reissued (m.slots.get src) (m.abandoned.get src) := by
  cases src <;> rfl

/-- Settles O15: the requests that have not started are those whose transaction numbers are filtered out, and each slot is
judged on its own. -/
theorem holdAbandonsAndReissues : Obligations.HoldAbandonsAndReissues := by
  unfold Obligations.HoldAbandonsAndReissues
  intro s
  refine ⟨fun hhold => if_pos hhold, fun hhold => if_neg (by simp [hhold]), fun hhold htxns => ?_, fun hhold => ?_⟩
  · refine ⟨(holdMem s.mem).slots, (holdMem s.mem).abandoned, ?_, holdMem_slots s.mem⟩
    have hkept : s.link.requests.filter (fun q =>
        (s.link.requests.filter (fun r => decide (r.progress ≠ .active))).all (fun r => decide (q.txn ≠ r.txn))) =
        s.link.requests.filter (fun r => decide (r.progress = .active)) := by
      rw [filter_keys_ne htxns]
      simp only [ne_eq, decide_not, Bool.not_not]
    refine (if_neg (by simp [hhold])).trans ?_
    dsimp only
    rw [unstarted, foldl_answerRetry, hkept]
    rfl
  · refine ⟨(resumeMem s.mem).slots, if_pos hhold, fun src => ⟨fun a ha => ?_, fun ha => ?_⟩⟩
    · rw [resumeMem_slots, ha]
      rfl
    · rw [resumeMem_slots, ha]
      rfl

end Sys2Proof.Machine
end

section
/-! PROOFS. The link reset (R16, R30, R121, R149, R164) and the taking of a request (R1, R2). -/

namespace Sys2Proof.Machine

open Sys2Proof Sys2Proof.Safety

/-! ### The Price Watch on a link reset (R121) -/

theorem priceLinkReset_of_pending {s : State} (haccess : s.price.access = .captureRead)
    (hslot : ∀ a, s.mem.slots.priceWatch ≠ .granted a) : priceLinkReset s =
      (s.setMem { s.mem with
        slots := s.mem.slots.put .priceWatch .empty, abandoned := s.mem.abandoned.put .priceWatch none }).setPrice
        { s.price with
          access := .idle
          queue := (s.price.queue.filter (fun c => decide (c.stage = .released))).map (fun c => { c with owner := none }) } := by
  unfold priceLinkReset
  dsimp only [State.setPrice_price, State.setPrice_mem]
  rw [haccess]
  cases h : s.mem.slots.priceWatch with
  | granted a => exact absurd h (hslot a)
  | empty => rfl
  | waiting a n => rfl

theorem priceLinkReset_of_not_pending {s : State}
    (h : (∃ a, s.mem.slots.priceWatch = .granted a) ∨ s.price.access ≠ .captureRead) : priceLinkReset s =
      s.setPrice { s.price with
        queue := (s.price.queue.filter (fun c => decide (c.stage = .released))).map (fun c => { c with owner := none }) } := by
  unfold priceLinkReset
  dsimp only [State.setPrice_price, State.setPrice_mem]
  rcases h with ⟨a, ha⟩ | h
  · rw [ha]
    cases s.price.access <;> rfl
  · cases haccess : s.price.access with
    | captureRead => exact absurd haccess h
    | idle => rfl
    | checkRead i => rfl
    | writeBack i => rfl

/-! ### The Label Sequencer on a link reset (R149) -/

/-- R149: awaited entries that are SENDING return to STAGED. -/
theorem foldl_unsend (items : List Nat) (s : State) : items.foldl unsend s = s.setPrice { s.price with
    table := s.price.table.map (fun e => if e.item ∈ items ∧ e.state = .sending then { e with state := .staged } else e) } := by
  induction items generalizing s with
  | nil => simp [State.setPrice]
  | cons i items ih =>
    rw [List.foldl_cons, ih]
    simp only [unsend, updateEntry, State.setPrice_price, List.map_map]
    refine congrArg (fun t => s.setPrice { s.price with table := t }) (List.map_congr_left fun e _ => ?_)
    by_cases hi : e.item = i
    · by_cases hs : e.state = .sending <;> simp [hi, hs]
    · simp [hi]

theorem dropRecord_of_granted {s : State} {a : Access} (h : s.mem.slots.labelSequencer = .granted a) :
    dropRecord s = s.setLabel { s.label with writing := s.label.writing.map (fun w => { w with live := false }) } := by
  simp only [dropRecord, h]

theorem dropRecord_of_not_granted {s : State} (h : ∀ a, s.mem.slots.labelSequencer ≠ .granted a) :
    dropRecord s = (s.setMem { s.mem with
      slots := s.mem.slots.put .labelSequencer .empty, abandoned := s.mem.abandoned.put .labelSequencer none }).setLabel
      { s.label with writing := none } := by
  unfold dropRecord
  cases hs : s.mem.slots.labelSequencer with
  | granted a => exact absurd hs (h a)
  | empty => rfl
  | waiting a n => rfl

/-- R149: the round of a link reset has ended: the awaited entries are STAGED again, and the end of a visit is reported. -/
def roundAbandoned (s : State) : State :=
  if s.label.round = .idle then s
  else
    let u := s.label.awaited.foldl unsend s
    if u.label.zone.isSome then arise (.roundDone u.label.number u.label.visited true) u else u

theorem roundAbandoned_of_idle {s : State} (h : s.label.round = .idle) : roundAbandoned s = s := if_pos h

theorem roundAbandoned_of_resting {s : State} (h : s.label.round ≠ .idle) (hz : s.label.zone = none) :
    roundAbandoned s = s.label.awaited.foldl unsend s := by
  have hnot : ¬(s.label.awaited.foldl unsend s).label.zone.isSome = true := by
    rw [foldl_unsend]
    simp [hz]
  exact (if_neg h).trans (if_neg hnot)

theorem roundAbandoned_of_visiting {s : State} (h : s.label.round ≠ .idle) (hz : s.label.zone ≠ none) :
    roundAbandoned s = (reported (.roundDone s.label.number s.label.visited true) s).setPrice
      (s.label.awaited.foldl unsend s).price := by
  have hsome : (s.label.awaited.foldl unsend s).label.zone.isSome = true := by
    rw [foldl_unsend]
    exact Option.isSome_iff_ne_none.mpr hz
  refine (if_neg h).trans ((if_pos hsome).trans ?_)
  rw [foldl_unsend]
  exact reported_setPrice _ s _

/-- R149: of the round that a link reset ends, only the watch table and the reports tell. -/
theorem roundAbandoned_spec (s : State) :
    ∃ (r : ReportState) (p : PriceState), roundAbandoned s = (s.setReports r).setPrice p ∧
      p = { s.price with table := s.price.table.map (fun e =>
        if e.item ∈ s.label.awaited ∧ e.state = .sending ∧ s.label.round ≠ .idle then { e with state := .staged } else e) } ∧
      (s.label.round = .idle ∨ s.label.zone = none → r = s.reports) ∧
      (s.label.round ≠ .idle → s.label.zone ≠ none →
        r = withReport (.roundDone s.label.number s.label.visited true) s.time s.reports) := by
  by_cases hround : s.label.round = .idle
  · refine ⟨s.reports, s.price, roundAbandoned_of_idle hround, ?_, fun _ => rfl, fun h => absurd hround h⟩
    simp [hround]
  · have hprice : (s.label.awaited.foldl unsend s).price = { s.price with table := s.price.table.map (fun e =>
        if e.item ∈ s.label.awaited ∧ e.state = .sending ∧ s.label.round ≠ .idle then { e with state := .staged } else e) } := by
      rw [foldl_unsend]
      simp [hround]
    by_cases hzone : s.label.zone = none
    · refine ⟨s.reports, _, ?_, hprice, fun _ => rfl, fun _ h => absurd hzone h⟩
      rw [roundAbandoned_of_resting hround hzone, foldl_unsend]
      rfl
    · refine ⟨withReport (.roundDone s.label.number s.label.visited true) s.time s.reports, _, ?_, hprice,
        fun h => (h.elim hround hzone).elim, fun _ _ => rfl⟩
      rw [roundAbandoned_of_visiting hround hzone, reported_eq]

theorem labelLinkReset_eq (s : State) : labelLinkReset s = (dropRecord (roundAbandoned s)).setLabel
    { (dropRecord (roundAbandoned s)).label with round := .idle, zone := none, visit := [], awaited := [] } := rfl

/-! ### The whole link reset (R16) -/

/-- R16, R30, R164: a link reset in the Link Port, the Memory Port, the guard and the Guest Budget. -/
def linkDropped (s : State) : State :=
  { s with
    link := { s.link with requests := [] }
    guard := { s.guard with lock := if s.guard.lock = .open then .locked else s.guard.lock }
    guest := { s.guest with queue := [] }
    mem := { s.mem with
      port := s.mem.port.orphaned
      queue := (s.mem.queue.filter (fun p => decide (p.kind = .write))).map PassedLine.orphaned } }

theorem exec_linkReset (s : State) : exec .linkReset s = .next (labelLinkReset (priceLinkReset (linkDropped s))) := by
  have hlock : (match s.guard.lock with | .open => LockState.locked | x => x) =
      if s.guard.lock = .open then .locked else s.guard.lock := by
    cases s.guard.lock <;> rfl
  unfold linkDropped
  rw [← hlock]
  rfl

/-- R121: what a link reset leaves of the Price Watch's access, and of its slot. -/
theorem priceLinkReset_spec (s : State) : ∃ (slots : PerSource Slot) (kept : PerSource (Option Access)) (access : PriceAccess),
    priceLinkReset s = (s.setMem { s.mem with slots := slots, abandoned := kept }).setPrice { s.price with
      access := access
      queue := (s.price.queue.filter (fun c => decide (c.stage = .released))).map (fun c => { c with owner := none }) } ∧
    (∀ src, src ≠ .priceWatch → slots.get src = s.mem.slots.get src) ∧
    (s.price.access = .captureRead → (∀ a, s.mem.slots.priceWatch ≠ .granted a) →
      slots.priceWatch = .empty ∧ access = .idle) ∧
    ((∃ a, s.mem.slots.priceWatch = .granted a) ∨ s.price.access ≠ .captureRead →
      slots.priceWatch = s.mem.slots.priceWatch ∧ access = s.price.access) := by
  by_cases h : (∃ a, s.mem.slots.priceWatch = .granted a) ∨ s.price.access ≠ .captureRead
  · refine ⟨s.mem.slots, s.mem.abandoned, s.price.access, priceLinkReset_of_not_pending h, fun _ _ => rfl,
      fun haccess hslot => ?_, fun _ => ⟨rfl, rfl⟩⟩
    exact (h.elim (fun ⟨a, ha⟩ => hslot a ha) (fun hne => hne haccess)).elim
  · obtain ⟨hslot, haccess⟩ := not_or.mp h
    refine ⟨_, _, _, priceLinkReset_of_pending (not_not.mp haccess) (not_exists.mp hslot), fun src hsrc => ?_,
      fun _ _ => ⟨rfl, rfl⟩, fun h' => absurd h' h⟩
    cases src with
    | priceWatch => exact absurd rfl hsrc
    | reportWriter => rfl
    | journalEngine => rfl
    | labelSequencer => rfl
    | configLoader => rfl

/-- R149: what a link reset leaves of the Label Sequencer's record, and of its slot. -/
theorem dropRecord_spec (s : State) : ∃ (slots : PerSource Slot) (kept : PerSource (Option Access)) (writing : Option WorkWrite),
    dropRecord s = (s.setMem { s.mem with slots := slots, abandoned := kept }).setLabel { s.label with writing := writing } ∧
    (∀ src, src ≠ .labelSequencer → slots.get src = s.mem.slots.get src) ∧
    ((∀ a, s.mem.slots.labelSequencer ≠ .granted a) → slots.labelSequencer = .empty ∧ writing = none) ∧
    (∀ a, s.mem.slots.labelSequencer = .granted a → slots.labelSequencer = .granted a) := by
  by_cases h : ∃ a, s.mem.slots.labelSequencer = .granted a
  · obtain ⟨a, ha⟩ := h
    exact ⟨s.mem.slots, s.mem.abandoned, _, dropRecord_of_granted ha, fun _ _ => rfl, fun hnot => absurd ha (hnot a),
      fun _ hb => hb⟩
  · refine ⟨_, _, _, dropRecord_of_not_granted (not_exists.mp h), fun src hsrc => ?_, fun _ => ⟨rfl, rfl⟩,
      fun a ha => absurd ⟨a, ha⟩ h⟩
    cases src with
    | labelSequencer => exact absurd rfl hsrc
    | reportWriter => rfl
    | journalEngine => rfl
    | priceWatch => rfl
    | configLoader => rfl

/-- Settles O16: the Price Watch's part, the end of the round and the record given up are one update of the state each. -/
theorem linkResetDropsRequests : Obligations.LinkResetDropsRequests := by
  unfold Obligations.LinkResetDropsRequests
  intro s
  obtain ⟨slots, kept, access, hprice, hslots, hpending, hstays⟩ := priceLinkReset_spec (linkDropped s)
  obtain ⟨r, p, hround, hp, hquiet, hreport⟩ := roundAbandoned_spec (priceLinkReset (linkDropped s))
  obtain ⟨slots', kept', writing, hdrop, hslots', hgiven, hgranted⟩ := dropRecord_spec
    (roundAbandoned (priceLinkReset (linkDropped s)))
  have hall := labelLinkReset_eq (priceLinkReset (linkDropped s))
  rw [hdrop] at hall
  rw [hround] at hall hslots' hgiven hgranted
  rw [hprice] at hall hslots' hgiven hgranted hp hquiet hreport
  refine ⟨_, exec_linkReset s, ?_⟩
  rw [hprice, hall]
  subst hp
  have hlabel : slots.labelSequencer = s.mem.slots.labelSequencer := hslots .labelSequencer (by decide)
  have hwatch : slots'.priceWatch = slots.priceWatch := hslots' .priceWatch (by decide)
  refine ⟨rfl, rfl, rfl, rfl, rfl, rfl, rfl, rfl, rfl, rfl, rfl, rfl, rfl, rfl, rfl, ?port, ?reportWriter, ?journalEngine,
    ?configLoader, ?waiting, ?granted, ?capture, ?others, rfl, rfl, rfl, rfl, ?quiet, ?report⟩
  case port =>
    show s.mem.port.orphaned = _
    cases s.mem.port <;> rfl
  case reportWriter => exact (hslots' .reportWriter (by decide)).trans (hslots .reportWriter (by decide))
  case journalEngine => exact (hslots' .journalEngine (by decide)).trans (hslots .journalEngine (by decide))
  case configLoader => exact (hslots' .configLoader (by decide)).trans (hslots .configLoader (by decide))
  case waiting =>
    intro a n hw
    refine hgiven fun b hb => ?_
    have hboth : Slot.waiting a n = .granted b := hw.symm.trans (hlabel.symm.trans hb)
    exact Slot.noConfusion hboth
  case granted => exact fun a ha => hgranted a (hlabel.trans ha)
  case capture =>
    intro a n hw haccess
    obtain ⟨hempty, hidle⟩ := hpending haccess fun b hb => Slot.noConfusion (hw.symm.trans hb)
    exact ⟨hwatch.trans hempty, hidle⟩
  case others =>
    intro a ha
    obtain ⟨hsame, haccess⟩ := hstays (ha.imp_left fun h => ⟨a, h⟩)
    exact ⟨hwatch.trans hsame, haccess⟩
  case quiet => exact hquiet
  case report =>
    intro hactive hzone
    rw [reported_eq]
    exact hreport hactive hzone

/-! ### Taking a request (R1, R2) -/

/-- R1: line `k` of a request, wrapping at the end of the bus address space. -/
theorem lineAddrs_getElem? {first : Nat} (h : first < 4294967296) {n k : Nat} (hk : k < n) :
    (lineAddrs first n)[k]? = some ((first + 64 * k) % 4294967296) := by
  induction k generalizing first n with
  | zero =>
    obtain ⟨m, rfl⟩ := Nat.exists_eq_succ_of_ne_zero (by omega : n ≠ 0)
    simp [lineAddrs, Nat.mod_eq_of_lt h]
  | succ k ih =>
    obtain ⟨m, rfl⟩ := Nat.exists_eq_succ_of_ne_zero (by omega : n ≠ 0)
    have hbytes : Config.lineBytes = 64 := rfl
    simp only [lineAddrs, List.getElem?_cons_succ, hbytes]
    rw [ih (Nat.mod_lt _ (by omega)) (by omega), Nat.mod_add_mod]
    congr 2
    omega

@[simp] theorem lineAddrs_length (first n : Nat) : (lineAddrs first n).length = n := by
  induction n generalizing first with
  | zero => rfl
  | succ n ih => simp [lineAddrs, ih]

@[simp] theorem formLines_length (as : List Nat) (ws : List WriteLine) : (formLines as ws).length = as.length := by
  induction as generalizing ws with
  | nil => rfl
  | cons a as ih => simp [formLines, ih]

/-- R2: line `k` of a new entry stands at its address, PENDING, with the mask and data the request carries for it. -/
theorem formLines_getElem? {as : List Nat} {ws : List WriteLine} {k : Nat} {l : ReqLine}
    (h : (formLines as ws)[k]? = some l) :
    as[k]? = some l.bus ∧ l.verdict = none ∧ l.outcome = .pending ∧
      ∀ w, ws[k]? = some w → l.mask = w.mask ∧ l.data = w.data := by
  induction as generalizing ws k with
  | nil => simp [formLines] at h
  | cons a as ih =>
    cases k with
    | zero =>
      simp only [formLines, List.getElem?_cons_zero, Option.some.injEq] at h
      subst h
      refine ⟨rfl, rfl, rfl, fun w hw => ?_⟩
      cases ws with
      | nil => simp at hw
      | cons x ws =>
        simp only [List.getElem?_cons_zero, Option.some.injEq] at hw
        exact hw ▸ ⟨rfl, rfl⟩
    | succ k =>
      simp only [formLines, List.getElem?_cons_succ] at h
      obtain ⟨hbus, hverdict, houtcome, hdata⟩ := ih h
      refine ⟨hbus, hverdict, houtcome, fun w hw => hdata w ?_⟩
      rw [List.getElem?_drop, Nat.add_comm]
      exact hw

theorem findRequest_isSome_iff {s : State} {t : Fin 64} :
    (findRequest s t).isSome = true ↔ ∃ r ∈ s.link.requests, r.txn = t := by
  simp only [findRequest, List.find?_isSome, decide_eq_true_eq]

/-- R1: the four cases of RETRY. -/
theorem answersRetry_iff {q : LinkRequest} {s : State} : answersRetry q s = true ↔
    s.mem.hold = true ∨ 32 ≤ s.link.requests.length ∨ (∃ r ∈ s.link.requests, r.txn = q.txn) ∨
      128 < countedLines s + (q.count.val + 1) := by
  simp only [answersRetry, Bool.or_eq_true, decide_eq_true_eq, findRequest_isSome_iff, or_assoc]
  exact Iff.rfl

/-- Settles O17: the four cases are read off the state, and the lines of a new entry are counted off its first address. -/
theorem requestTakenOrAnsweredRetry : Obligations.RequestTakenOrAnsweredRetry := by
  unfold Obligations.RequestTakenOrAnsweredRetry
  intro q s hwf dropped lines refused
  have hdropped : dropped = PassedLine.isOrphan := funext fun p => Bool.decide_and _ _
  have hlines : lines = countedLines s + (q.count.val + 1) := by
    simp only [lines, hdropped]
    rfl
  have hrefused : answersRetry q s = true ↔ refused := by
    rw [answersRetry_iff, ← hlines]
  have haddr : q.addr.toNat / 64 * 64 < 4294967296 := by
    have hlt := q.addr.isLt
    omega
  refine ⟨fun h => if_pos (hrefused.mpr h), fun h => ⟨formRequest q, if_neg (mt hrefused.mp h), rfl, rfl, rfl, rfl, rfl, rfl,
    ?_, fun k l hl => ?_⟩⟩
  · simp [formRequest]
  · obtain ⟨hbus, hverdict, houtcome, hdata⟩ := formLines_getElem? hl
    have hk : k < q.count.val + 1 := by
      have hlt := (List.getElem?_eq_some_iff.mp hl).1
      simpa [formRequest] using hlt
    refine ⟨?_, hverdict, houtcome, fun hkind => ?_⟩
    · exact Option.some.inj (hbus.symm.trans (lineAddrs_getElem? haddr hk))
    · have hcount : q.lines.length = q.count.val + 1 := by simpa [LinkRequest.wellFormed, hkind, LinkRequest.nLines] using hwf
      have hw : q.lines[k]? = some q.lines[k] := List.getElem?_eq_getElem (by omega)
      exact ⟨_, hw, hdata _ hw⟩

end Sys2Proof.Machine
end

section
/-! PROOFS. The bytes of a line, a line's outcome, and the completion of a passed read (R2, R12, R13) with what its observers
make of it (R125, R147, R179 to R181). -/

namespace Sys2Proof.Machine

open Sys2Proof Sys2Proof.Safety

/-! ### Fields and bytes of a line -/

theorem getLsbD_putField {l : Line} {o w v i : Nat} (hi : i < 512) : (putField l o w v).getLsbD i =
    if 8 * o ≤ i ∧ i < 8 * (o + w) then v.testBit (i - 8 * o) else l.getLsbD i := by
  simp only [putField, fieldBits, BitVec.getLsbD_or, BitVec.getLsbD_and, BitVec.getLsbD_not, BitVec.getLsbD_shiftLeft,
    BitVec.getLsbD_setWidth, BitVec.getLsbD_allOnes, BitVec.getLsbD_ofNat, hi, decide_true, Bool.true_and]
  by_cases h : 8 * o ≤ i ∧ i < 8 * (o + w)
  · have h1 : ¬i < 8 * o := by omega
    have h2 : i - 8 * o < 8 * w := by omega
    have h3 : i - 8 * o < 512 := by omega
    simp [h, h1, h2, h3]
  · have h1 : i < 8 * o ∨ ¬i - 8 * o < 8 * w := by omega
    rcases h1 with h1 | h1
    · simp [h, h1]
    · simp [h, h1]

theorem two_pow_eight_mul (w : Nat) : 2 ^ (8 * w) = 256 ^ w := by
  rw [pow_mul]
  norm_num

/-- A field reads back as what was put into it. -/
theorem getField_putField {l : Line} {o w v : Nat} (h : o + w ≤ 64) : getField (putField l o w v) o w = v % 256 ^ w := by
  have hbits : (putField l o w v).extractLsb' (8 * o) (8 * w) = BitVec.ofNat (8 * w) v := by
    refine BitVec.eq_of_getLsbD_eq fun i hi => ?_
    rw [BitVec.getLsbD_extractLsb', getLsbD_putField (by omega), BitVec.getLsbD_ofNat, if_pos (by omega)]
    simp [hi]
  rw [getField, hbits, BitVec.toNat_ofNat, two_pow_eight_mul]

/-- The bits of a field, by the number it holds. -/
theorem extract_eq_ofNat {n : Nat} {l : BitVec n} {o w v : Nat} (h : getField l o w = v % 256 ^ w) :
    l.extractLsb' (8 * o) (8 * w) = BitVec.ofNat (8 * w) v := by
  refine BitVec.eq_of_toNat_eq ?_
  rw [BitVec.toNat_ofNat, two_pow_eight_mul]
  exact h

/-- A field is not touched by what is put outside it. -/
theorem extract_putField_of_disjoint {l : Line} {o w v p q : Nat} (hp : p + q ≤ 512)
    (h : p + q ≤ 8 * o ∨ 8 * (o + w) ≤ p) : (putField l o w v).extractLsb' p q = l.extractLsb' p q := by
  refine BitVec.eq_of_getLsbD_eq fun i hi => ?_
  rw [BitVec.getLsbD_extractLsb', BitVec.getLsbD_extractLsb', getLsbD_putField (by omega), if_neg (by omega)]

theorem getField_putField_of_disjoint {l : Line} {o w v p q : Nat} (hp : p + q ≤ 64) (h : p + q ≤ o ∨ o + w ≤ p) :
    getField (putField l o w v) p q = getField l p q :=
  congrArg BitVec.toNat (extract_putField_of_disjoint (by omega) (by omega))

theorem getByte_putField_of_disjoint {l : Line} {o w v j : Nat} (hj : j < 64) (h : j < o ∨ o + w ≤ j) :
    getByte (putField l o w v) j = getByte l j := extract_putField_of_disjoint (by omega) (by omega)

/-- The value of a run of bytes, byte by byte. -/
theorem Memory.readBytes_byte (m : Memory) (a k j : Nat) (hj : j < k) :
    Memory.readBytes m a k / 256 ^ j % 256 = (Memory.read m (a + j)).toNat := by
  induction j generalizing a k with
  | zero =>
    obtain ⟨k, rfl⟩ := Nat.exists_eq_succ_of_ne_zero (by omega : k ≠ 0)
    have hlt := (Memory.read m a).isLt
    simp only [Memory.readBytes, pow_zero, Nat.div_one, Nat.add_zero]
    omega
  | succ j ih =>
    obtain ⟨k, rfl⟩ := Nat.exists_eq_succ_of_ne_zero (by omega : k ≠ 0)
    have hlt := (Memory.read m a).isLt
    have hdiv : ((Memory.read m a).toNat + 256 * Memory.readBytes m (a + 1) k) / 256 = Memory.readBytes m (a + 1) k := by
      omega
    rw [Memory.readBytes, pow_succ', ← Nat.div_div_eq_div_mul, hdiv, ih (a + 1) k (by omega)]
    congr 2
    omega

theorem Memory.readBytes_lt (m : Memory) (a k : Nat) : Memory.readBytes m a k < 256 ^ k := by
  induction k generalizing a with
  | zero => simp [Memory.readBytes]
  | succ k ih =>
    have hlt := (Memory.read m a).isLt
    have hrest := ih (a + 1)
    simp only [Memory.readBytes, pow_succ]
    omega

/-- A line read holds the bytes at its addresses. -/
theorem getByte_readLine (m : Memory) (a : Nat) {j : Nat} (hj : j < 64) :
    getByte (Memory.readLine m a) j = Memory.read m (a + j) := by
  refine BitVec.eq_of_toNat_eq ?_
  have hbits : 8 * 64 = 512 := rfl
  have hlt := Memory.readBytes_lt m a 64
  rw [← two_pow_eight_mul, hbits] at hlt
  rw [getByte, BitVec.extractLsb'_toNat, Memory.readLine, BitVec.toNat_ofNat, Nat.mod_eq_of_lt hlt,
    Nat.shiftRight_eq_div_pow, two_pow_eight_mul]
  exact Memory.readBytes_byte m a 64 j hj

/-! ### A line's outcome (R2, R3) -/

/-- R2: the table without an entry is the same whatever became of that entry before. -/
theorem filter_updateRequest (rs : List Request) (t : Fin 64) (f : Request → Request) (hf : ∀ r, (f r).txn = r.txn) :
    (rs.map (fun r => if r.txn = t then f r else r)).filter (fun r => decide (r.txn ≠ t)) =
      rs.filter (fun r => decide (r.txn ≠ t)) := by
  induction rs with
  | nil => rfl
  | cons r rs ih =>
    rw [List.map_cons]
    by_cases h : r.txn = t
    · rw [if_pos h, List.filter_cons_of_neg (by simp [hf, h]), List.filter_cons_of_neg (by simp [h])]
      exact ih
    · rw [if_neg h, List.filter_cons_of_pos (by simp [h]), List.filter_cons_of_pos (by simp [h]), ih]

theorem sendIfComplete_of_done {t : Fin 64} {s : State} {r : Request} (h : findRequest s t = some r)
    (hdone : ∀ l ∈ r.lines, l.outcome ≠ .pending) : sendIfComplete t s = s.setLink
      { requests := s.link.requests.filter (fun q => decide (q.txn ≠ t))
        completions := s.link.completions ++ [⟨t, .taken (r.lines.map (fun l => l.outcome)) r.answerData⟩] } := by
  have hall : r.lines.all (fun l => decide (l.outcome ≠ .pending)) = true := by simpa using hdone
  simp only [sendIfComplete, h, if_pos hall]
  rfl

theorem sendIfComplete_of_pending {t : Fin 64} {s : State} {r : Request} (h : findRequest s t = some r)
    (hpending : ∃ l ∈ r.lines, l.outcome = .pending) : sendIfComplete t s = s := by
  have hall : ¬r.lines.all (fun l => decide (l.outcome ≠ .pending)) = true := by simpa using hpending
  simp only [sendIfComplete, h, if_neg hall]

/-- The entry once a line has reached an outcome. -/
def Request.lineDone (k : Nat) (o : LineOutcome) (d : Line) (r : Request) : Request :=
  r.onLine k (fun l => { l with outcome := o, delivered := d })

/-- R2: the last line to reach its outcome sends the completion. -/
theorem setOutcome_of_done {t : Fin 64} {k : Nat} {o : LineOutcome} {d : Line} {s : State} {r : Request}
    (h : findRequest s t = some r) (hdone : ∀ l ∈ (r.lineDone k o d).lines, l.outcome ≠ .pending) :
    setOutcome t k o d s = s.setLink
      { requests := s.link.requests.filter (fun q => decide (q.txn ≠ t))
        completions := s.link.completions ++ [⟨t, .taken ((r.lineDone k o d).lines.map (fun l => l.outcome))
          (r.lineDone k o d).answerData⟩] } := by
  have hentry : findRequest (updateLine t k (fun l => { l with outcome := o, delivered := d }) s) t =
      some (r.lineDone k o d) := by
    rw [updateLine, findRequest_updateRequest, h]
    · rfl
    · exact fun _ => rfl
  have hkept := filter_updateRequest s.link.requests t (Request.onLine k (fun l => { l with outcome := o, delivered := d }))
    (fun _ => rfl)
  rw [setOutcome, sendIfComplete_of_done hentry hdone]
  simp only [updateLine, updateRequest, State.setLink_link, hkept]
  rfl

/-- R2: while a line is PENDING the completion waits. -/
theorem setOutcome_of_pending {t : Fin 64} {k : Nat} {o : LineOutcome} {d : Line} {s : State} {r : Request}
    (h : findRequest s t = some r) (hpending : ∃ l ∈ (r.lineDone k o d).lines, l.outcome = .pending) :
    setOutcome t k o d s = updateRequest t (Request.lineDone k o d) s := by
  refine sendIfComplete_of_pending (r := r.lineDone k o d) ?_ hpending
  rw [updateLine, findRequest_updateRequest, h]
  · rfl
  · exact fun _ => rfl

/-- R2: the one line of a request reaches its outcome. -/
theorem setOutcome_of_lone {t : Fin 64} {o : LineOutcome} {d : Line} {s : State} {r : Request} {l : ReqLine}
    (h : findRequest s t = some r) (hline : r.lines = [l]) (ho : o ≠ .pending) : setOutcome t 0 o d s = s.setLink
      { requests := s.link.requests.filter (fun q => decide (q.txn ≠ t))
        completions := s.link.completions ++ [⟨t, .taken [o] (match r.kind with | .read => [d] | .write => [])⟩] } := by
  have hlines : (r.lineDone 0 o d).lines = [{ l with outcome := o, delivered := d }] := by
    simp only [Request.lineDone, Request.onLine, hline]
    rfl
  have hanswer : (r.lineDone 0 o d).answerData = match r.kind with | .read => [d] | .write => [] := by
    have hkind : (r.lineDone 0 o d).kind = r.kind := rfl
    simp only [Request.answerData, hlines, hkind]
    rfl
  rw [setOutcome_of_done h (by simpa [hlines] using ho), hanswer, hlines]
  rfl

/-! ### A passed read (R12, R13) -/

theorem exec_passedRead {s : State} {p : PassedLine} (hport : s.mem.port = .passed p) (hkind : p.kind = .read) :
    exec .passedReadComplete s = .next (completeRead p s) := by
  show execPassedReadComplete s = _
  simp only [execPassedReadComplete, hport, if_pos hkind]

theorem completeRead_of_line {s : State} {p : PassedLine} {t : Fin 64} {k : Nat} {r : Request} {l : ReqLine} {addr : Nat}
    {w : Option (Fin 16)} {role : Role} {i : Nat} (howner : p.owner = some ⟨t, k⟩) (hr : findRequest s t = some r)
    (hl : r.lines[k]? = some l) (hv : l.verdict = some (.pass addr w role i)) : completeRead p s =
      setOutcome t k .good (readView role r.view (Memory.readLine s.mem.dram p.addr) (portIdle s))
        (observeRead r.cls role addr i (readView role r.view (Memory.readLine s.mem.dram p.addr) (portIdle s))
          (portIdle s)) := by
  have hr' : findRequest (portIdle s) t = some r := hr
  simp only [completeRead, howner, hr', hl, Option.bind_some, hv]

theorem readView_of_raw {role : Role} {view : PriceView} (h : role = .price → view = .raw) (l : Line) (s : State) :
    readView role view l s = l := by
  refine if_neg ?_
  rintro ⟨hrole, hview⟩
  simp [h hrole] at hview

theorem observeRead_of_none {cls : InitClass} {role : Role} (hlabel : ¬(cls = .label ∧ role = .labelQueue))
    (hwan : ¬(cls = .wan ∧ (role = .journalA ∨ role = .journalB))) (addr i : Nat) (l : Line) (s : State) :
    observeRead cls role addr i l s = s := by
  cases cls with
  | label =>
    cases role with
    | labelQueue => exact absurd ⟨rfl, rfl⟩ hlabel
    | _ => rfl
  | wan =>
    cases role with
    | journalA => exact absurd ⟨rfl, .inl rfl⟩ hwan
    | journalB => exact absurd ⟨rfl, .inr rfl⟩ hwan
    | _ => rfl
  | _ => rfl

theorem portIdle_eq (s : State) : portIdle s = s.setMem (idlePort s.mem) := rfl

/-- Settles O10: an unobserved read is its line's outcome, on the state with the port IDLE. -/
theorem plainReadDeliversDram : Obligations.PlainReadDeliversDram := by
  unfold Obligations.PlainReadDeliversDram
  intro s p t k r l addr w role i hport hkind howner hr hread hl hv hraw hlabel hwan
  have hexec : exec .passedReadComplete s =
      .next (setOutcome t k .good (Memory.readLine s.mem.dram p.addr) (portIdle s)) := by
    rw [exec_passedRead hport hkind, completeRead_of_line howner hr hl hv, readView_of_raw hraw,
      observeRead_of_none hlabel hwan]
  refine ⟨Memory.readLine s.mem.dram p.addr, fun j hj => getByte_readLine _ _ hj, fun hdone => ?_, fun hpending => ?_⟩
  · have hanswer : (r.lineDone k .good (Memory.readLine s.mem.dram p.addr)).answerData =
        (r.lineDone k .good (Memory.readLine s.mem.dram p.addr)).lines.map (fun x => x.delivered) := by
      have hk : (r.lineDone k .good (Memory.readLine s.mem.dram p.addr)).kind = .read := hread
      simp only [Request.answerData, hk]
    rw [hexec, setOutcome_of_done (s := portIdle s) hr hdone, hanswer]
    rfl
  · rw [hexec, setOutcome_of_pending (s := portIdle s) hr hpending]
    rfl

/-! ### The read of a one-line request and its observers -/

/-- R2, R13: a read of a one-line request delivers what the view gives, and its observers act. -/
theorem exec_loneRead {s : State} {t : Fin 64} {r : Request} {addr i : Nat} {role : Role}
    (h : LoneReadAtPort s t r addr role i) : exec .passedReadComplete s =
      .next (setOutcome t 0 .good (readView role r.view (Memory.readLine s.mem.dram addr) (portIdle s))
        (observeRead r.cls role addr i (readView role r.view (Memory.readLine s.mem.dram addr) (portIdle s))
          (portIdle s))) := by
  obtain ⟨p, hport, hkind, haddr, howner⟩ := h.port
  obtain ⟨l, w, hline, hv⟩ := h.line
  rw [exec_passedRead hport hkind, completeRead_of_line howner h.entry (by rw [hline]; rfl) hv, haddr]

/-- R2: the one line of a read is done, whatever the observers made of the other blocks. -/
theorem setOutcome_eq_loneReadDone {s u : State} {t : Fin 64} {r : Request} {addr i : Nat} {role : Role}
    (h : LoneReadAtPort s t r addr role i) (hlink : u.link = s.link) (hmem : u.mem = s.mem) (d : Line) :
    setOutcome t 0 .good d (u.setMem (idlePort s.mem)) = loneReadDone t d u := by
  obtain ⟨l, w, hline, hv⟩ := h.line
  have hentry : findRequest (u.setMem (idlePort s.mem)) t = some r := (findRequest_of_link hlink t).trans h.entry
  rw [setOutcome_of_lone hentry hline (by simp), h.kind, ← hmem]
  rfl

/-- Settles O11: the line with its two fields put in reads back those fields, and its other bytes as before. -/
theorem tillViewSubstitutesOldPrice : Obligations.TillViewSubstitutesOldPrice := by
  unfold Obligations.TillViewSubstitutesOldPrice
  intro s t r addr i hread hview
  have hsubst : readView .price r.view (Memory.readLine s.mem.dram addr) (portIdle s) =
      substitute s (Memory.readLine s.mem.dram addr) := if_pos ⟨rfl, hview⟩
  refine ⟨substitute s (Memory.readLine s.mem.dram addr), ?_, fun e he hprice => ?_, fun hnone => ?_⟩
  · rw [exec_loneRead hread, hsubst, observeRead_of_none (by simp) (by simp)]
    exact congrArg Host.Outcome.next (setOutcome_eq_loneReadDone hread rfl rfl _)
  · have heq : substitute s (Memory.readLine s.mem.dram addr) =
        putField (putField (Memory.readLine s.mem.dram addr) 4 4 e.oldPrice) 11 1 1 := by
      have hfind : findEntry s (getField (Memory.readLine s.mem.dram addr) 0 4) = some e := he
      simp only [substitute, hfind]
    rw [heq]
    refine ⟨?_, getField_putField (by omega), fun j hj hexcept => ?_⟩
    · rw [getField_putField_of_disjoint (by omega) (by omega), getField_putField (by omega)]
      exact Nat.mod_eq_of_lt (by omega)
    · rw [getByte_putField_of_disjoint hj (by omega), getByte_putField_of_disjoint hj (by omega)]
  · have heq : substitute s (Memory.readLine s.mem.dram addr) = putField (Memory.readLine s.mem.dram addr) 11 1 0 := by
      have hfind : findEntry s (getField (Memory.readLine s.mem.dram addr) 0 4) = none := hnone
      simp only [substitute, hfind]
    rw [heq]
    exact ⟨getField_putField (by omega), fun j hj hexcept => getByte_putField_of_disjoint hj (by omega)⟩

theorem observeLabelRead_of_consumer {addr : Nat} {s : State} {w : Window}
    (hw : roleWindow s.guard.windows .labelQueue = some w) (hne : s.label.producer ≠ s.label.consumer)
    (haddr : addr = w.lineAddr s.label.consumer) : observeLabelRead addr s =
      s.setLabel { s.label with consumer := ringNext s.label.consumer (labelCapacity s) } := by
  simp only [observeLabelRead, hw, if_pos (And.intro hne haddr)]

theorem observeLabelRead_of_other {addr : Nat} {s : State} {w : Window}
    (hw : roleWindow s.guard.windows .labelQueue = some w)
    (h : s.label.producer = s.label.consumer ∨ addr ≠ w.lineAddr s.label.consumer) : observeLabelRead addr s = s := by
  have hnot : ¬(s.label.producer ≠ s.label.consumer ∧ addr = w.lineAddr s.label.consumer) := fun hc =>
    h.elim hc.1 (fun hne => hne hc.2)
  simp only [observeLabelRead, hw, if_neg hnot]

/-- Settles O12: the observer advances the consumer, or leaves the state as it is. -/
theorem labelReadAdvancesConsumer : Obligations.LabelReadAdvancesConsumer := by
  unfold Obligations.LabelReadAdvancesConsumer
  intro s t r addr i w hread hcls hw
  have hexec : exec .passedReadComplete s = .next (setOutcome t 0 .good (Memory.readLine s.mem.dram addr)
      (observeLabelRead addr (portIdle s))) := by
    rw [exec_loneRead hread, readView_of_raw (by simp), hcls]
    rfl
  have hcapacity : labelCapacity s = min ((w.limit - w.base + 1) * 64) 4096 := by
    simp only [labelCapacity, ringCapacity, hw]
    rfl
  refine ⟨fun ⟨hne, haddr⟩ => ?_, fun hother => ?_⟩
  · rw [hexec, observeLabelRead_of_consumer (s := portIdle s) hw hne haddr]
    have hnext : ringNext s.label.consumer (labelCapacity (portIdle s)) =
        if s.label.consumer + 1 ≥ min ((w.limit - w.base + 1) * 64) 4096 then 0 else s.label.consumer + 1 := by
      rw [← hcapacity]
      rfl
    rw [← hnext]
    exact congrArg Host.Outcome.next (setOutcome_eq_loneReadDone (u := s.setLabel { s.label with
      consumer := ringNext s.label.consumer (labelCapacity (portIdle s)) }) hread rfl rfl _)
  · rw [hexec, observeLabelRead_of_other (s := portIdle s) hw hother]
    exact congrArg Host.Outcome.next (setOutcome_eq_loneReadDone hread rfl rfl _)

/-! ### Exports (R179 to R181) -/

theorem setBank_setMem (bk : Bank) (r : BankRecord) (s : State) (m : MemState) :
    setBank bk r (s.setMem m) = (setBank bk r s).setMem m := by
  cases bk <;> rfl

theorem updateRoleWindow_setMem (r : Role) (f : Window → Window) (s : State) (m : MemState) :
    updateRoleWindow r f (s.setMem m) = (updateRoleWindow r f s).setMem m := by
  unfold updateRoleWindow
  simp only [State.setMem_guard]
  split <;> rfl

@[simp] theorem reported_link (b : ReportBody) (s : State) : (reported b s).link = s.link := arise_link b s

@[simp] theorem reported_mem (b : ReportBody) (s : State) : (reported b s).mem = s.mem := arise_mem b s

theorem reported_setMem (b : ReportBody) (s : State) (m : MemState) :
    reported b (s.setMem m) = (reported b s).setMem m := by
  simp only [reported_eq, State.setMem_time, State.setMem_reports]
  rfl

theorem setBankState_setMem (bk : Bank) (st : BankState) (s : State) (m : MemState) :
    setBankState bk st (s.setMem m) = (setBankState bk st s).setMem m := by
  simp only [setBankState, State.setMem_journal, setBank_setMem, updateRoleWindow_setMem]

theorem endExport_setMem (bk : Bank) (st : BankState) (s : State) (m : MemState) :
    endExport bk st (s.setMem m) = (endExport bk st s).setMem m := by
  simp only [endExport_eq, State.setMem_journal, setBank_setMem, updateRoleWindow_setMem]

theorem observeExport_of_other {bk : Bank} {i : Nat} {d : Line} {s : State}
    (h : (getBank s.journal bk).state ≠ .exporting ∨ i ≠ (getBank s.journal bk).exportCursor) :
    observeExport bk i d s = s := by
  refine if_neg fun hc => ?_
  exact h.elim (fun hne => hne hc.1) (fun hne => hne hc.2)

theorem observeExport_of_match {bk : Bank} {i : Nat} {d : Line} {s : State} {last : Nat}
    (hstate : (getBank s.journal bk).state = .exporting) (hi : i = (getBank s.journal bk).exportCursor)
    (hchain : chainOf (getBank s.journal bk).exportChain d = getWord d 56)
    (hlast : (getBank s.journal bk).lastIndex = some last) : observeExport bk i d s =
      if last < i + 1 then reported (.exportVerified bk (getBank s.journal bk).dayNumber (i + 1) (getWord d 56))
        (setBankState bk .verified (setBank bk { getBank s.journal bk with
          exportChain := getWord d 56, exportCursor := i + 1 } s))
      else setBank bk { getBank s.journal bk with exportChain := getWord d 56, exportCursor := i + 1 } s := by
  refine (if_pos ⟨hstate, hi⟩).trans ?_
  simp only [hchain, if_true, entryChecks, hlast, ← hi]
  rfl

theorem observeExport_of_mismatch {bk : Bank} {i : Nat} {d : Line} {s : State}
    (hstate : (getBank s.journal bk).state = .exporting) (hi : i = (getBank s.journal bk).exportCursor)
    (hchain : chainOf (getBank s.journal bk).exportChain d ≠ getWord d 56) : observeExport bk i d s =
      endExport bk .closed (reported (.exportMismatch bk i (chainOf (getBank s.journal bk).exportChain d) (getWord d 56)) s) := by
  exact (if_pos ⟨hstate, hi⟩).trans (if_neg hchain)

/-- Settles O13: the observer checks the chain at the cursor; what it changes lies in the bank, its window and the
reports. -/
theorem exportReadChecksChain : Obligations.ExportReadChecksChain := by
  unfold Obligations.ExportReadChecksChain
  intro s t r addr i bk hread hcls
  have hview : readView bk.role r.view (Memory.readLine s.mem.dram addr) (portIdle s) = Memory.readLine s.mem.dram addr :=
    readView_of_raw (by cases bk <;> simp [Bank.role]) _ _
  have hexec : exec .passedReadComplete s = .next (setOutcome t 0 .good (Memory.readLine s.mem.dram addr)
      (observeExport bk i (Memory.readLine s.mem.dram addr) (s.setMem (idlePort s.mem)))) := by
    rw [exec_loneRead hread, hview, hcls]
    cases bk <;> rfl
  refine ⟨fun hother => ?_, fun hstate hi hchain last hlast => ⟨fun hlt => ?_, fun hle => ?_⟩, fun hstate hi hchain => ?_⟩
  · rw [hexec, observeExport_of_other (s := s.setMem (idlePort s.mem)) hother]
    exact congrArg Host.Outcome.next (setOutcome_eq_loneReadDone hread rfl rfl _)
  · rw [hexec, observeExport_of_match (s := s.setMem (idlePort s.mem)) hstate hi hchain hlast, if_neg (by omega), setBank_setMem]
    exact congrArg Host.Outcome.next (setOutcome_eq_loneReadDone hread (setBank_link _ _ _) (setBank_mem _ _ _) _)
  · rw [hexec, observeExport_of_match (s := s.setMem (idlePort s.mem)) hstate hi hchain hlast, if_pos (by omega),
      setBank_setMem, setBankState_setMem, reported_setMem]
    refine congrArg Host.Outcome.next (setOutcome_eq_loneReadDone hread ?_ ?_ _)
    · rw [reported_link, setBankState_link, setBank_link]
    · rw [reported_mem, setBankState_mem, setBank_mem]
  · rw [hexec, observeExport_of_mismatch (s := s.setMem (idlePort s.mem)) hstate hi hchain, reported_setMem, endExport_setMem]
    refine congrArg Host.Outcome.next ((setOutcome_eq_loneReadDone hread ?_ ?_ _).trans ?_)
    · rw [endExport_link, reported_link]
    · rw [endExport_mem, reported_mem]
    · simp only [endExport, reported_journal]
      rfl

end Sys2Proof.Machine
end

section
/-! PROOFS. The verdict of stages 1 to 3 on a line (R11, R19, R21 to R23). -/

namespace Sys2Proof.Machine

open Sys2Proof Sys2Proof.Safety

theorem Window.holds_iff {w : Window} {page : Nat} :
    w.holds page = true ↔ w.enabled = true ∧ w.base ≤ page ∧ page ≤ w.limit := by
  simp only [Window.holds, Bool.and_eq_true, decide_eq_true_eq, and_assoc]

/-- R18: no bus page lies in two enabled windows, so the window found is the window that holds the page. -/
theorem windowAt_of_holds {ws : Vector Window 16} {page : Nat} {i : Fin 16} (hlaws : tableLaws ws = true)
    (h : ws[i].holds page = true) : windowAt ws page = some i := by
  have honly : ∀ j : Fin 16, ws[j].holds page = true → j = i := by
    intro j hj
    by_contra hne
    obtain ⟨hje, hjb, hjl⟩ := Window.holds_iff.mp hj
    obtain ⟨hie, hib, hil⟩ := Window.holds_iff.mp h
    exact (compatible_iff.mp (tableLaws_iff.mp hlaws j i hne hje hie)).1 ⟨by omega, by omega⟩
  cases hfind : windowAt ws page with
  | none => exact absurd h (List.find?_eq_none.mp hfind i (mem_sixteen i))
  | some j =>
    have hj := List.find?_some hfind
    exact congrArg some (honly j hj)

theorem windowAt_eq_none {ws : Vector Window 16} {page : Nat} (h : ∀ i : Fin 16, ¬ws[i].holds page = true) :
    windowAt ws page = none := List.find?_eq_none.mpr fun i _ => h i

/-- R22: the rights that do not allow an access. -/
theorem Rights.allows_eq_false_iff {r : Rights} {k : AccessKind} :
    r.allows k = false ↔ r = .none ∨ (k = .write ∧ r = .read) := by
  cases r <;> cases k <;> simp [Rights.allows]

theorem Role.bank_isSome_iff {r : Role} : r.bank.isSome = true ↔ r = .journalA ∨ r = .journalB := by
  cases r <;> simp [Role.bank]

theorem Window.coversDram_iff {w : Window} {addr : Nat} : w.coversDram addr = true ↔
    (w.base : Int) + w.offset ≤ ((addr / 4096 : Nat) : Int) ∧ ((addr / 4096 : Nat) : Int) ≤ w.limit + w.offset := by
  simp only [Window.coversDram, Bool.and_eq_true, decide_eq_true_eq]
  exact Iff.rfl

theorem inRoleMemory_iff {ws : Vector Window 16} {addr : Nat} : inRoleMemory ws addr = true ↔
    ∃ i : Fin 16, ws[i].enabled = true ∧ ws[i].role ≠ .plain ∧ ws[i].coversDram addr = true := by
  simp only [inRoleMemory, Window.isRole, List.any_eq_true, mem_sixteen, true_and, Bool.and_eq_true, decide_eq_true_eq,
    and_assoc]

/-- R11, R22, R23: the verdict by the window that holds the page. -/
theorem judgeLine_of_window {g : GuardState} {bus : Nat} {i : Fin 16} (h : windowAt g.windows (bus / 4096) = some i)
    (size : DramSize) (cls : InitClass) (kind : AccessKind) : judgeLine g size cls kind bus =
      if ((bus / 4096 : Nat) : Int) + g.windows[i].offset < 0 ∨
          size.bytes ≤ (((bus / 4096 : Nat) : Int) + g.windows[i].offset).toNat * 4096 + bus % 4096 then
        .refuse .outOfRange (some i)
      else if kind = .write ∧ g.windows[i].role.bank.isSome = true ∧ cls ≠ .cpu then .refuse .notJournalWriter (some i)
      else if (g.windows[i].rights.get cls).allows kind = false then .refuse .noRight (some i)
      else if kind = .write ∧ g.windows[i].writeProtect = true then .refuse .writeProtect (some i)
      else .pass ((((bus / 4096 : Nat) : Int) + g.windows[i].offset).toNat * 4096 + bus % 4096) (some i) g.windows[i].role
        ((bus / 4096 - g.windows[i].base) * 64 + bus % 4096 / 64) := by
  have hpage : Config.pageBytes = 4096 := rfl
  simp only [judgeLine, hpage, h]
  rfl

/-- R11, R21: the verdict on a line in no window. -/
theorem judgeLine_of_no_window {g : GuardState} {bus : Nat} (h : windowAt g.windows (bus / 4096) = none) (size : DramSize)
    (cls : InitClass) (kind : AccessKind) : judgeLine g size cls kind bus =
      if size.bytes ≤ bus then .refuse .outOfRange none
      else if inRoleMemory g.windows bus = true then .refuse .noRight none
      else if (g.defaults.get cls).allows kind = false then .refuse .noRight none
      else .pass bus none .plain 0 := by
  have hpage : Config.pageBytes = 4096 := rfl
  simp only [judgeLine, hpage, h]

/-- Settles O19: the verdict's tests, with the model's tests on rights, roles and pages said in the record's terms. -/
theorem verdictAppliesTestsInOrder : Obligations.VerdictAppliesTestsInOrder := by
  unfold Obligations.VerdictAppliesTestsInOrder
  intro g size cls kind bus hlaws
  refine ⟨fun i henabled hbase hlimit => ?_, fun hno => ?_⟩
  · have hat : windowAt g.windows (bus / 4096) = some i :=
      windowAt_of_holds hlaws (Window.holds_iff.mpr ⟨henabled, hbase, hlimit⟩)
    rw [judgeLine_of_window hat]
    simp only [Rights.allows_eq_false_iff, Role.bank_isSome_iff]
  · have hat : windowAt g.windows (bus / 4096) = none :=
      windowAt_eq_none fun i hi => hno i (Window.holds_iff.mp hi)
    rw [judgeLine_of_no_window hat]
    refine ⟨fun hsize => if_pos hsize, fun hsize i henabled hrole hlow hhigh => ?_, fun hsize hclear => ?_⟩
    · have hin : inRoleMemory g.windows bus = true :=
        inRoleMemory_iff.mpr ⟨i, henabled, hrole, Window.coversDram_iff.mpr ⟨hlow, hhigh⟩⟩
      rw [if_neg (by omega), if_pos hin]
    · have hout : ¬inRoleMemory g.windows bus = true := by
        rw [inRoleMemory_iff]
        rintro ⟨i, henabled, hrole, hcovers⟩
        exact hclear i henabled hrole (Window.coversDram_iff.mp hcovers)
      rw [if_neg (by omega), if_neg hout]
      simp only [Rights.allows_eq_false_iff]

end Sys2Proof.Machine
end

section
/-! PROOFS. The completion of a passed write (R12, R91, R92, R120), and the turns of capture and check reads (R112, R114, R129,
R130). -/

namespace Sys2Proof.Machine

open Sys2Proof Sys2Proof.Safety

/-! ### A passed write's outcome and commit -/

/-- R2, R3, R16: a write line that is GOOD. -/
theorem recordGood_eq_writeGood {o : Option LineRef} {s : State}
    (h : ∀ x r, o = some x → findRequest s x.txn = some r → r.kind = .write) : recordGood o 0 s = writeGood o s := by
  cases o with
  | none => rfl
  | some x =>
    cases hr : findRequest s x.txn with
    | none =>
      have hsame : updateLine x.txn x.idx (fun l => { l with outcome := .good, delivered := 0 }) s = s := by
        have hmap : s.link.requests.map (fun q => if q.txn = x.txn then
            Request.onLine x.idx (fun l => { l with outcome := .good, delivered := 0 }) q else q) = s.link.requests := by
          refine (List.map_congr_left fun q hq => if_neg fun heq => ?_).trans (List.map_id _)
          exact List.find?_eq_none.mp hr q hq (decide_eq_true heq)
        simp only [updateLine, updateRequest, hmap]
        rfl
      simp only [recordGood, setOutcome, sendIfComplete, writeGood, hr, Option.bind_some, Option.map_none, hsame]
    | some r =>
      have hkind : r.kind = .write := h x r rfl hr
      have hlines : (r.lineDone x.idx .good 0).lines =
          r.lines.modify x.idx (fun l => { l with outcome := .good, delivered := 0 }) := rfl
      simp only [writeGood, hr, Option.bind_some, Option.map_some]
      by_cases hdone : ∀ l ∈ r.lines.modify x.idx (fun l => { l with outcome := .good, delivered := 0 }), l.outcome ≠ .pending
      · have hanswer : (r.lineDone x.idx .good 0).answerData = [] := by
          have hk : (r.lineDone x.idx .good 0).kind = .write := hkind
          simp only [Request.answerData, hk]
        rw [if_pos hdone, recordGood, setOutcome_of_done hr hdone, hanswer]
        rfl
      · have hpending : ∃ l ∈ (r.lineDone x.idx .good 0).lines, l.outcome = .pending := by
          rw [hlines]
          push Not at hdone
          exact hdone
        rw [if_neg hdone, recordGood, setOutcome_of_pending hr hpending]
        rfl

theorem writeGood_price (o : Option LineRef) (s : State) : (writeGood o s).price = s.price := by
  unfold writeGood
  split
  · rfl
  · dsimp only
    split <;> rfl

theorem reportFlagged_eq (bk : Bank) (index till seq kind : Nat) (flags : Word32) (s : State) :
    reportFlagged bk index till seq kind flags s = flagReported bk index till seq kind flags s := by
  unfold reportFlagged flagReported
  by_cases h : hasWarning flags = true
  · rw [if_pos h, if_pos (hasWarning_iff.mp h), arise_eq_reported]
  · rw [if_neg h, if_neg (fun hf => h (hasWarning_iff.mpr hf))]

/-- R92: the commit of an accepted entry. -/
theorem commitEntry_eq (c : EntryCommit) (s : State) :
    commitEntry c s = flagReported c.bank c.index c.till.val c.seq c.kind c.flags (entryCommitted c s) := by
  unfold commitEntry
  dsimp only
  rw [reportFlagged_eq, State.setRetained_journal, setRetained_journal]
  obtain ⟨bank, _⟩ := c
  cases bank <;> rfl

/-- R120: the released line leaves the capture queue. -/
def releasedLeft (addr : Nat) (s : State) : State := s.setPrice { s.price with
  queue := s.price.queue.filter (fun x => decide ¬(x.stage = .released ∧ x.addr = addr)) }

theorem releasedLeft_eq (addr : Nat) (s : State) : s.setPrice { s.price with
    queue := s.price.queue.filter (fun c => !(decide (c.stage = .released) && decide (c.addr = addr))) } =
      releasedLeft addr s := by
  simp only [releasedLeft, decide_not, Bool.decide_and]

theorem releasedDone_of_none {addr : Nat} {s : State} (h : ∀ e ∈ s.price.table, e.exit ≠ .afterWrite addr) :
    releasedDone addr s = releasedLeft addr s := by
  have hnone : s.price.table.find? (fun e => decide (e.exit = .afterWrite addr)) = none :=
    List.find?_eq_none.mpr fun e he => by simpa using h e he
  simp only [releasedDone, releasedLeft_eq]
  have hfind : (releasedLeft addr s).price.table.find? (fun e => decide (e.exit = .afterWrite addr)) = none := hnone
  simp only [hfind]

theorem releasedDone_of_some {addr : Nat} {s : State} {e : WatchEntry}
    (h : s.price.table.find? (fun e => decide (e.exit = .afterWrite addr)) = some e) :
    releasedDone addr s = withdrawEntry e false (releasedLeft addr s) := by
  simp only [releasedDone, releasedLeft_eq]
  have hfind : (releasedLeft addr s).price.table.find? (fun e => decide (e.exit = .afterWrite addr)) = some e := h
  simp only [hfind]

theorem withdrawEntry_eq (e : WatchEntry) (b : Bool) (s : State) : withdrawEntry e b s =
    leaveAwaited e.item false (reported (.priceWithdrawn e.item e.oldPrice b) (retired e.item s)) := removeEntry_eq _ _ s

/-- Settles O51: the outcome, the commit carried and the capture line let go, one after another. -/
theorem entryCommitsWhenItsWriteCompletes : Obligations.EntryCommitsWhenItsWriteCompletes := by
  unfold Obligations.EntryCommitsWhenItsWriteCompletes
  intro s p hport hkind howned good
  have hgood : recordGood p.owner 0 (portIdle (s.setMem { s.mem with
      dram := Memory.writeLine s.mem.dram p.addr p.mask p.data })) = good := recordGood_eq_writeGood howned
  have hprice : good.price = s.price := writeGood_price _ _
  have hexec : exec .passedWriteComplete s = .next (if p.released then releasedDone p.addr (commitCarried p.commit good)
      else commitCarried p.commit good) := by
    rw [← hgood]
    show execPassedWriteComplete s = _
    simp only [execPassedWriteComplete, hport, if_pos hkind]
    rfl
  refine ⟨fun hcommit hreleased => ?plain, fun c hcommit hreleased => ?commits, fun hcommit hreleased => ?released⟩
  case plain =>
    rw [hexec, hcommit, if_neg (by simp [hreleased])]
    rfl
  case commits =>
    rw [hexec, hcommit, if_neg (by simp [hreleased])]
    exact congrArg Host.Outcome.next (commitEntry_eq c good)
  case released =>
    have hleft : exec .passedWriteComplete s = .next (releasedDone p.addr good) := by
      rw [hexec, hcommit, if_pos hreleased]
      rfl
    rw [hleft, ← hprice]
    exact ⟨fun hnone => congrArg Host.Outcome.next (releasedDone_of_none hnone),
      fun e he => congrArg Host.Outcome.next ((releasedDone_of_some he).trans (withdrawEntry_eq e false _))⟩

/-! ### The entry of a request, changed (R2) -/

/-- R1: with distinct transaction numbers, changing the entry of a number is replacing it. -/
theorem updateRequest_eq_entryReplaced {s : State} {t : Fin 64} {r : Request} (h : findRequest s t = some r)
    (hd : TxnsDistinct s) (f : Request → Request) : updateRequest t f s = entryReplaced t (f r) s := by
  have hmap : s.link.requests.map (fun q => if q.txn = t then f q else q) =
      s.link.requests.map (fun q => if q.txn = t then f r else q) := by
    refine List.map_congr_left fun q hq => ?_
    by_cases hqt : q.txn = t
    · have hr : r.txn = t := findRequest_txn h
      rw [if_pos hqt, if_pos hqt, List.inj_on_of_nodup_map hd hq (List.mem_of_find?_eq_some h) (hqt.trans hr.symm)]
    · rw [if_neg hqt, if_neg hqt]
  simp only [updateRequest, hmap]
  rfl

theorem updateRequest_updateRequest (s : State) (t : Fin 64) {f : Request → Request} (hf : ∀ r, (f r).txn = r.txn)
    (g : Request → Request) : updateRequest t g (updateRequest t f s) = updateRequest t (fun r => g (f r)) s := by
  simp only [updateRequest, State.setLink_link, List.map_map]
  refine congrArg (fun rs => s.setLink { s.link with requests := rs }) (List.map_congr_left fun r _ => ?_)
  by_cases hr : r.txn = t
  · simp [hf, hr]
  · simp [hr]

/-- A request that has gone, or whose lines have all taken effect, has nothing left to run. -/
theorem runRequest_of_absent {t : Fin 64} {s : State} (h : findRequest s t = none) : runRequest t s = s := by
  simp only [runRequest, runLines, h]

theorem guestStage_of_not_guest {t : Fin 64} {s : State} {r : Request} (h : findRequest s t = some r)
    (hcls : r.cls ≠ .guest) : guestStage t s = s := by
  have hnot : ¬(r.cls = .guest ∧ waitingLines t s ≠ []) := fun hc => hcls hc.1
  simp only [guestStage, h, if_neg hnot]

theorem runRequest_of_no_turn {t : Fin 64} {s : State} {r : Request} (h : findRequest s t = some r)
    (hnext : nextTurn 0 r.lines = none) (hcls : r.cls ≠ .guest) : runRequest t s = s := by
  simp only [runRequest, runLines, h, hnext, guestStage_of_not_guest h hcls]

theorem nextTurn_of_stage {l : ReqLine} (h : l.stage ≠ .awaitsTurn) : nextTurn 0 [l] = none := by
  have hnot : ¬(l.outcome = .pending ∧ l.stage = .awaitsTurn) := fun hc => h hc.2
  simp only [nextTurn, if_neg hnot]

/-! ### Price lines held (R112) -/

/-- R8: a line for the Price Watch is a write of the CPU. -/
theorem cls_of_capture {b : Bool} {r : Request} {l : ReqLine} (h : handlerOf b r l = some .capture) : r.cls = .cpu := by
  unfold handlerOf at h
  split at h
  · split at h
    · simp at h
    · simp at h
    · assumption
    · split at h <;> simp at h
    · split at h <;> simp at h
    · split at h <;> simp at h
    · simp at h
  · simp at h

/-- R112: what a price write at its turn does to its entry. -/
def Request.captured (k : Nat) (r : Request) : Request :=
  Request.onLine k (fun l => { l with stage := .held })
    { r with progress := .active, captureReserved := r.captureReserved - 1 }

/-- R112: the line joins the capture queue's tail and is held, then the request runs on. -/
theorem exec_capture {s : State} {t : Fin 64} {k : Nat} {l : ReqLine} {addr : Nat} {w : Option (Fin 16)} {role : Role} {i : Nat}
    (hturn : AtTurn s t k l .capture) (hv : l.verdict = some (.pass addr w role i)) :
    exec (.priceWriteCapture t) s = .next (runRequest t ((updateRequest t (Request.captured k) s).setPrice
      { s.price with queue := s.price.queue ++ [⟨some ⟨t, k⟩, addr, l.data, .waiting⟩] })) := by
  obtain ⟨r, hr⟩ := hturn
  show execPriceWriteCapture t s = _
  simp only [execPriceWriteCapture, hr, hv]
  exact congrArg (fun u : State => Host.Outcome.next (runRequest t (u.setPrice
    { s.price with queue := s.price.queue ++ [⟨some ⟨t, k⟩, addr, l.data, .waiting⟩] })))
    (updateRequest_updateRequest s t (f := fun r => { r with progress := .active }) (fun _ => rfl) _)

theorem capture_of_lone {s : State} {t : Fin 64} {r : Request} {l : ReqLine} {addr : Nat} {w : Option (Fin 16)} {role : Role}
    {i : Nat} (hturn : AtTurn s t 0 l .capture) (hr : findRequest s t = some r) (hd : TxnsDistinct s) (hline : r.lines = [l])
    (hv : l.verdict = some (.pass addr w role i)) :
    exec (.priceWriteCapture t) s = .next (entryReplaced t { r with
        progress := .active, captureReserved := r.captureReserved - 1, lines := [{ l with stage := .held }] }
      { s with price := { s.price with queue := s.price.queue ++ [⟨some ⟨t, 0⟩, addr, l.data, .waiting⟩] } }) := by
  obtain ⟨r', hturn'⟩ := id hturn
  obtain ⟨hr', _, _, _, hhandler⟩ := turnLine_spec hturn'
  obtain rfl : r' = r := Option.some.inj (hr'.symm.trans hr)
  have hentry : Request.captured 0 r' = { r' with
      progress := .active, captureReserved := r'.captureReserved - 1, lines := [{ l with stage := .held }] } := by
    simp only [Request.captured, Request.onLine, hline]
    rfl
  rw [exec_capture hturn hv]
  have hfound : findRequest ((updateRequest t (Request.captured 0) s).setPrice
      { s.price with queue := s.price.queue ++ [⟨some ⟨t, 0⟩, addr, l.data, .waiting⟩] }) t =
      some (Request.captured 0 r') := by
    refine (findRequest_of_link (s := updateRequest t (Request.captured 0) s) rfl t).trans ?_
    rw [findRequest_updateRequest, hr]
    · rfl
    · exact fun _ => rfl
  have hidle : nextTurn 0 (Request.captured 0 r').lines = none := by
    rw [hentry]
    exact nextTurn_of_stage (by simp)
  have hcls : (Request.captured 0 r').cls ≠ .guest := by
    show r'.cls ≠ .guest
    simp [cls_of_capture hhandler]
  rw [runRequest_of_no_turn hfound hidle hcls, updateRequest_eq_entryReplaced hr hd, hentry]
  rfl

/-! ### The two candidates and their turns (R114) -/

theorem releasedAt_eq_false_iff {q : List CaptureLine} {addr : Nat} :
    releasedAt q addr = false ↔ ∀ x ∈ q, x.stage = .released → x.addr ≠ addr := by
  simp only [releasedAt, List.any_eq_false, Bool.and_eq_true, decide_eq_true_eq, not_and, ne_eq]

theorem firstCapture_append {released rest : List CaptureLine} {c : CaptureLine} (hr : ∀ x ∈ released, x.stage = .released)
    (hc : c.stage = .waiting) : firstCapture (released ++ c :: rest) .waiting = some c := by
  have hnone : released.find? (fun x => decide (x.stage = .waiting)) = none :=
    List.find?_eq_none.mpr fun x hx => by simp [hr x hx]
  rw [firstCapture, List.find?_append, hnone, List.find?_cons_of_pos (by simpa using hc)]
  rfl

/-- R114: the oldest WAITING line is the candidate, where nothing bars it. -/
theorem captureCandidate_of_oldest {p : PriceState} {released rest : List CaptureLine} {c : CaptureLine}
    (hq : p.queue = released ++ c :: rest) (hr : ∀ x ∈ released, x.stage = .released ∧ x.addr ≠ c.addr)
    (hc : c.stage = .waiting) (hrest : ∀ x ∈ rest, x.stage = .waiting)
    (htable : ∀ e ∈ p.table, e.exit = .withdraw → e.line ≠ c.addr) : captureCandidate p = some c := by
  have hfirst : firstCapture p.queue .waiting = some c := by
    rw [hq]
    exact firstCapture_append (fun x hx => (hr x hx).1) hc
  have hstage : ∀ x ∈ p.queue, x.stage = .waiting ∨ (x.stage = .released ∧ x.addr ≠ c.addr) := by
    intro x hx
    rw [hq, List.mem_append, List.mem_cons] at hx
    rcases hx with hx | rfl | hx
    · exact .inr (hr x hx)
    · exact .inl hc
    · exact .inl (hrest x hx)
  have hreading : ¬p.queue.any (fun d => decide (d.stage = .reading)) = true := by
    simp only [List.any_eq_true, decide_eq_true_eq]
    rintro ⟨x, hx, hxs⟩
    rcases hstage x hx with h | ⟨h, _⟩ <;> simp [h] at hxs
  have hreleased : ¬releasedAt p.queue c.addr = true := by
    rw [Bool.not_eq_true, releasedAt_eq_false_iff]
    intro x hx hxs
    rcases hstage x hx with h | ⟨_, h⟩
    · simp [h] at hxs
    · exact h
  have hwithdrawn : ¬p.table.any (fun e => decide (e.exit = .withdraw) && decide (e.line = c.addr)) = true := by
    simp only [List.any_eq_true, Bool.and_eq_true, decide_eq_true_eq]
    rintro ⟨e, he, hexit, hline⟩
    exact htable e he hexit hline
  simp only [captureCandidate, hfirst, if_neg hreading, if_neg hreleased, if_neg hwithdrawn]

theorem captureCandidate_eq_none {p : PriceState} (h : ∀ x ∈ p.queue, x.stage ≠ .waiting) : captureCandidate p = none := by
  have hfirst : firstCapture p.queue .waiting = none := List.find?_eq_none.mpr fun x hx => by simpa using h x hx
  simp only [captureCandidate, hfirst]

theorem withdrawalCandidate_of_head {p : PriceState} {item : Nat} {e : WatchEntry} (hhead : p.withdrawals.head? = some item)
    (he : p.table.find? (fun e => decide (e.item = item)) = some e)
    (hq : ∀ x ∈ p.queue, x.stage = .released → x.addr ≠ e.line) : withdrawalCandidate p = some e := by
  obtain ⟨items, hitems⟩ := List.head?_eq_some_iff.mp hhead
  have hreleased : ¬releasedAt p.queue e.line = true := by
    rw [Bool.not_eq_true, releasedAt_eq_false_iff]
    exact hq
  simp only [withdrawalCandidate, hitems, he, if_neg hreleased]

theorem markReading_append {released rest : List CaptureLine} {c : CaptureLine} (hr : ∀ x ∈ released, x.stage = .released)
    (hc : c.stage = .waiting) :
    markReading (released ++ c :: rest) = released ++ { c with stage := .reading } :: rest := by
  induction released with
  | nil => simp only [List.nil_append, markReading, if_pos hc]
  | cons x released ih =>
    have hx : ¬x.stage = .waiting := by simp [hr x List.mem_cons_self]
    simp only [List.cons_append, markReading, if_neg hx, ih fun y hy => hr y (List.mem_cons_of_mem x hy)]

theorem priceIdle_iff {s : State} : priceIdle s = true ↔ s.price.access = .idle ∧ s.mem.slots.priceWatch = .empty := by
  simp only [priceIdle, Bool.and_eq_true, decide_eq_true_eq]

theorem exec_captureReadIssue {s : State} {c : CaptureLine} (hc : captureCandidate s.price = some c)
    (hidle : priceIdle s = true) (hhold : s.mem.hold = false)
    (hturn : withdrawalCandidate s.price = none ∨ s.price.lastIssue = .withdrawal) :
    exec .captureReadIssue s = .next (issueAccess .priceWatch (readAccess c.addr)
      (s.setPrice { s.price with queue := markReading s.price.queue, access := .captureRead, lastIssue := .capture })) := by
  show execCaptureReadIssue s = _
  simp only [execCaptureReadIssue, hc]
  exact if_pos ⟨hidle, hhold, hturn.imp_left Option.isNone_iff_eq_none.mpr⟩

theorem exec_checkReadIssue {s : State} {e : WatchEntry} (he : withdrawalCandidate s.price = some e)
    (hidle : priceIdle s = true) (hturn : captureCandidate s.price = none ∨ s.price.lastIssue = .capture) :
    exec .checkReadIssue s = .next (issueAccess .priceWatch (readAccess e.line)
      (s.setPrice { s.price with access := .checkRead e.item, lastIssue := .withdrawal, dropAtCheck := false })) := by
  show execCheckReadIssue s = _
  simp only [execCheckReadIssue, he]
  exact if_pos ⟨hidle, hturn.elim (fun h => .inl (Option.isNone_iff_eq_none.mpr h)) (fun h => .inr (.inr h))⟩

/-! ### The check read and the write-back (R130) -/

theorem completeCheck_of_entry {s : State} {a : Access} {item : Nat} {e : WatchEntry} (ha : InsertedAtPort s .priceWatch a)
    (haccess : s.price.access = .checkRead item) (he : entryOf s item = some e) (hdrop : s.price.dropAtCheck = false) :
    completeCheck false s =
      let u := (releaseSlot .priceWatch s).setPrice { s.price with access := .idle, dropAtCheck := false }
      if (readPrice (Memory.readLine s.mem.dram a.addr)).item ≠ item then withdrawEntry e false u
      else issueAccess .priceWatch (writeBackAccess e) (u.setPrice { u.price with access := .writeBack item }) := by
  have hfind : findEntry ((releaseSlot .priceWatch s).setPrice { s.price with access := .idle, dropAtCheck := false }) item =
      some e := he
  have hprice : (releaseSlot .priceWatch s).price = s.price := rfl
  simp only [completeCheck, grantedAccess_eq_some_iff.mpr ha, haccess, checked, hprice, hfind, hdrop, Bool.false_eq_true,
    false_or]
  rfl

/-- Settles O54: each row by its candidate or its read, whose turn the last issue decides. -/
theorem capturesAndWithdrawalsTakeTurns : Obligations.CapturesAndWithdrawalsTakeTurns := by
  unfold Obligations.CapturesAndWithdrawalsTakeTurns
  refine ⟨fun s t r l addr w role i hturn hr hd hline hv => capture_of_lone hturn hr hd hline hv,
    fun s released rest c hq hreleased hc hrest htable haccess hslot hhold => ⟨fun hturn => ?issue, fun item e hhead he hfar hlast => ?waits⟩,
    fun s hhold => execCaptureReadIssue_of_not_made (.inr (.inr (.inr (.inl hhold)))),
    fun s item e hhead he hfar haccess hslot hturn => ?checkIssue,
    fun s a item e ha haccess he hdrop => ⟨fun hitem => ?writesBack, fun hitem => ?withdrawn⟩,
    fun s a item e ha haccess he hkind => ?writtenBack⟩
  case issue =>
    have hcand := captureCandidate_of_oldest hq hreleased hc hrest htable
    have hother : withdrawalCandidate s.price = none ∨ s.price.lastIssue = .withdrawal :=
      hturn.imp_left fun hnone => by simp only [withdrawalCandidate, hnone]
    rw [exec_captureReadIssue hcand (priceIdle_iff.mpr ⟨haccess, hslot⟩) hhold hother, hq,
      markReading_append (fun x hx => (hreleased x hx).1) hc]
    rfl
  case waits =>
    have hwithdrawal : withdrawalCandidate s.price = some e := by
      refine withdrawalCandidate_of_head hhead he fun x hx hxs => ?_
      rw [hq, List.mem_append, List.mem_cons] at hx
      rcases hx with hx | rfl | hx
      · exact hfar x hx
      · simp [hc] at hxs
      · simp [hrest x hx] at hxs
    exact execCaptureReadIssue_of_not_made (.inr (.inr (.inr (.inr ⟨by simp [hwithdrawal], hlast⟩))))
  case checkIssue =>
    have hitem : e.item = item := by simpa using List.find?_some he
    rw [exec_checkReadIssue (withdrawalCandidate_of_head hhead he hfar) (priceIdle_iff.mpr ⟨haccess, hslot⟩)
      (hturn.imp_left captureCandidate_eq_none), hitem]
    rfl
  case writesBack =>
    refine ⟨writeBackAccess e, rfl, rfl, (by decide : fieldMask 4 4 = 0xF0), ?_, ?_⟩
    · exact extract_eq_ofNat (o := 4) (w := 4) (getField_putField (by omega))
    · refine congrArg Host.Outcome.next ((completeCheck_of_entry ha haccess he hdrop).trans ((if_neg ?_).trans ?_))
      · exact not_not_intro hitem
      · rw [← hdrop]
        rfl
  case withdrawn =>
    have hsame : e.item = item := by simpa using List.find?_some he
    refine congrArg Host.Outcome.next ((completeCheck_of_entry ha haccess he hdrop).trans ((if_pos hitem).trans ?_))
    rw [withdrawEntry_eq, hsame, ← hdrop]
    rfl
  case writtenBack =>
    have hsame : e.item = item := by simpa using List.find?_some he
    have hwritten : completeWriteBack false s = withdrawEntry e true ((releaseSlot .priceWatch (storeAccess false a s)).setPrice
        { s.price with access := .idle }) := by
      have hfind : findEntry ((releaseSlot .priceWatch (storeAccess false a s)).setPrice { s.price with access := .idle }) item =
          some e := he
      have hprice : (releaseSlot .priceWatch (storeAccess false a s)).price = s.price := rfl
      simp only [completeWriteBack, grantedAccess_eq_some_iff.mpr ha, haccess, writtenBack, hprice, hfind]
    refine congrArg Host.Outcome.next (hwritten.trans ?_)
    rw [withdrawEntry_eq, hsame]
    rfl

end Sys2Proof.Machine
end

section
/-! PROOFS. The records the part writes (R199, sections 12.3 to 12.5), the report ring (R47, R49, R51, R53), and the orders of
the part's own entries (R88, R89, R169, R174). -/

namespace Sys2Proof.Machine

open Sys2Proof Sys2Proof.Safety

/-! ### Packed fields (R199) -/

/-- The bytes that packed fields occupy. -/
def totalWidth (fs : List (Nat × Nat)) : Nat := (fs.map (fun f => f.1)).sum

/-- Packed fields with the offsets at which they stand, the first at `o`. -/
def laidOut : Nat → List (Nat × Nat) → List (Nat × Nat × Nat)
  | _, [] => []
  | o, (w, v) :: rest => (o, w, v) :: laidOut (o + w) rest

theorem packFields_lt (fs : List (Nat × Nat)) : packFields fs < 256 ^ totalWidth fs := by
  induction fs with
  | nil => simp [packFields, totalWidth]
  | cons f fs ih =>
    obtain ⟨w, v⟩ := f
    have hv : v % 256 ^ w < 256 ^ w := Nat.mod_lt _ (Nat.pow_pos (by omega))
    have hrest : packFields fs + 1 ≤ 256 ^ totalWidth fs := ih
    have hwidth : totalWidth ((w, v) :: fs) = w + totalWidth fs := by simp [totalWidth]
    rw [hwidth, pow_add, packFields]
    calc v % 256 ^ w + 256 ^ w * packFields fs < 256 ^ w + 256 ^ w * packFields fs := by omega
      _ = 256 ^ w * (packFields fs + 1) := by ring
      _ ≤ 256 ^ w * 256 ^ totalWidth fs := Nat.mul_le_mul_left _ hrest

/-- Each packed field reads back at its offset. -/
theorem packFields_field {fs : List (Nat × Nat)} {o : Nat} {f : Nat × Nat × Nat} (h : f ∈ laidOut o fs) :
    o ≤ f.1 ∧ f.1 + f.2.1 ≤ o + totalWidth fs ∧
      packFields fs / 256 ^ (f.1 - o) % 256 ^ f.2.1 = f.2.2 % 256 ^ f.2.1 := by
  induction fs generalizing o with
  | nil => simp [laidOut] at h
  | cons x fs ih =>
    obtain ⟨w, v⟩ := x
    have hwidth : totalWidth ((w, v) :: fs) = w + totalWidth fs := by simp [totalWidth]
    rw [laidOut, List.mem_cons] at h
    rw [hwidth]
    rcases h with rfl | h
    · refine ⟨Nat.le_refl o, by simp only; omega, ?_⟩
      simp only [Nat.sub_self, pow_zero, Nat.div_one, packFields, Nat.add_mul_mod_self_left, Nat.mod_mod]
    · obtain ⟨hlow, hhigh, hvalue⟩ := ih h
      refine ⟨by omega, by omega, ?_⟩
      have hsplit : f.1 - o = w + (f.1 - (o + w)) := by omega
      have hskip : packFields ((w, v) :: fs) / 256 ^ w = packFields fs := by
        have hpos : 0 < 256 ^ w := Nat.pow_pos (by omega)
        rw [packFields, Nat.add_mul_div_left _ _ hpos, Nat.div_eq_of_lt (Nat.mod_lt _ hpos), Nat.zero_add]
      rw [hsplit, pow_add, ← Nat.div_div_eq_div_mul, hskip, hvalue]

/-- Every byte within packed fields lies in one of them. -/
theorem exists_field_of_lt {fs : List (Nat × Nat)} {o j : Nat} (hlow : o ≤ j) (hhigh : j < o + totalWidth fs) :
    ∃ f ∈ laidOut o fs, f.1 ≤ j ∧ j < f.1 + f.2.1 := by
  induction fs generalizing o with
  | nil => simp [totalWidth] at hhigh; omega
  | cons x fs ih =>
    obtain ⟨w, v⟩ := x
    have hwidth : totalWidth ((w, v) :: fs) = w + totalWidth fs := by simp [totalWidth]
    rw [hwidth] at hhigh
    by_cases hin : j < o + w
    · exact ⟨(o, w, v), List.mem_cons_self, hlow, hin⟩
    · obtain ⟨f, hf, hbounds⟩ := ih (o := o + w) (by omega) (by omega)
      exact ⟨f, List.mem_cons_of_mem _ hf, hbounds⟩

theorem getField_packLine {fs : List (Nat × Nat)} (h : totalWidth fs ≤ 64) (o w : Nat) :
    getField (packLine fs) o w = packFields fs / 256 ^ o % 256 ^ w := by
  have hbits : 8 * 64 = 512 := rfl
  have hlt : packFields fs < 256 ^ 64 := (packFields_lt fs).trans_le (Nat.pow_le_pow_right (by omega) h)
  rw [← two_pow_eight_mul, hbits] at hlt
  rw [getField, packLine, BitVec.extractLsb'_toNat, BitVec.toNat_ofNat, Nat.mod_eq_of_lt hlt, Nat.shiftRight_eq_div_pow,
    two_pow_eight_mul, two_pow_eight_mul]

theorem getByte_toNat {n : Nat} (l : BitVec n) (j : Nat) : (getByte l j).toNat = getField l j 1 := rfl

/-- R199: a record of packed fields holds them, and zero after them. -/
theorem holdsFields_packLine {fs : List (Nat × Nat)} (h : totalWidth fs ≤ 64) : HoldsFields (packLine fs) (laidOut 0 fs) := by
  refine ⟨fun f hf => ?_, fun j hj hout => ?_⟩
  · obtain ⟨_, _, hvalue⟩ := packFields_field hf
    rw [getField_packLine h]
    exact hvalue
  · have hbeyond : totalWidth fs ≤ j := by
      by_contra hlt
      obtain ⟨f, hf, hbounds⟩ := exists_field_of_lt (Nat.zero_le j) (by omega : j < 0 + totalWidth fs)
      exact hout f hf hbounds
    have hsmall : packFields fs < 256 ^ j :=
      (packFields_lt fs).trans_le (Nat.pow_le_pow_right (by omega) hbeyond)
    refine BitVec.eq_of_toNat_eq ?_
    rw [getByte_toNat, getField_packLine h, Nat.div_eq_of_lt hsmall]
    rfl

/-- A byte of a field that holds zero is zero. -/
theorem getByte_of_field_zero {l : Line} {o w j : Nat} (h : getField l o w = 0) (hlow : o ≤ j) (hhigh : j < o + w) :
    getByte l j = 0 := by
  have hzero : l.extractLsb' (8 * o) (8 * w) = 0#(8 * w) := BitVec.eq_of_toNat_eq (h.trans (by simp))
  refine BitVec.eq_of_getLsbD_eq fun i hi => ?_
  have hbit := congrArg (fun b => b.getLsbD (8 * (j - o) + i)) hzero
  simp only [BitVec.getLsbD_extractLsb', BitVec.getLsbD_zero] at hbit
  have hin : 8 * (j - o) + i < 8 * w := by omega
  have hpos : 8 * o + (8 * (j - o) + i) = 8 * j + i := by omega
  rw [hpos, decide_eq_true hin, Bool.true_and] at hbit
  rw [getByte, BitVec.getLsbD_extractLsb', hbit]
  simp

/-- R199: fields that hold zero need not be listed. -/
theorem HoldsFields.of_zeros {l : Line} {fs gs : List (Nat × Nat × Nat)} (h : HoldsFields l fs) (hsub : ∀ g ∈ gs, g ∈ fs)
    (hzero : ∀ f ∈ fs, f ∈ gs ∨ f.2.2 = 0) : HoldsFields l gs := by
  refine ⟨fun g hg => h.1 g (hsub g hg), fun j hj hout => ?_⟩
  by_cases hin : ∃ f ∈ fs, f.1 ≤ j ∧ j < f.1 + f.2.1
  · obtain ⟨f, hf, hlow, hhigh⟩ := hin
    have hvalue : f.2.2 = 0 := (hzero f hf).resolve_left fun hg => hout f hg ⟨hlow, hhigh⟩
    refine getByte_of_field_zero ?_ hlow hhigh
    rw [h.1 f hf, hvalue, Nat.zero_mod]
  · exact h.2 j hj fun f hf hbounds => hin ⟨f, hf, hbounds⟩

/-! ### Report records (R55, section 12.5) -/

/-- The packed fields of a report record. -/
def reportPacked (r : Report) (phase before : Bool) : List (Nat × Nat) :=
  (1, r.body.kind) :: (1, boolCode phase + 2 * boolCode before + 4 * r.clock.code) :: (2, r.millis) :: (4, r.seconds) ::
    r.body.payload

theorem payload_width (b : ReportBody) : totalWidth b.payload ≤ 56 := by
  cases b with
  | watch i x => cases x <;> simp [totalWidth, ReportBody.payload, watchFields]
  | _ => simp [totalWidth, ReportBody.payload, statusFields, tillFields, storeFields]

theorem reportPacked_width (r : Report) (phase before : Bool) : totalWidth (reportPacked r phase before) ≤ 64 := by
  obtain ⟨seconds, millis, clock, body⟩ := r
  have hpayload : totalWidth body.payload ≤ 56 := payload_width body
  simp only [reportPacked, totalWidth, List.map_cons, List.sum_cons] at hpayload ⊢
  omega

theorem laidOut_reportPacked (r : Report) (phase before : Bool) :
    laidOut 0 (reportPacked r phase before) = reportFields r phase before := by
  obtain ⟨seconds, millis, clock, body⟩ := r
  have hclock : clock.code = marker (decide (clock = .set)) := by cases clock <;> rfl
  unfold reportPacked reportFields
  rw [hclock]
  cases body with
  | guard e dump =>
    obtain ⟨tag, cls, bus, kind, cause, window, count⟩ := e
    cases window <;> rfl
  | priceStaged i o n z f previous => cases previous <;> rfl
  | status i =>
    have hlatch : latchCode i.latch = (match i.latch with | none => 0 | some .budget => 1 | some .guardFault => 2) := by
      obtain _ | _ | _ := i.latch <;> rfl
    simp only [ReportBody.payload, statusFields, hlatch]
    rfl
  | watch i x => obtain _ | ⟨e, pos⟩ := x <;> rfl
  | _ => rfl

theorem reportLine_holds (r : Report) (phase before : Bool) :
    HoldsFields (reportLine r phase before) (reportFields r phase before) := by
  rw [← laidOut_reportPacked]
  exact holdsFields_packLine (reportPacked_width r phase before)

theorem codesAsListed : CodesAsListed where
  cls := by decide
  bank := by decide
  bankState := by decide
  dayPhase := by decide
  carry := by decide
  guestMode := by decide
  latchCause := by decide
  round := by decide
  policy := by decide
  watchState := by decide
  exit := fun _ => rfl
  lock := by decide
  clock := by decide
  kind := by decide
  config := by decide
  status := by decide
  size := by decide
  cause := by decide
  refusal := by decide

/-! ### The report ring (R47, R49, R51, R53) -/

/-- R46, R146: a ring has room where the index after the producer index is not the consumer's; it then has a slot. -/
theorem ringFull_eq_false {p c capacity : Nat} (hc : capacity ≠ 0) (h : ringNext p capacity ≠ c) :
    ringFull p c capacity = false := by
  simp [ringFull, hc, h]

theorem ringCapacity_pos {ws : Vector Window 16} {r : Role} {w : Window} (h : roleWindow ws r = some w) :
    ringCapacity ws r ≠ 0 := by
  have hlines : 1 ≤ w.nLines := by
    simp only [Window.nLines, Config.pageLines]
    omega
  simp only [ringCapacity, h, Config.maxRing]
  omega

theorem exec_placementIssue {s : State} {h : Report} {rest : List Report} {w : Window} (hp : s.reports.pending = h :: rest)
    (hw : roleWindow s.guard.windows .report = some w) (hplacing : s.reports.placing = none)
    (hslot : s.mem.slots.reportWriter = .empty)
    (hroom : ringNext s.reports.producer (reportCapacity s) ≠ s.reports.consumer) :
    exec .placementIssue s = .next (issueAccess .reportWriter
        { kind := .write, addr := w.lineAddr s.reports.producer, mask := fullMask
          data := reportLine h s.reports.phase (placementMarker s.reports) }
        (s.setReports { s.reports with
          placing := some ⟨true⟩, overflow := false, headMarked := placementMarker s.reports })) := by
  have hfull : ringFull s.reports.producer s.reports.consumer (reportCapacity s) = false :=
    ringFull_eq_false (ringCapacity_pos hw) hroom
  have hcan : canPlace s = true := by simp [canPlace, hplacing, hslot, hfull]
  show execPlacementIssue s = _
  simp only [execPlacementIssue, hp, hw, if_pos hcan]

theorem completePlacement_of_inRing {s : State} {a : Access} (ha : InsertedAtPort s .reportWriter a)
    (hp : s.reports.placing = some ⟨true⟩) (beyond : Bool) : completePlacement beyond s =
      evalIrq ((releaseSlot .reportWriter (storeAccess beyond a s)).setReports (placed (reportCapacity s) s.reports)) := by
  have hcapacity : reportCapacity (releaseSlot .reportWriter (storeAccess beyond a s)) = reportCapacity s := by
    unfold reportCapacity
    rw [show (releaseSlot .reportWriter (storeAccess beyond a s)).guard = s.guard from storeAccess_guard beyond a s]
  have hreports : (releaseSlot .reportWriter (storeAccess beyond a s)).reports = s.reports := storeAccess_reports beyond a s
  simp only [completePlacement, grantedAccess_eq_some_iff.mpr ha, hp, if_true, hcapacity, hreports]

theorem completePlacement_of_not_inRing {s : State} {a : Access} (ha : InsertedAtPort s .reportWriter a)
    (hp : s.reports.placing = some ⟨false⟩) (beyond : Bool) : completePlacement beyond s =
      (releaseSlot .reportWriter (storeAccess beyond a s)).setReports { s.reports with placing := none } := by
  have hreports : (releaseSlot .reportWriter (storeAccess beyond a s)).reports = s.reports := storeAccess_reports beyond a s
  simp only [completePlacement, grantedAccess_eq_some_iff.mpr ha, hp, Bool.false_eq_true, if_false, hreports]

/-- R14: an access that its grant finds out of range completes at once. -/
theorem grantInserted_of_beyond {s : State} {src : Source} {a : Access} (h : s.mem.size.bytes ≤ a.addr) :
    grantInserted src a s = completeBeyond src (s.setMem { s.mem with
      port := .inserted src, slots := s.mem.slots.put src (.granted a), lastGranted := src }) :=
  if_pos (decide_eq_true h)

/-- R53: the interrupt output of a ring. -/
theorem irqLevel_eq (threshold p c capacity : Nat) : irqLevel threshold p c capacity =
    (decide (capacity ≠ 0) && decide (min threshold (capacity - 1) ≤ (p + capacity - c) % capacity)) := by
  unfold irqLevel unconsumed
  by_cases h : capacity = 0
  · simp [h]
  · simp [h]

/-- Settles O21: the issue, the two completions, the completion at the grant, and the record's layout by its kind. -/
theorem placementIssuedAndCompleted : Obligations.PlacementIssuedAndCompleted := by
  unfold Obligations.PlacementIssuedAndCompleted
  refine ⟨fun s h rest w hp hw hplacing hslot hroom => exec_placementIssue hp hw hplacing hslot hroom,
    fun s h rest a ha hp hplacing => ?completes, fun s a ha hplacing => ?stale,
    fun s a n hport hhold hqueue hslot honly hbeyond hplacing => ?beyond, reportLine_holds, codesAsListed⟩
  case completes =>
    refine congrArg Host.Outcome.next ((completePlacement_of_inRing ha hplacing false).trans ?_)
    have hplaced : placed (reportCapacity s) s.reports = { s.reports with
        placing := none, pending := rest, headMarked := false, producer := ringNext s.reports.producer (reportCapacity s)
        phase := if ringNext s.reports.producer (reportCapacity s) = 0 then !s.reports.phase else s.reports.phase } := by
      simp only [placed, hp]
      rfl
    rw [hplaced, evalIrq, irqLevel_eq]
    rfl
  case stale => exact congrArg Host.Outcome.next (completePlacement_of_not_inRing ha hplacing false)
  case beyond =>
    have hnext : nextInserted s.mem = some (.reportWriter, a) :=
      nextInserted_eq_some hslot fun x hx b m hw => honly x b m (by simpa using List.mem_takeWhile_imp hx) hw
    rw [execDramGrant_of_free hport hhold, grant_of_inserted hnext (.inl hqueue), grantInserted_of_beyond hbeyond]
    exact congrArg Host.Outcome.next (completePlacement_of_not_inRing
      (s := s.setMem { s.mem with
        port := .inserted .reportWriter, slots := s.mem.slots.put .reportWriter (.granted a), lastGranted := .reportWriter })
      (a := a) ⟨rfl, rfl⟩ hplacing true)

end Sys2Proof.Machine
end

section
/-! PROOFS. The entries the part writes (R88, R89, section 12.2) and their orders (R169, R174). -/

namespace Sys2Proof.Machine

open Sys2Proof Sys2Proof.Safety

/-! ### The word sum and the part's own entries (R86, R89) -/

theorem sumWords_eq (l : Line) (n : Nat) : sumWords l n = (List.range n).foldl (fun a k => a + getWord l (4 * k)) 0 := by
  induction n with
  | zero => rfl
  | succ n ih => rw [sumWords, List.range_succ, List.foldl_append, ← ih]; rfl

theorem chainOf_eq (prev : Word32) (l : Line) : chainOf prev l = prev.rotateLeft 5 ^^^ fourteenWords l := by
  rw [chainOf, wordSum, sumWords_eq, fourteenWords]

theorem getWord_putField_of_disjoint {l : Line} {o w v p : Nat} (hp : p + 4 ≤ 64) (h : p + 4 ≤ o ∨ o + w ≤ p) :
    getWord (putField l o w v) p = getWord l p :=
  extract_putField_of_disjoint (by omega) (by omega)

/-- R86: the word sum does not read the chain's field. -/
theorem fourteenWords_putChain (l : Line) (v : Nat) : fourteenWords (putField l 56 4 v) = fourteenWords l := by
  refine List.foldl_ext _ _ _ fun a k hk => ?_
  rw [List.mem_range] at hk
  rw [getWord_putField_of_disjoint (by omega) (.inl (by omega))]

theorem getWord_putField {l : Line} {o v : Nat} (h : o + 4 ≤ 64) : getWord (putField l o 4 v) o = BitVec.ofNat 32 v :=
  extract_eq_ofNat (w := 4) (getField_putField h)

theorem ofNat_twos (v : Int) : BitVec.ofNat 64 (twos 8 v) = BitVec.ofInt 64 v :=
  (BitVec.ofNat_toNat 64 (BitVec.ofInt (8 * 8) v)).trans (BitVec.setWidth_eq _)

theorem ofNat_word (v : Word32) : BitVec.ofNat 32 v.toNat = v := (BitVec.ofNat_toNat 32 v).trans (BitVec.setWidth_eq v)

/-- Neighbouring zero fields pack as one. -/
theorem packFields_zeros (v w : Nat) (fs : List (Nat × Nat)) :
    packFields ((v, 0) :: (w, 0) :: fs) = packFields ((v + w, 0) :: fs) := by
  simp only [packFields, Nat.zero_mod, Nat.zero_add, pow_add, Nat.mul_assoc]

/-- The fields of a part-written entry before its chain (section 12.2), those between transaction number and amount as one. -/
def partPacked (j : JournalState) (o : PartOrder) : List (Nat × Nat) :=
  let c := partContent j o
  [(1, o.kind.code), (1, c.till), (2, 0), (4, c.txnNo), (16, 0), (8, twos 8 c.amount.value), (4, (partFlags c).toNat),
    (4, (getBank j o.bank).cursor)] ++ c.detail

theorem partPacked_width (j : JournalState) (o : PartOrder) : totalWidth (partPacked j o) = 56 := by
  obtain ⟨bank, kind, till⟩ := o
  cases kind <;> rfl

/-- The line whose words the chain of a part-written entry sums. -/
theorem partLine_eq (j : JournalState) (o : PartOrder) : partLine j o = putField (packLine (partPacked j o)) 56 4
    (chainOf (getBank j o.bank).running (packLine (partPacked j o))).toNat := by
  have hpack : ∀ (a b c d : Nat × Nat) (fs : List (Nat × Nat)),
      packLine (a :: b :: c :: d :: (4, 0) :: (4, 0) :: (4, 0) :: (2, 0) :: (2, 0) :: fs) =
        packLine (a :: b :: c :: d :: (16, 0) :: fs) := fun a b c d fs => by
    have hzeros : packFields ((4, 0) :: (4, 0) :: (4, 0) :: (2, 0) :: (2, 0) :: fs) = packFields ((16, 0) :: fs) := by
      rw [packFields_zeros, packFields_zeros, packFields_zeros, packFields_zeros]
    simp only [packLine, packFields] at hzeros ⊢
    rw [hzeros]
  simp only [partLine, List.cons_append, hpack]
  rfl

/-- Each field of a part-written entry reads back. -/
theorem partLine_field {j : JournalState} {o : PartOrder} (f : Nat × Nat × Nat) (h : f ∈ laidOut 0 (partPacked j o)) :
    (partLine j o).extractLsb' (8 * f.1) (8 * f.2.1) = BitVec.ofNat (8 * f.2.1) f.2.2 := by
  have hwidth := partPacked_width j o
  obtain ⟨_, hin, _⟩ := packFields_field h
  rw [partLine_eq, extract_putField_of_disjoint (by omega) (.inl (by omega))]
  exact extract_eq_ofNat ((holdsFields_packLine (by omega)).1 f h)

theorem partLine_note (j : JournalState) (o : PartOrder) : getWord (partLine j o) 60 = 0 := by
  have hwidth := partPacked_width j o
  have hsmall : packFields (partPacked j o) < 256 ^ 60 :=
    (packFields_lt _).trans_le (Nat.pow_le_pow_right (by omega) (by omega))
  rw [partLine_eq, getWord_putField_of_disjoint (by omega) (.inr (by omega))]
  refine extract_eq_ofNat (w := 4) (v := 0) ?_
  rw [getField_packLine (by omega), Nat.div_eq_of_lt hsmall]

theorem partLine_chain (j : JournalState) (o : PartOrder) :
    getWord (partLine j o) 56 = (getBank j o.bank).running.rotateLeft 5 ^^^ fourteenWords (partLine j o) := by
  rw [partLine_eq, getWord_putField (by omega), ofNat_word, chainOf_eq, fourteenWords_putChain]

/-- Every part-written entry holds its common fields. -/
theorem partLine_common (j : JournalState) (o : PartOrder) :
    getField (partLine j o) 0 1 = o.kind.code ∧ getField (partLine j o) 1 1 = (partContent j o).till % 256 ∧
      getWord (partLine j o) 4 = BitVec.ofNat 32 (partContent j o).txnNo ∧
      (partLine j o).extractLsb' 192 64 = BitVec.ofInt 64 (partContent j o).amount.value ∧
      getWord (partLine j o) 32 = partFlags (partContent j o) := by
  have field := fun f h => partLine_field (j := j) (o := o) f h
  refine ⟨?kind, ?till, ?txn, ?amount, ?flags⟩
  case kind =>
    have hkind : o.kind.code % 256 = o.kind.code := by cases o.kind <;> rfl
    exact (congrArg BitVec.toNat (field (0, 1, o.kind.code) (by simp [partPacked, laidOut]))).trans hkind
  case till => exact congrArg BitVec.toNat (field (1, 1, (partContent j o).till) (by simp [partPacked, laidOut]))
  case txn => exact field (4, 4, (partContent j o).txnNo) (by simp [partPacked, laidOut])
  case amount =>
    rw [← ofNat_twos]
    exact field (24, 8, twos 8 (partContent j o).amount.value) (by simp [partPacked, laidOut])
  case flags =>
    rw [← ofNat_word (partFlags (partContent j o))]
    exact field (32, 4, (partFlags (partContent j o)).toNat) (by simp [partPacked, laidOut])

theorem partFlags_eq (c : PartContent) : partFlags c = if c.amount.marked = true then 0x11000 else 0x10000 := by
  unfold partFlags
  cases c.amount.marked <;> rfl

theorem till_mod (t : Fin 32) : t.val % 256 = t.val := Nat.mod_eq_of_lt (by omega)

/-- R89, section 12.2: the entry that is formed is laid out by its kind. -/
theorem partLine_holds (j : JournalState) (o : PartOrder) : PartHolds j o (partLine j o) := by
  obtain ⟨bank, kind, till⟩ := o
  have field := fun f h => partLine_field (j := j) (o := ⟨bank, kind, till⟩) f h
  obtain ⟨hkind, htill, htxn, hamount, hflags⟩ := partLine_common j ⟨bank, kind, till⟩
  refine ⟨?_, ?_, partLine_note j _, ?_, partLine_chain j _, ?_, ?_, ?_, ?_⟩
  · exact congrArg BitVec.toNat (field (2, 2, 0) (by simp [partPacked, laidOut]))
  · exact field (8, 16, 0) (by simp [partPacked, laidOut])
  · exact field (36, 4, (getBank j bank).cursor) (by simp [partPacked, laidOut])
  · rintro rfl
    exact ⟨hkind, htill, htxn, hamount, hflags.trans (partFlags_eq _),
      (congrArg BitVec.toNat (field (40, 1, bank.code) (by simp [partPacked, partContent, laidOut]))).trans
        (by cases bank <;> rfl),
      field (42, 2, (getBank j bank).dayNumber) (by simp [partPacked, partContent, laidOut])⟩
  · rintro rfl
    rw [partFlags_eq] at hflags
    refine ⟨hkind, htill.trans (till_mod till), htxn, hamount, hflags,
      field (40, 2, j.contexts[till].list.length) (by simp [partPacked, partContent, laidOut]), ?_⟩
    rw [← ofNat_twos]
    exact field (48, 8, twos 8 j.contexts[till].tender.value) (by simp [partPacked, partContent, laidOut])
  · rintro rfl
    rw [partFlags_eq] at hflags
    exact ⟨hkind, htill, htxn, hamount, hflags,
      field (42, 2, (getBank j bank).dayNumber) (by simp [partPacked, partContent, laidOut]),
      field (44, 4, (getBank j bank).totals.store.entries) (by simp [partPacked, partContent, laidOut]),
      field (48, 4, (getBank j bank).totals.store.txns) (by simp [partPacked, partContent, laidOut])⟩
  · rintro rfl
    rw [partFlags_eq] at hflags
    exact ⟨hkind, htill.trans (till_mod till), htxn, hamount, hflags,
      field (40, 2, j.contexts[till].list.length) (by simp [partPacked, partContent, laidOut])⟩

/-! ### The orders (R169, R174) -/

theorem giveOrder_given {s : State} {o : PartOrder} (hordered : s.day.ordered = false) (hidle : s.journal.partWrite = .idle)
    (hw : hasJournalWindow s o.bank = true) :
    giveOrder o s = (s.setJournal { s.journal with partWrite := .draining o }).setDay { s.day with ordered := true } :=
  if_pos ⟨hordered, hidle, hw⟩

theorem giveOrder_of_no_window {s : State} {o : PartOrder} (hw : hasJournalWindow s o.bank = false) : giveOrder o s = s :=
  if_neg fun h => Bool.noConfusion (hw.symm.trans h.2.2)

theorem exec_dayOpenOrder {s : State} {bk : Bank} (hphase : s.day.phase = .dayOpen) (hopen : s.day.openBank = some bk)
    (hstate : (getBank s.journal bk).state = .open) (hcursor : (getBank s.journal bk).cursor = 0) :
    exec .dayOpenOrder s = .next (giveOrder ⟨bk, .dayOpen, 0⟩ s) := by
  show execDayOpenOrder s = _
  simp only [execDayOpenOrder, hphase, hopen, if_pos (⟨hstate, hcursor⟩ : _ ∧ _)]

/-- R174: the position in the switch list says which entry stands there. -/
theorem switchList_getElem? {s : State} {bk : Bank} {p : Nat} {o : PartOrder} (h : AtPosition s bk p o) :
    (switchList bk s.day.carry (suspendSet s.journal))[p]? = some o := by
  have hset : openTills s = suspendSet s.journal := rfl
  unfold AtPosition at h
  rw [hset] at h
  unfold switchList
  generalize suspendSet s.journal = set at h ⊢
  rcases h with ⟨t, ht, rfl⟩ | ⟨rfl, rfl⟩ | ⟨rfl, rfl⟩ | ⟨hcarry, q, t, rfl, ht, rfl⟩
  · have hlt : p < set.length := (List.getElem?_eq_some_iff.mp ht).1
    rw [List.append_assoc, List.getElem?_append_left (by simpa using hlt), List.getElem?_map, ht]
    rfl
  · rw [List.append_assoc, List.getElem?_append_right (by simp)]
    simp
  · rw [List.append_assoc, List.getElem?_append_right (by simp)]
    simp
  · rw [hcarry, List.getElem?_append_right (by simp)]
    simp [ht]

theorem exec_switchOrder {s : State} {bk : Bank} {o : PartOrder} (hphase : s.day.phase = .switching)
    (hclosing : s.day.closingBank = some bk) (h : AtPosition s bk s.day.progress o) :
    exec .switchOrder s = .next (giveOrder o s) := by
  have hnext : switchNext s = some o := by simp only [switchNext, hclosing, switchList_getElem? h]
  show execSwitchOrder s = _
  simp only [execSwitchOrder, hphase, hnext]

/-- Settles O52: an order is given only to an engine that is free and to a bank with a window, and the entry is the formed
line. -/
theorem partWritesOrderedAndIssued : Obligations.PartWritesOrderedAndIssued := by
  unfold Obligations.PartWritesOrderedAndIssued
  refine ⟨fun s bk hphase hopen hstate hcursor hordered hidle => ?_,
    fun s bk o hphase hclosing hpos hordered hidle => ?_, fun s o w hdraining hw => ⟨fun hbusy => ?_, fun hdrained hslot => ?_⟩⟩
  · rw [exec_dayOpenOrder hphase hopen hstate hcursor]
    exact ⟨fun hw => congrArg _ (giveOrder_given (o := ⟨bk, .dayOpen, 0⟩) hordered hidle hw),
      fun hw => congrArg _ (giveOrder_of_no_window (o := ⟨bk, .dayOpen, 0⟩) hw)⟩
  · rw [exec_switchOrder hphase hclosing hpos]
    exact ⟨fun hw => congrArg _ (giveOrder_given hordered hidle hw), fun hw => congrArg _ (giveOrder_of_no_window hw)⟩
  · show execPartWriteIssue s = _
    simp only [execPartWriteIssue, hdraining, hw]
    exact if_neg fun h => absurd h.1 (by omega)
  · refine ⟨partLine s.journal o, partLine_holds s.journal o, ?_⟩
    show execPartWriteIssue s = _
    simp only [execPartWriteIssue, hdraining, hw, if_pos (⟨hdrained, hslot⟩ : _ ∧ _)]
    rfl

end Sys2Proof.Machine
end

section
/-! PROOFS. The commit of a part-written entry (R88, R92) and the switch (R169, R174 to R176). -/

namespace Sys2Proof.Machine

open Sys2Proof Sys2Proof.Safety

/-! ### The commit (R88, R89, R106, R108) -/

/-- R106, R108: the totals of a bank after one of the part's own entries. -/
theorem partTotals_eq (o : PartOrder) (flags : Word32) (d : DayTotals) : partTotals o flags d =
    { tills := if o.kind = .txnSuspend then
          (onTill o.till (fun x => { x with suspended := min (x.suspended + 1) 4294967295 }) d).tills else d.tills
      store := { (counted flags d).store with
        entries := if o.kind = .dayOpen then 1 else (counted flags d).store.entries } } := by
  obtain ⟨bank, kind, till⟩ := o
  rw [← counted_eq]
  cases kind <;> rfl

theorem flagReported_setDay (bk : Bank) (index till seq kind : Nat) (flags : Word32) (s : State) (d : DayState) :
    flagReported bk index till seq kind flags (s.setDay d) = (flagReported bk index till seq kind flags s).setDay d := by
  unfold flagReported
  rw [reported_setDay]
  split <;> rfl

@[simp] theorem flagReported_journal (bk : Bank) (index till seq kind : Nat) (flags : Word32) (s : State) :
    (flagReported bk index till seq kind flags s).journal = s.journal :=
  apply_ite_eq (f := State.journal) (reported_journal _ _) rfl

@[simp] theorem flagReported_day (bk : Bank) (index till seq kind : Nat) (flags : Word32) (s : State) :
    (flagReported bk index till seq kind flags s).day = s.day := apply_ite_eq (f := State.day) (reported_day _ _) rfl

@[simp] theorem reported_retained (b : ReportBody) (s : State) : (reported b s).retained = s.retained := by
  rw [reported_eq]
  rfl

/-- What the commit of a part-written entry leaves before the Day Controller is told of it. -/
def partEntered (o : PartOrder) (entry : Line) (s : State) : State :=
  let r := getBank s.journal o.bank
  let flags := getWord entry 32
  let banked := setBank o.bank { r with
    lastIndex := some r.cursor, cursor := r.cursor + 1, running := getWord entry 56
    totals := partTotals o flags r.totals } s
  reportFlagged o.bank r.cursor (getField entry 1 1) 0 o.kind.code flags
    (retainBank o.bank (banked.setJournal { banked.journal with partWrite := .idle }))

theorem commitPart_eq (o : PartOrder) (entry : Line) (s : State) :
    commitPart o entry s = orderCommitted o (partEntered o entry s) := rfl

theorem partEntered_eq (o : PartOrder) (entry : Line) (s : State) :
    (partEntered o entry s).setDay { s.day with ordered := false } = partCommitted o entry s := by
  unfold partEntered partCommitted
  dsimp only
  rw [reportFlagged_eq, ← flagReported_setDay, partTotals_eq]
  obtain ⟨bank, kind, till⟩ := o
  cases bank <;> rfl

@[simp] theorem partEntered_day (o : PartOrder) (entry : Line) (s : State) : (partEntered o entry s).day = s.day := by
  simp only [partEntered, reportFlagged_eq, flagReported_day, retainBank_day, State.setJournal_day, setBank_day]

theorem partCommitted_day (o : PartOrder) (entry : Line) (s : State) :
    (partCommitted o entry s).day = { s.day with ordered := false } := by rw [← partEntered_eq]; rfl

/-- The journal after the commit: the bank has moved on, and the engine is idle. -/
theorem partCommitted_journal (o : PartOrder) (entry : Line) (s : State) : ∃ totals : DayTotals,
    (partCommitted o entry s).journal = { (setBank o.bank { getBank s.journal o.bank with
      cursor := (getBank s.journal o.bank).cursor + 1, lastIndex := some (getBank s.journal o.bank).cursor
      running := getWord entry 56, totals := totals } s).journal with partWrite := .idle } :=
  ⟨_, (flagReported_journal _ _ _ _ _ _ _).trans (setRetained_journal _ _ _)⟩

/-- The commit changes the running chain of its bank, not its day, and not the other bank. -/
theorem partCommitted_banks (o : PartOrder) (entry : Line) (s : State) :
    (getBank (partCommitted o entry s).journal o.bank).running = getWord entry 56 ∧
      (getBank (partCommitted o entry s).journal o.bank).dayNumber = (getBank s.journal o.bank).dayNumber ∧
      getBank (partCommitted o entry s).journal o.bank.other = getBank s.journal o.bank.other := by
  obtain ⟨totals, h⟩ := partCommitted_journal o entry s
  rw [h]
  cases o.bank <;> exact ⟨rfl, rfl, rfl⟩

theorem partCommitted_contexts (o : PartOrder) (entry : Line) (s : State) :
    (partCommitted o entry s).journal.contexts = s.journal.contexts := by
  obtain ⟨totals, h⟩ := partCommitted_journal o entry s
  rw [h]
  exact setBank_contexts _ _ _

theorem partCommitted_retained_contexts (o : PartOrder) (entry : Line) (s : State) :
    (partCommitted o entry s).retained.contexts = s.retained.contexts := by
  have hreport : ∀ (index till seq kind : Nat) (flags : Word32) (u : State),
      (flagReported o.bank index till seq kind flags u).retained = u.retained := fun index till seq kind flags u =>
    apply_ite_eq (f := State.retained) (reported_retained _ _) rfl
  obtain ⟨bank, kind, till⟩ := o
  refine (congrArg RetainedState.contexts (hreport _ _ _ _ _ _)).trans ?_
  cases bank <;> rfl

/-- R176: the switch list depends on the suspend set and the carry mode only. -/
theorem listLength_eq (s : State) (bk : Bank) :
    listLength s = (switchList bk s.day.carry (suspendSet s.journal)).length := by
  have hset : openTills s = suspendSet s.journal := rfl
  unfold listLength switchList
  rw [hset]
  cases s.day.carry
  · simp; omega
  · simp

theorem completePartWrite_eq {s : State} {a : Access} {o : PartOrder} {entry : Line} (ha : InsertedAtPort s .journalEngine a)
    (hw : s.journal.partWrite = .writing o entry) (beyond : Bool) :
    completePartWrite beyond s = commitPart o entry (releaseSlot .journalEngine (storeAccess beyond a s)) := by
  simp only [completePartWrite, grantedAccess_eq_some_iff.mpr ha, hw]

/-! ### The Day Controller (R169, R174 to R176) -/

theorem orderCommitted_of_dayOpen {s : State} {o : PartOrder} (hphase : s.day.phase = .dayOpen) (hkind : o.kind = .dayOpen) :
    orderCommitted o s =
      reported (.dayOpened o.bank (getBank s.journal o.bank).dayNumber) (s.setDay { s.day with ordered := false }) := by
  simp only [orderCommitted, State.setDay_day, hphase, if_pos hkind, arise_eq_reported]
  rfl

theorem orderCommitted_of_switching {s : State} {o : PartOrder} {bk : Bank} (hphase : s.day.phase = .switching)
    (hclosing : s.day.closingBank = some bk) :
    orderCommitted o s = switchCommitted bk o (s.setDay { s.day with ordered := false }) := by
  simp only [orderCommitted, State.setDay_day, hphase, hclosing]

/-- R174: an entry of the switch that is not its last. -/
theorem switchCommitted_of_more {s : State} {bk : Bank} {o : PartOrder} (hkind : o.kind ≠ .dayClose)
    (h : s.day.progress + 1 < listLength s) :
    switchCommitted bk o s = s.setDay { s.day with progress := s.day.progress + 1 } := by
  rw [listLength_eq s bk] at h
  simp only [switchCommitted, if_neg hkind]
  exact if_neg (by simpa using h)

/-- R176: the last entry of the switch. -/
theorem switchCommitted_of_last {s : State} {bk : Bank} {o : PartOrder} (hkind : o.kind ≠ .dayClose)
    (h : s.day.progress + 1 = listLength s) :
    switchCommitted bk o s = finishSwitch bk (s.setDay { s.day with progress := s.day.progress + 1 }) := by
  rw [listLength_eq s bk] at h
  simp only [switchCommitted, if_neg hkind]
  exact if_pos (by simp [h])

/-- R175: the closing bank is CLOSED with its final chain, and the other bank, whose record is `n`, opens from it with a
day number. -/
def dayHanded (bk : Bank) (chain : Word32) (number : Nat) (n : BankRecord) (s : State) : State :=
  let closed := updateRoleWindow bk.role (fun x => { x with writeProtect := true })
    (setBank bk { getBank s.journal bk with state := .closed, final := chain }
      { s with journal := { s.journal with carried := some chain } })
  setRetained bk.other { cursor := 0, lastIndex := none, running := chain, totals := n.totals }
    (updateRoleWindow bk.other.role (fun x => { x with writeProtect := false })
      (setBank bk.other { n with
        state := .open, dayNumber := number, seed := chain, cursor := 0
        lastIndex := none, running := chain, fullMarker := false } closed))

theorem setRetained_setDay (bk : Bank) (r : RetainedBank) (s : State) (d : DayState) :
    setRetained bk r (s.setDay d) = (setRetained bk r s).setDay d := by
  cases bk <;> rfl

theorem handOver_eq (bk : Bank) (s : State) :
    handOver bk s = (dayHanded bk (getBank s.journal bk).running (((getBank s.journal bk).dayNumber + 1) % 65536)
      (getBank s.journal bk.other) s).setDay { s.day with openBank := some bk.other } := by
  unfold handOver
  dsimp only
  rw [openBank_eq]
  have hbank : ∀ (r : Role) (f : Window → Window) (u : State) (k : Bank),
      getBank (updateRoleWindow r f u).journal k = getBank u.journal k := fun r f u k => by rw [updateRoleWindow_journal_eq]
  simp only [setBankState, hbank, updateRoleWindow_day, setBank_day, State.setJournal_day]
  unfold dayHanded
  cases bk <;> rfl

theorem dayHanded_contexts (bk : Bank) (chain : Word32) (number : Nat) (n : BankRecord) (s : State) :
    (dayHanded bk chain number n s).journal.contexts = s.journal.contexts := by
  simp only [dayHanded, setRetained_journal, updateRoleWindow_journal_eq, setBank_contexts]

theorem dayHanded_setDay (bk : Bank) (chain : Word32) (number : Nat) (n : BankRecord) (s : State) (d : DayState) :
    dayHanded bk chain number n (s.setDay d) = (dayHanded bk chain number n s).setDay d := by
  have hset : ∀ c, { s.setDay d with journal := { s.journal with carried := c } } =
    ({ s with journal := { s.journal with carried := c } } : State).setDay d := fun c => rfl
  simp only [dayHanded, State.setDay_journal, hset, setBank_setDay, updateRoleWindow_setDay, setRetained_setDay]

/-- R176: under DROP each context of the set is cleared in both stores, and no other changes. -/
theorem foldl_dropContext (ts : List (Fin 32)) (s : State) : ∃ contexts kept : Vector TillContext 32,
    ts.foldl dropContext s = (s.setJournal { s.journal with contexts := contexts }).setRetained
      { s.retained with contexts := kept } ∧
    ∀ x : Fin 32, (x ∈ ts → contexts[x] = clearContext s.journal.contexts[x] ∧ kept[x] = contexts[x]) ∧
      (x ∉ ts → contexts[x] = s.journal.contexts[x] ∧ kept[x] = s.retained.contexts[x]) := by
  induction ts generalizing s with
  | nil => exact ⟨s.journal.contexts, s.retained.contexts, rfl, fun x => ⟨fun h => absurd h (by simp), fun _ => ⟨rfl, rfl⟩⟩⟩
  | cons t ts ih =>
    obtain ⟨contexts, kept, hfold, hpoint⟩ := ih (dropContext s t)
    refine ⟨contexts, kept, hfold, fun x => ?_⟩
    obtain ⟨hin, hout⟩ := hpoint x
    have hcontext : (dropContext s t).journal.contexts[x] =
        if t = x then clearContext s.journal.contexts[t] else s.journal.contexts[x] := vput_get _ _ _ _
    have hkept : (dropContext s t).retained.contexts[x] =
        if t = x then clearContext s.journal.contexts[t] else s.retained.contexts[x] := vput_get _ _ _ _
    rw [hcontext] at hin
    rw [hcontext, hkept] at hout
    rw [List.mem_cons]
    by_cases hx : x ∈ ts
    · obtain ⟨hcleared, hsame⟩ := hin hx
      refine ⟨fun _ => ⟨hcleared.trans ?_, hsame⟩, fun h => absurd (.inr hx) h⟩
      by_cases ht : t = x
      · rw [if_pos ht, ht]; rfl
      · rw [if_neg ht]
    · obtain ⟨hcontexts, hkepts⟩ := hout hx
      by_cases ht : t = x
      · subst ht
        rw [if_pos rfl] at hcontexts hkepts
        exact ⟨fun _ => ⟨hcontexts, hkepts.trans hcontexts.symm⟩, fun h => absurd (.inl rfl) h⟩
      · rw [if_neg ht] at hcontexts hkepts
        exact ⟨fun h => (h.resolve_left (Ne.symm ht) |> fun h => absurd h hx), fun _ => ⟨hcontexts, hkepts⟩⟩

theorem mem_suspendSet {j : JournalState} {x : Fin 32} : x ∈ suspendSet j ↔ j.contexts[x].state = .inTxn := by
  simp [suspendSet, mem_tills]

/-- The day as the end of the switch leaves it (R176). -/
def switchOver (d : DayState) : DayState :=
  { d with phase := .dayOpen, progress := 0, closingBank := none, carry := .carry, timed := false }

theorem finishSwitch_of_carry {s : State} (bk : Bank) (h : s.day.carry = .carry) :
    finishSwitch bk s = reported (.dayClosed bk bk.other (getBank s.journal bk.other).dayNumber
      (getBank s.journal bk.other).cursor (openTills s).length .carry) (s.setDay (switchOver s.day)) := by
  simp only [finishSwitch, h, arise_eq_reported]
  rfl

theorem finishSwitch_of_drop {s : State} (bk : Bank) (h : s.day.carry = .drop) : ∃ contexts kept : Vector TillContext 32,
    finishSwitch bk s = reported (.dayClosed bk bk.other (getBank s.journal bk.other).dayNumber
        (getBank s.journal bk.other).cursor (openTills s).length .drop)
      (((s.setJournal { s.journal with contexts := contexts }).setRetained { s.retained with contexts := kept }).setDay
        (switchOver s.day)) ∧
    ∀ x : Fin 32,
      (s.journal.contexts[x].state = .inTxn → contexts[x] = clearContext s.journal.contexts[x] ∧ kept[x] = contexts[x]) ∧
      (s.journal.contexts[x].state = .idle → contexts[x] = s.journal.contexts[x] ∧ kept[x] = s.retained.contexts[x]) := by
  obtain ⟨contexts, kept, hfold, hpoint⟩ := foldl_dropContext (suspendSet s.journal) s
  refine ⟨contexts, kept, ?_, fun x => ⟨fun hx => (hpoint x).1 (mem_suspendSet.mpr hx),
    fun hx => (hpoint x).2 fun hmem => TillState.noConfusion (hx.symm.trans (mem_suspendSet.mp hmem))⟩⟩
  simp only [finishSwitch, h, arise_eq_reported, hfold]
  cases bk <;> rfl

/-- R169: the commit of the DAY_OPEN that opens a day. -/
theorem commitPart_of_dayOpen {s : State} {o : PartOrder} (entry : Line) (hphase : s.day.phase = .dayOpen)
    (hkind : o.kind = .dayOpen) : commitPart o entry s =
      reported (.dayOpened o.bank (getBank s.journal o.bank).dayNumber) (partCommitted o entry s) := by
  have hnumber : (getBank (partEntered o entry s).journal o.bank).dayNumber = (getBank s.journal o.bank).dayNumber := by
    have hjournal : (partEntered o entry s).journal = (partCommitted o entry s).journal := by rw [← partEntered_eq]; rfl
    rw [hjournal, (partCommitted_banks o entry s).2.1]
  have hday := partEntered_day o entry s
  rw [commitPart_eq, orderCommitted_of_dayOpen (by rw [hday]; exact hphase) hkind, hnumber, hday, partEntered_eq]

/-- R174: the commit of an entry of the switch is told to the switch. -/
theorem commitPart_of_switching {s : State} {o : PartOrder} {bk : Bank} (entry : Line) (hphase : s.day.phase = .switching)
    (hclosing : s.day.closingBank = some bk) :
    commitPart o entry s = switchCommitted bk o (partCommitted o entry s) := by
  have hday := partEntered_day o entry s
  rw [commitPart_eq, orderCommitted_of_switching (by rw [hday]; exact hphase) (by rw [hday]; exact hclosing), hday,
    partEntered_eq]

theorem listLength_partCommitted (o : PartOrder) (entry : Line) (s : State) :
    listLength (partCommitted o entry s) = listLength s := by
  simp only [listLength, openTills, partCommitted_contexts, partCommitted_day]

/-- R174: the switch advances past an entry that is neither the DAY_CLOSE nor the last. -/
theorem commitPart_of_more {s : State} {o : PartOrder} {bk : Bank} (entry : Line) (hphase : s.day.phase = .switching)
    (hclosing : s.day.closingBank = some bk) (hkind : o.kind ≠ .dayClose) (h : s.day.progress + 1 < listLength s) :
    commitPart o entry s = (partCommitted o entry s).setDay
      { (partCommitted o entry s).day with progress := s.day.progress + 1 } := by
  have hday := partCommitted_day o entry s
  rw [commitPart_of_switching entry hphase hclosing,
    switchCommitted_of_more hkind (by rw [listLength_partCommitted, hday]; exact h), hday]

/-- R175: the DAY_CLOSE hands the day over. -/
theorem commitPart_of_dayClose {s : State} {bk : Bank} (entry : Line) (hphase : s.day.phase = .switching)
    (hclosing : s.day.closingBank = some bk) (h : s.day.progress + 1 < listLength s) :
    commitPart ⟨bk, .dayClose, 0⟩ entry s = (dayHanded bk (getWord entry 56)
        (((getBank s.journal bk).dayNumber + 1) % 65536) (getBank s.journal bk.other)
        (partCommitted ⟨bk, .dayClose, 0⟩ entry s)).setDay
      { (partCommitted ⟨bk, .dayClose, 0⟩ entry s).day with
        openBank := some bk.other, progress := s.day.progress + 1 } := by
  obtain ⟨hrunning, hnumber, hother⟩ := partCommitted_banks ⟨bk, .dayClose, 0⟩ entry s
  generalize ho : (⟨bk, .dayClose, 0⟩ : PartOrder) = o at hrunning hnumber hother ⊢
  have hkind : o.kind = .dayClose := ho ▸ rfl
  have hbank : o.bank = bk := ho ▸ rfl
  rw [hbank] at hrunning hnumber hother
  have hday := partCommitted_day o entry s
  have hsuspend : suspendSet (dayHanded bk (getWord entry 56) (((getBank s.journal bk).dayNumber + 1) % 65536)
      (getBank s.journal bk.other) (partCommitted o entry s)).journal = suspendSet s.journal := by
    simp only [suspendSet, dayHanded_contexts, partCommitted_contexts]
  rw [listLength_eq s bk, ← hsuspend] at h
  rw [commitPart_of_switching entry hphase hclosing]
  simp only [switchCommitted, if_pos hkind, handOver_eq, dayHanded_setDay, hday, State.setDay_journal, hrunning, hnumber,
    hother]
  exact if_neg (Nat.not_le.mpr h)

theorem commitPart_of_last {s : State} {o : PartOrder} {bk : Bank} (entry : Line) (hphase : s.day.phase = .switching)
    (hclosing : s.day.closingBank = some bk) (hkind : o.kind ≠ .dayClose) (h : s.day.progress + 1 = listLength s) :
    commitPart o entry s = finishSwitch bk ((partCommitted o entry s).setDay
      { (partCommitted o entry s).day with progress := s.day.progress + 1 }) := by
  have hday := partCommitted_day o entry s
  rw [commitPart_of_switching entry hphase hclosing,
    switchCommitted_of_last hkind (by rw [listLength_partCommitted, hday]; exact h), hday]

/-- R176: the last entry ends the switch under CARRY. -/
theorem commitPart_of_last_carry {s : State} {o : PartOrder} {bk : Bank} (entry : Line) (hphase : s.day.phase = .switching)
    (hclosing : s.day.closingBank = some bk) (hkind : o.kind ≠ .dayClose) (h : s.day.progress + 1 = listLength s)
    (hcarry : s.day.carry = .carry) :
    let done := partCommitted o entry s
    commitPart o entry s = reported (.dayClosed bk bk.other (getBank done.journal bk.other).dayNumber
      (getBank done.journal bk.other).cursor (openTills s).length .carry) (done.setDay (switchOver done.day)) := by
  have hday := partCommitted_day o entry s
  have htills : openTills (partCommitted o entry s) = openTills s := by simp only [openTills, partCommitted_contexts]
  have hmode : (partCommitted o entry s).day.carry = .carry := by rw [hday]; exact hcarry
  rw [commitPart_of_last entry hphase hclosing hkind h, ← htills]
  exact finishSwitch_of_carry (s := (partCommitted o entry s).setDay _) bk hmode

/-- R176: the last entry ends the switch under DROP. -/
theorem commitPart_of_last_drop {s : State} {o : PartOrder} {bk : Bank} (entry : Line) (hphase : s.day.phase = .switching)
    (hclosing : s.day.closingBank = some bk) (hkind : o.kind ≠ .dayClose) (h : s.day.progress + 1 = listLength s)
    (hdrop : s.day.carry = .drop) :
    let done := partCommitted o entry s
    ∃ contexts kept : Vector TillContext 32,
      commitPart o entry s = reported (.dayClosed bk bk.other (getBank done.journal bk.other).dayNumber
          (getBank done.journal bk.other).cursor (openTills s).length .drop)
        (((done.setJournal { done.journal with contexts := contexts }).setRetained
          { done.retained with contexts := kept }).setDay (switchOver done.day)) ∧
      ∀ x : Fin 32,
        (s.journal.contexts[x].state = .inTxn → contexts[x] = clearContext s.journal.contexts[x] ∧ kept[x] = contexts[x]) ∧
        (s.journal.contexts[x].state = .idle →
          contexts[x] = s.journal.contexts[x] ∧ kept[x] = s.retained.contexts[x]) := by
  have hday := partCommitted_day o entry s
  have htills : openTills (partCommitted o entry s) = openTills s := by simp only [openTills, partCommitted_contexts]
  have hmode : (partCommitted o entry s).day.carry = .drop := by rw [hday]; exact hdrop
  rw [← htills, ← partCommitted_contexts o entry s, ← partCommitted_retained_contexts o entry s,
    commitPart_of_last entry hphase hclosing hkind h]
  exact finishSwitch_of_drop (s := (partCommitted o entry s).setDay _) bk hmode

/-- Contexts that are kept may be written again. -/
theorem setDay_eq_contexts_kept {s : State} {contexts kept : Vector TillContext 32} (hc : s.journal.contexts = contexts)
    (hk : s.retained.contexts = kept) (d : DayState) :
    s.setDay d = ((s.setJournal { s.journal with contexts := contexts }).setRetained
      { s.retained with contexts := kept }).setDay d := by
  subst hc hk
  rfl

/-- Settles O53: the entry commits, then the Day Controller takes it by the order's kind and the switch progress. -/
theorem partWriteCommitsAndSwitchAdvances : Obligations.PartWriteCommitsAndSwitchAdvances := by
  unfold Obligations.PartWriteCommitsAndSwitchAdvances
  intro s a o entry ha hw
  have hexec : exec .partWriteCommit s =
      .next (commitPart o entry (releaseSlot .journalEngine (storeAccess false a s))) :=
    congrArg Host.Outcome.next (completePartWrite_eq ha hw false)
  let stored : State := { s with
    mem := { freedSlot .journalEngine s.mem with dram := Memory.writeLine s.mem.dram a.addr a.mask a.data } }
  rw [hexec]
  refine ⟨fun hphase hkind => congrArg _ (commitPart_of_dayOpen entry hphase hkind),
    fun bk hphase hclosing hkind h => congrArg _ (commitPart_of_more entry hphase hclosing hkind h),
    fun bk hphase hclosing ho h => ?handed, fun bk hphase hclosing hkind h => ⟨fun hcarry => ?carry, fun hdrop => ?drop⟩⟩
  case handed =>
    subst ho
    exact congrArg _ (commitPart_of_dayClose (s := stored) entry hphase hclosing h)
  case carry =>
    rw [hcarry]
    exact congrArg _ ((commitPart_of_last_carry (s := stored) entry hphase hclosing hkind h hcarry).trans
      (congrArg _ (setDay_eq_contexts_kept (partCommitted_contexts o entry stored)
        (partCommitted_retained_contexts o entry stored) _)))
  case drop =>
    rw [hdrop]
    obtain ⟨contexts, kept, hcommit, hpoint⟩ := commitPart_of_last_drop (s := stored) entry hphase hclosing hkind h hdrop
    exact ⟨contexts, kept, congrArg _ hcommit, hpoint⟩

end Sys2Proof.Machine
end

section
/-! PROOFS. Watch entries that change in place, acknowledgements and zone timeouts (R124, R144, R145, R148). -/

namespace Sys2Proof.Machine

open Sys2Proof Sys2Proof.Safety

/-! ### One entry of the watch table (R123) -/

theorem entry_unique {s : State} (hd : ItemsDistinct s) {x e : WatchEntry} (hx : x ∈ s.price.table) (he : e ∈ s.price.table)
    (h : x.item = e.item) : x = e := List.inj_on_of_nodup_map hd hx he h

theorem mem_of_findEntry {s : State} {item : Nat} {e : WatchEntry} (h : findEntry s item = some e) : e ∈ s.price.table :=
  List.mem_of_find?_eq_some h

theorem findEntry_of_mem {s : State} (hd : ItemsDistinct s) {e : WatchEntry} (h : e ∈ s.price.table) :
    findEntry s e.item = some e := by
  cases hfind : findEntry s e.item with
  | none => exact absurd rfl (findEntry_eq_none_iff.mp hfind e h)
  | some x => rw [entry_unique hd (mem_of_findEntry hfind) h (findEntry_item hfind)]

/-- A table with distinct items has one entry to change for an item. -/
theorem updateEntry_eq {s : State} {item : Nat} {e : WatchEntry} (hd : ItemsDistinct s) (h : findEntry s item = some e)
    {f : WatchEntry → WatchEntry} (hf : (f e).item = e.item) : updateEntry item f s = entryPut (f e) s := by
  have hitem := findEntry_item h
  have htable : s.price.table.map (fun x => if x.item = item then f x else x) =
      s.price.table.map (fun x => if x.item = (f e).item then f e else x) := List.map_congr_left fun x hx => by
    rw [hf, hitem]
    by_cases hxi : x.item = item
    · rw [if_pos hxi, if_pos hxi, entry_unique hd hx (mem_of_findEntry h) (hxi.trans hitem.symm)]
    · rw [if_neg hxi, if_neg hxi]
  simp only [updateEntry, htable]
  rfl

theorem itemsDistinct_entryPut {s : State} (e : WatchEntry) (h : ItemsDistinct s) : ItemsDistinct (entryPut e s) := by
  have hitems : (s.price.table.map (fun x => if x.item = e.item then e else x)).map (fun x => x.item) =
      s.price.table.map (fun x => x.item) := by
    rw [List.map_map]
    refine List.map_congr_left fun x _ => ?_
    by_cases hx : x.item = e.item <;> simp [hx]
  exact (congrArg List.Nodup hitems).mpr h

theorem find?_map_of_pred {α : Type} {p : α → Bool} {f : α → α} (h : ∀ x, p (f x) = p x) (xs : List α) :
    (xs.map f).find? p = (xs.find? p).map f := by
  have hp : (p ∘ f) = p := funext h
  rw [List.find?_map, hp]

theorem findEntry_entryPut {s : State} (e : WatchEntry) (item : Nat) : findEntry (entryPut e s) item =
    (findEntry s item).map (fun x => if x.item = e.item then e else x) := by
  refine find?_map_of_pred (fun x => ?_) _
  by_cases hx : x.item = e.item <;> simp [hx]

theorem findEntry_entryPut_same {s : State} {item : Nat} {e x : WatchEntry} (h : findEntry s item = some x)
    (hitem : e.item = item) : findEntry (entryPut e s) item = some e := by
  rw [findEntry_entryPut, h, Option.map_some, if_pos ((findEntry_item h).trans hitem.symm)]

theorem findEntry_entryPut_other {s : State} {item : Nat} {e : WatchEntry} (h : item ≠ e.item) :
    findEntry (entryPut e s) item = findEntry s item := by
  rw [findEntry_entryPut]
  cases hfind : findEntry s item with
  | none => rfl
  | some x => rw [Option.map_some, if_neg fun hx => h ((findEntry_item hfind).symm.trans hx)]

theorem entryPut_entryPut {s : State} {e e' : WatchEntry} (h : e.item = e'.item) :
    entryPut e' (entryPut e s) = entryPut e' s := by
  have htable : (s.price.table.map (fun x => if x.item = e.item then e else x)).map
      (fun x => if x.item = e'.item then e' else x) = s.price.table.map (fun x => if x.item = e'.item then e' else x) := by
    rw [List.map_map]
    refine List.map_congr_left fun x _ => ?_
    by_cases hx : x.item = e'.item <;> simp [hx, h]
  simp only [entryPut, htable]

/-! ### Reports and other parts of the state -/

/-- Reports that arise in order. -/
def reportAll (bs : List ReportBody) (s : State) : State := bs.foldl (fun x b => reported b x) s

theorem reportAll_setPrice (bs : List ReportBody) (s : State) (p : PriceState) :
    reportAll bs (s.setPrice p) = (reportAll bs s).setPrice p := by
  induction bs generalizing s with
  | nil => rfl
  | cons b bs ih => exact (congrArg (reportAll bs) (reported_setPrice b s p)).trans (ih (reported b s))

theorem reportAll_setLabel (bs : List ReportBody) (s : State) (l : LabelState) :
    reportAll bs (s.setLabel l) = (reportAll bs s).setLabel l := by
  induction bs generalizing s with
  | nil => rfl
  | cons b bs ih => exact (congrArg (reportAll bs) (reported_setLabel b s l)).trans (ih (reported b s))

theorem reportAll_reportAll (bs cs : List ReportBody) (s : State) : reportAll cs (reportAll bs s) = reportAll (bs ++ cs) s :=
  List.foldl_append.symm

@[simp] theorem reportAll_price (bs : List ReportBody) (s : State) : (reportAll bs s).price = s.price := by
  induction bs generalizing s with
  | nil => rfl
  | cons b bs ih => exact (ih (reported b s)).trans (reported_price b s)

@[simp] theorem reportAll_label (bs : List ReportBody) (s : State) : (reportAll bs s).label = s.label := by
  induction bs generalizing s with
  | nil => rfl
  | cons b bs ih => exact (ih (reported b s)).trans (reported_label b s)

/-! ### Acknowledgements (R124, R148) -/

theorem facingSet_getLsbD (n : Fin 16) {k : Nat} (hk : k < 16) : (facingSet n).getLsbD k = decide (k < n.val) := by
  rw [facingSet, BitVec.getLsbD_ofNat, Nat.testBit_two_pow_sub_one, decide_eq_true hk, Bool.true_and]

/-- R124: the acknowledged set holds every facing index below the facings count. -/
theorem allAcked_iff (e : WatchEntry) : allAcked e = true ↔ FullyAcked e.acked e.facings := by
  simp only [allAcked, decide_eq_true_eq]
  constructor
  · intro h k hk
    have hbit := congrArg (fun b => b.getLsbD k) h
    simpa [facingSet_getLsbD e.facings (by omega : k < 16), hk] using hbit
  · intro h
    refine BitVec.eq_of_getLsbD_eq fun k hk => ?_
    rw [BitVec.getLsbD_and, facingSet_getLsbD _ hk]
    by_cases hlt : k < e.facings.val <;> simp [hlt, h k]

theorem ackTaken_iff {a : AckFields} {e : WatchEntry} : ackTaken a e = true ↔ Acknowledges a e := by
  simp only [ackTaken, Acknowledges, Bool.and_eq_true, Bool.or_eq_true, decide_eq_true_eq, and_assoc]

theorem takeAck_of_ignored {a : AckFields} {s : State} (h : ∀ e ∈ s.price.table, e.item = a.item → ¬Acknowledges a e) :
    takeAck a s = s := by
  unfold takeAck
  cases hfind : findEntry s a.item with
  | none => rfl
  | some e => exact if_neg fun hack => h e (mem_of_findEntry hfind) (findEntry_item hfind) (ackTaken_iff.mp hack)

/-- The entry after an acknowledgement of a facing (R148). -/
def ackedEntry (a : AckFields) (e : WatchEntry) : WatchEntry := { e with acked := e.acked ||| BitVec.ofNat 16 (2 ^ a.facing) }

theorem takeAck_of_acknowledged {a : AckFields} {s : State} {e : WatchEntry} (hd : ItemsDistinct s)
    (h : findEntry s a.item = some e) (hack : Acknowledges a e) : takeAck a s =
      if allAcked (ackedEntry a e) then becomeShown a.item (entryPut (ackedEntry a e) s)
      else entryPut (ackedEntry a e) s := by
  have hput : updateEntry a.item (fun e => { e with acked := e.acked ||| BitVec.ofNat 16 (2 ^ a.facing) }) s =
      entryPut (ackedEntry a e) s := updateEntry_eq (f := ackedEntry a) hd h rfl
  have hfind : findEntry (entryPut (ackedEntry a e) s) a.item = some (ackedEntry a e) :=
    findEntry_entryPut_same h (findEntry_item h :)
  simp only [takeAck, h, if_pos (ackTaken_iff.mpr hack), hput, hfind]

/-- The entry that has become SHOWN (R124). -/
def shownEntry (e : WatchEntry) : WatchEntry := { e with state := .shown, epochSeen := false }

/-- R124: an entry becomes SHOWN, is reported, and leaves a visit that awaits it. -/
theorem becomeShown_eq {s : State} {item : Nat} {e : WatchEntry} (hd : ItemsDistinct s) (h : findEntry s item = some e) :
    becomeShown item s =
      leaveAwaited item true (reported (.priceShown e.item e.newPrice e.zone e.attempts) (entryPut (shownEntry e) s)) := by
  have hput : updateEntry item (fun e => { e with state := .shown, epochSeen := false }) s = entryPut (shownEntry e) s :=
    updateEntry_eq (f := shownEntry) hd h rfl
  have hfind : findEntry (entryPut (shownEntry e) s) item = some (shownEntry e) :=
    findEntry_entryPut_same h (findEntry_item h :)
  simp only [becomeShown, hput, hfind, arise_eq_reported]
  rfl

/-- R124, R148: the last facing makes the entry SHOWN. -/
theorem takeAck_of_full {a : AckFields} {s : State} {e : WatchEntry} (hd : ItemsDistinct s)
    (h : findEntry s a.item = some e) (hack : Acknowledges a e) (hfull : FullyAcked (ackedEntry a e).acked e.facings) :
    takeAck a s = leaveAwaited e.item true (reported (.priceShown e.item e.newPrice e.zone e.attempts)
      (entryPut (shownEntry (ackedEntry a e)) s)) := by
  have hitem : a.item = e.item := (findEntry_item h).symm
  rw [takeAck_of_acknowledged hd h hack, if_pos ((allAcked_iff (ackedEntry a e)).mpr hfull),
    becomeShown_eq (itemsDistinct_entryPut _ hd) (findEntry_entryPut_same (e := ackedEntry a e) h (findEntry_item h :)),
    entryPut_entryPut (e := ackedEntry a e) (e' := shownEntry (ackedEntry a e)) rfl, hitem]
  rfl

theorem exec_acknowledgement {s : State} {t : Fin 64} {k : Nat} {l : ReqLine} (h : AtTurn s t k l .ack) {u : State}
    (hu : ∀ x, takeAck (readAck l.data) (s.setLink x) = u.setLink x) :
    ∃ s', exec (.acknowledgement t) s = .next s' ∧ RecordPasses t k l u s' := by
  obtain ⟨r, hr⟩ := h
  have hexec : exec (.acknowledgement t) s = .next (passTurn t k (takeAck (readAck l.data) (activate t s))) := by
    show execAcknowledgement t s = _
    simp only [execAcknowledgement, hr]
  have hack : takeAck (readAck l.data) (activate t s) = u.setLink (activate t s).link := hu _
  refine ⟨_, hexec, ?_⟩
  rw [hack]
  exact RecordPasses.of_setLink (passTurn_recordPasses hr rfl (notGuest_of_atTurn hr))

/-! ### The zone timeout (R145) -/

/-- R145: what the timeout makes of an awaited entry, with an attempt limit. -/
def timedOutEntry (limit : Nat) (e : WatchEntry) : WatchEntry := { e with
  state := if decide (limit ≤ e.attempts) = true then .failed else .staged }

/-- R145: the report of an entry that fails. -/
def failureReport (e : WatchEntry) : ReportBody := .priceFailed e.item e.newPrice e.zone e.attempts (ackedCount e.acked)

theorem timeOutItem_eq {s : State} {e : WatchEntry} (hd : ItemsDistinct s) (h : findEntry s e.item = some e) :
    timeOutItem s e.item =
      reportAll (if s.label.settings.limit ≤ e.attempts then [failureReport e] else [])
        ((entryPut (timedOutEntry s.label.settings.limit e) s).setLabel { s.label with timedOut := s.label.timedOut + 1 }) := by
  have hupdate : ∀ st : WatchState, updateEntry e.item (fun x => { x with state := st })
      (s.setLabel { s.label with timedOut := s.label.timedOut + 1 }) =
        (entryPut { e with state := st } s).setLabel { s.label with timedOut := s.label.timedOut + 1 } := fun st =>
    updateEntry_eq (s := s.setLabel { s.label with timedOut := s.label.timedOut + 1 })
      (f := fun x => { x with state := st }) hd h rfl
  simp only [timeOutItem, h, State.setLabel_label, hupdate]
  by_cases hlimit : s.label.settings.limit ≤ e.attempts
  · simp only [timedOutEntry, decide_eq_true hlimit, if_pos hlimit, if_true]
    rfl
  · simp only [timedOutEntry, decide_eq_false hlimit, if_neg hlimit, Bool.false_eq_true, if_false]
    rfl

/-- R145: awaited entries time out one after the other. -/
theorem foldl_timeOutItem (es : List WatchEntry) {s : State} (hd : ItemsDistinct s)
    (hes : ∀ e ∈ es, findEntry s e.item = some e) (hnodup : (es.map (fun e => e.item)).Nodup) :
    (es.map (fun e => e.item)).foldl timeOutItem s =
      reportAll ((es.filter (fun e => decide (s.label.settings.limit ≤ e.attempts))).map failureReport)
        ((s.setPrice { s.price with table := s.price.table.map (fun x =>
            if x.item ∈ es.map (fun e => e.item) then timedOutEntry s.label.settings.limit x else x) }).setLabel
          { s.label with timedOut := s.label.timedOut + es.length }) := by
  induction es generalizing s with
  | nil => simp [reportAll, State.setPrice, State.setLabel]
  | cons e es ih =>
    rw [List.map_cons, List.nodup_cons] at hnodup
    obtain ⟨hfresh, hrest⟩ := hnodup
    have hfind : findEntry s e.item = some e := hes e List.mem_cons_self
    have hother : ∀ x ∈ es, x.item ≠ e.item := fun x hx heq => hfresh (heq ▸ List.mem_map_of_mem hx)
    generalize hlimit : s.label.settings.limit = limit
    generalize hput : entryPut (timedOutEntry limit e) s = put
    have hdput : ItemsDistinct put := hput ▸ itemsDistinct_entryPut _ hd
    have hfindput : ∀ x ∈ es, findEntry put x.item = some x := fun x hx => by
      rw [← hput, findEntry_entryPut_other (e := timedOutEntry limit e) (hother x hx)]
      exact hes x (List.mem_cons_of_mem e hx)
    have hlabel : put.label = s.label := hput ▸ rfl
    have htable : put.price.table.map (fun x => if x.item ∈ es.map (fun e => e.item) then timedOutEntry limit x else x) =
        s.price.table.map (fun x => if x.item ∈ (e :: es).map (fun e => e.item) then timedOutEntry limit x else x) := by
      rw [← hput]
      show (s.price.table.map _).map _ = _
      rw [List.map_map]
      refine List.map_congr_left fun x hx => ?_
      by_cases hxe : x.item = e.item
      · have hx : x = e := entry_unique hd hx (mem_of_findEntry hfind) hxe
        subst hx
        simp [timedOutEntry, hfresh]
      · simp [timedOutEntry, hxe]
    have hreports : (if limit ≤ e.attempts then [failureReport e] else []) ++
        (es.filter (fun e => decide (limit ≤ e.attempts))).map failureReport =
          ((e :: es).filter (fun e => decide (limit ≤ e.attempts))).map failureReport := by
      by_cases h : limit ≤ e.attempts <;> simp [h]
    rw [List.map_cons, List.foldl_cons, timeOutItem_eq hd hfind, hlimit, hput]
    generalize hx : put.setLabel { s.label with timedOut := s.label.timedOut + 1 } = x
    have hxp : x.price = put.price := hx ▸ rfl
    have hxl : x.label = { s.label with timedOut := s.label.timedOut + 1 } := hx ▸ rfl
    rw [ih (s := reportAll _ x) (by rw [ItemsDistinct, reportAll_price, hxp]; exact hdput)
      (fun y hy => by rw [findEntry, reportAll_price, hxp]; exact hfindput y hy) hrest]
    simp only [reportAll_price, reportAll_label, ← reportAll_setPrice, ← reportAll_setLabel, reportAll_reportAll]
    rw [hxl, hxp]
    simp only [hlimit, hreports, htable]
    rw [← hx, ← hput]
    simp only [List.length_cons, Nat.add_assoc, Nat.add_comm 1]
    rfl

/-- R145: the awaited entries. -/
theorem awaitedInOrder_eq (s : State) : awaitedInOrder s =
    (s.price.table.filter (fun e => decide (e.item ∈ s.label.awaited))).map (fun e => e.item) := by
  simp only [awaitedInOrder, List.contains_eq_mem]

theorem ackedCount_eq (b : BitVec 16) : ackedCount b = ((List.range 16).filter (fun k => b.getLsbD k)).length := by
  have hrange : List.range 16 = sixteen.map (fun i => i.val) := by decide
  rw [hrange, List.filter_map, List.length_map]
  rfl

/-- R145: at the timeout every awaited entry leaves SENDING, and the visit ends. -/
theorem expireVisit_eq {s : State} {z : Fin 16} (hd : ItemsDistinct s) (hzone : s.label.zone = some z)
    (hwaiting : s.label.zones[z] = .waiting) :
    let awaited := s.price.table.filter (fun e => decide (e.item ∈ s.label.awaited))
    expireVisit s = endVisit (reported
      (.zoneDone s.label.number z s.label.sent s.label.shown (s.label.timedOut + awaited.length))
      ((awaited.filter (fun e => decide (s.label.settings.limit ≤ e.attempts))).foldl (fun x e => reported
          (.priceFailed e.item e.newPrice e.zone e.attempts ((List.range 16).filter (fun k => e.acked.getLsbD k)).length) x)
        ((s.setPrice { s.price with table := s.price.table.map (fun e =>
            if e.item ∈ s.label.awaited then timedOutEntry s.label.settings.limit e else e) }).setLabel
          { s.label with awaited := [], timedOut := s.label.timedOut + awaited.length }))) := by
  intro awaited
  have hfold : ∀ (es : List WatchEntry) (u : State), es.foldl (fun x e => reported
      (.priceFailed e.item e.newPrice e.zone e.attempts ((List.range 16).filter (fun k => e.acked.getLsbD k)).length) x) u =
        reportAll (es.map failureReport) u := fun es u => by
    simp only [reportAll, List.foldl_map, failureReport, ackedCount_eq]
  have htable : s.price.table.map (fun x =>
      if x.item ∈ awaited.map (fun e => e.item) then timedOutEntry s.label.settings.limit x else x) =
        s.price.table.map (fun e => if e.item ∈ s.label.awaited then timedOutEntry s.label.settings.limit e else e) := by
    refine List.map_congr_left fun x hx => if_congr ?_ rfl rfl
    constructor
    · intro h
      obtain ⟨e, he, heq⟩ := List.mem_map.mp h
      exact heq ▸ of_decide_eq_true (List.mem_filter.mp he).2
    · exact fun h => List.mem_map.mpr ⟨x, List.mem_filter.mpr ⟨hx, decide_eq_true h⟩, rfl⟩
  have hnodup : (awaited.map (fun e => e.item)).Nodup := hd.sublist (List.filter_sublist.map _)
  have hes : ∀ e ∈ awaited, findEntry s e.item = some e := fun e he => findEntry_of_mem hd (List.mem_of_mem_filter he)
  unfold expireVisit
  dsimp only
  rw [awaitedInOrder_eq, foldl_timeOutItem awaited hd hes hnodup, htable, hfold]
  simp only [reportAll_label, ← reportAll_setLabel]
  rw [visitDone_of_done (z := z) (by rw [reportAll_label]; exact hzone)
    (zoneWaiting_iff.mpr ⟨z, by rw [reportAll_label]; exact hzone, by rw [reportAll_label]; exact hwaiting⟩)
    (by rw [reportAll_label]; rfl)]
  simp only [reportAll_label]
  rfl

/-- Settles O57: acknowledgements, departures from a visit, a stopped round and the timeout. -/
theorem acknowledgementsAndTimeoutsMoveEntries : Obligations.AcknowledgementsAndTimeoutsMoveEntries := by
  unfold Obligations.AcknowledgementsAndTimeoutsMoveEntries
  refine ⟨fun s t k l hl => ⟨fun hnone => ?ignored, fun e he hack hd => ⟨fun hpart => ?part, fun hfull => ?full⟩⟩,
    fun s item b hmem => ⟨fun hleft => ?more, fun z honly hzone hwaiting => ?last⟩, fun s z hzone hstopping => ?stopped,
    fun s hnot => congrArg _ (zoneTimeout_of_not_made hnot), fun s z hzone hwaiting htimeout hd => ?expired⟩
  case ignored => exact exec_acknowledgement hl fun x => takeAck_of_ignored (s := s.setLink x) hnone
  case part =>
    refine exec_acknowledgement hl fun x => (takeAck_of_acknowledged (s := s.setLink x) hd he hack).trans ?_
    rw [if_neg fun h => hpart ((allAcked_iff _).mp h)]
    rfl
  case full =>
    refine exec_acknowledgement hl fun x => (takeAck_of_full (s := s.setLink x) hd he hack hfull).trans ?_
    rw [← leaveAwaited_setLink, ← reported_setLink]
    rfl
  case more =>
    obtain ⟨i, hi, hne⟩ := hleft
    refine (leaveAwaited_of_mem hmem).trans (visitDone_of_not_done fun h => ?_)
    have hin : i ∈ s.label.awaited.filter (fun i => decide (i ≠ item)) := List.mem_filter.mpr ⟨hi, decide_eq_true hne⟩
    exact List.ne_nil_of_mem hin h.2
  case last =>
    refine (leaveAwaited_of_mem hmem).trans (visitDone_of_done (z := z) hzone (zoneWaiting_iff.mpr ⟨z, hzone, hwaiting⟩) ?_)
    exact List.filter_eq_nil_iff.mpr fun i hi => by simpa using honly i hi
  case stopped =>
    simp only [endVisit, hzone]
    rw [if_pos (show (closeVisit z s).label.round = .stopping from hstopping)]
    have hclose : closeVisit z s =
        s.setLabel { s.label with zones := vput s.label.zones z .done, visited := s.label.visited + 1 } := rfl
    simp only [endRound, arise_eq_reported, hclose, reported_setLabel]
    rfl
  case expired => exact congrArg _ ((if_pos (visitExpired_iff.mpr ⟨z, hzone, hwaiting, htimeout⟩)).trans
      (expireVisit_eq hd hzone hwaiting))

end Sys2Proof.Machine
end

section
/-! PROOFS. Work records: their layout, the walk over a visit list, and their completion (R142, R143, R146, R149). -/

namespace Sys2Proof.Machine

open Sys2Proof Sys2Proof.Safety

/-! ### The layout of a work record (section 12.3) -/

theorem totalWidth_workItems (items : List (Nat × Nat × Nat)) : totalWidth (workItems items) = 8 * items.length := by
  induction items with
  | nil => rfl
  | cons x items ih =>
    obtain ⟨item, price, facings⟩ := x
    simp only [totalWidth, workItems, List.map_cons, List.sum_cons, List.length_cons] at ih ⊢
    omega

/-- The item slots follow one another, eight bytes each. -/
theorem laidOut_workItems (items : List (Nat × Nat × Nat)) (k : Nat) : laidOut (16 + 8 * k) (workItems items) =
    (items.zipIdx k).flatMap (fun x =>
      [(16 + 8 * x.2, 4, x.1.1), (20 + 8 * x.2, 3, x.1.2.1), (23 + 8 * x.2, 1, x.1.2.2)]) := by
  induction items generalizing k with
  | nil => rfl
  | cons x items ih =>
    obtain ⟨item, price, facings⟩ := x
    have hprice : 16 + 8 * k + 4 = 20 + 8 * k := by omega
    have hfacings : 20 + 8 * k + 3 = 23 + 8 * k := by omega
    have hnext : 23 + 8 * k + 1 = 16 + 8 * (k + 1) := by omega
    simp only [workItems, laidOut, List.zipIdx_cons, List.flatMap_cons, hprice, hfacings, hnext, ih, List.cons_append,
      List.nil_append]

theorem workLine_holds (phase : Bool) (round : Nat) (zone : Fin 16) (recordNo : Nat) {items : List (Nat × Nat × Nat)}
    (h : items.length ≤ 6) :
    HoldsFields (workLine phase round zone recordNo items) (workFields phase round zone recordNo items) := by
  have hwidth := totalWidth_workItems items
  have hpacked : HoldsFields (workLine phase round zone recordNo items) _ := holdsFields_packLine (by
    simp only [totalWidth, List.map_cons, List.sum_cons] at hwidth ⊢
    omega)
  have hitems := laidOut_workItems items 0
  have hlaid : laidOut 0 ((1, boolCode phase) :: (1, round) :: (1, zone.val) :: (1, recordNo) :: (1, items.length) ::
      (11, 0) :: workItems items) =
        [(0, 1, marker phase), (1, 1, round), (2, 1, zone.val), (3, 1, recordNo), (4, 1, items.length)] ++ (5, 11, 0) ::
          items.zipIdx.flatMap (fun x =>
            [(16 + 8 * x.2, 4, x.1.1), (20 + 8 * x.2, 3, x.1.2.1), (23 + 8 * x.2, 1, x.1.2.2)]) := by
    rw [← hitems]
    rfl
  rw [hlaid] at hpacked
  refine HoldsFields.of_zeros hpacked (fun g hg => ?_) (fun f hf => ?_)
  · exact List.mem_append.mpr ((List.mem_append.mp hg).imp_right (List.mem_cons_of_mem _))
  · rcases List.mem_append.mp hf with hf | hf
    · exact .inl (List.mem_append.mpr (.inl hf))
    · rcases List.mem_cons.mp hf with rfl | hf
      · exact .inr rfl
      · exact .inl (List.mem_append.mpr (.inr hf))

/-! ### The walk (R142) -/

/-- What a record carries for an entry. -/
def recordItem (e : WatchEntry) : Nat × Nat × Nat := (e.item, e.newPrice, e.facings.val)

theorem currentItem_of_entry {s : State} {z : Fin 16} {item : Nat} {e : WatchEntry} (h : findEntry s item = some e)
    (hstate : e.state = .staged) (hzone : e.zone = z) (hexit : e.exit = .none) (hfacings : e.facings ≠ 0) :
    currentItem s z item = some (recordItem e) := by
  have hpos : 1 ≤ e.facings.val := by
    have := Fin.val_ne_of_ne hfacings
    simp only [Fin.val_zero] at this
    omega
  simp only [currentItem, h, if_pos (⟨hstate, hzone, hexit, hpos⟩ : _ ∧ _ ∧ _ ∧ _)]
  rfl

/-- R142: a walk over unwritten items that are all current takes the first of them. -/
theorem walk_of_current {s : State} {z : Fin 16} {es : List WatchEntry} (room : Nat)
    (h : ∀ e ∈ es, currentItem s z e.item = some (recordItem e)) : walk z (es.map (fun e => ⟨e.item, false⟩)) room s =
      ((es.take room).map (fun e => ⟨e.item, true⟩) ++ (es.drop room).map (fun e => ⟨e.item, false⟩),
        (es.take room).map recordItem, s) := by
  induction es generalizing room with
  | nil => simp [walk]
  | cons e es ih =>
    cases room with
    | zero => simp [walk]
    | succ room =>
      simp [walk, h e List.mem_cons_self, ih room fun x hx => h x (List.mem_cons_of_mem e hx)]

/-- R142: the walk with room for `room` items reaches position `j` of a list. -/
def reachesAt (cur : VisitItem → Bool) (l : List VisitItem) (room j : Nat) : Bool :=
  decide (((l.take j).filter cur).length < room)

/-- The list with what the walk reaches marked written. -/
def walkedList (cur : VisitItem → Bool) (l : List VisitItem) (room : Nat) : List VisitItem :=
  l.zipIdx.map (fun x => { x.1 with written := x.1.written || reachesAt cur l room x.2 })

/-- The entries that the walk makes SHOWN. -/
def walkedShows (cur : VisitItem → Bool) (ent : VisitItem → Option WatchEntry) (l : List VisitItem) (room : Nat) :
    List WatchEntry :=
  ((l.zipIdx.filter (fun x => !x.1.written && reachesAt cur l room x.2)).filterMap (fun x => ent x.1)).filter
    (fun e => decide (e.state = .staged ∧ e.facings = 0))

/-- The room that is left after an item. -/
def roomAfter (cur : VisitItem → Bool) (v : VisitItem) (room : Nat) : Nat := if cur v then room - 1 else room

theorem reachesAt_succ (cur : VisitItem → Bool) (v : VisitItem) (l : List VisitItem) (room j : Nat) :
    reachesAt cur (v :: l) room (j + 1) = reachesAt cur l (roomAfter cur v room) j := by
  by_cases h : cur v = true
  · simp only [reachesAt, roomAfter, List.take_succ_cons, List.filter_cons_of_pos h, List.length_cons, h, if_true,
      decide_eq_decide]
    omega
  · simp only [reachesAt, roomAfter, List.take_succ_cons, List.filter_cons_of_neg h, if_neg h]

theorem walkedList_cons (cur : VisitItem → Bool) (v : VisitItem) (l : List VisitItem) (room : Nat) :
    walkedList cur (v :: l) room =
      { v with written := v.written || decide (0 < room) } :: walkedList cur l (roomAfter cur v room) := by
  simp only [walkedList, List.zipIdx_cons, List.zipIdx_succ, List.map_cons, List.map_map]
  refine congrArg₂ _ rfl (List.map_congr_left fun x _ => ?_)
  simp only [Function.comp_apply, reachesAt_succ]

theorem walkedShows_cons (cur : VisitItem → Bool) (ent : VisitItem → Option WatchEntry) (v : VisitItem)
    (l : List VisitItem) (room : Nat) : walkedShows cur ent (v :: l) room =
      ((if !v.written && decide (0 < room) then (ent v).toList else []).filter
        (fun e => decide (e.state = .staged ∧ e.facings = 0))) ++ walkedShows cur ent l (roomAfter cur v room) := by
  have hrest : ((l.zipIdx 1).filter (fun x => !x.1.written && reachesAt cur (v :: l) room x.2)).filterMap
      (fun x => ent x.1) = (l.zipIdx.filter (fun x => !x.1.written && reachesAt cur l (roomAfter cur v room) x.2)).filterMap
        (fun x => ent x.1) := by
    rw [List.zipIdx_succ, List.filter_map, List.filterMap_map]
    refine congrArg₂ _ rfl (List.filter_congr fun x _ => ?_)
    simp only [Function.comp_apply, reachesAt_succ]
  have hhead : reachesAt cur (v :: l) room 0 = decide (0 < room) := rfl
  simp only [walkedShows, List.zipIdx_cons, List.filter_cons, hhead, Nat.zero_add]
  rw [← hrest]
  by_cases h : (!v.written && decide (0 < room)) = true
  · rw [if_pos h, if_pos h, List.filterMap_cons]
    cases ent v with
    | none => rfl
    | some e => exact (List.filter_append (l₁ := [e]) ..)
  · rw [if_neg h, if_neg h, List.filter_nil, List.nil_append]

/-- R142: the entries that have become SHOWN on a walk, with their reports. -/
def walkedOut (es : List WatchEntry) (s : State) : State :=
  reportAll (es.map (fun e => .priceShown e.item e.newPrice e.zone e.attempts))
    (s.setPrice { s.price with table := s.price.table.map (fun e => if e ∈ es then shownEntry e else e) })

theorem walkedOut_nil (s : State) : walkedOut [] s = s := by
  simp [walkedOut, reportAll, State.setPrice]

/-- R142: the first entry that becomes SHOWN, and then the others. -/
theorem walkedOut_cons {s : State} {e : WatchEntry} {es : List WatchEntry} (hd : ItemsDistinct s) (he : e ∈ s.price.table)
    (hother : ∀ x ∈ es, x.item ≠ e.item) :
    walkedOut es (reported (.priceShown e.item e.newPrice e.zone e.attempts) (entryPut (shownEntry e) s)) =
      walkedOut (e :: es) s := by
  have htable : (entryPut (shownEntry e) s).price.table.map (fun x => if x ∈ es then shownEntry x else x) =
      s.price.table.map (fun x => if x ∈ e :: es then shownEntry x else x) := by
    show (s.price.table.map _).map _ = _
    rw [List.map_map]
    refine List.map_congr_left fun x hx => ?_
    by_cases hxe : x = e
    · have hout : shownEntry e ∉ es := fun h => hother _ h rfl
      subst hxe
      simp [show (shownEntry x).item = x.item from rfl, hout]
    · have hitem : x.item ≠ (shownEntry e).item := fun h => hxe (entry_unique hd hx he h)
      simp [hitem, hxe]
  rw [walkedOut, reported_price, htable, ← reported_setPrice]
  rfl

theorem reachesAt_zero (cur : VisitItem → Bool) (l : List VisitItem) (j : Nat) : reachesAt cur l 0 j = false := by
  simp [reachesAt]

/-- R142: with no room left the walk stops. -/
theorem walk_of_full (z : Fin 16) (l : List VisitItem) (s : State) : walk z l 0 s = (l, [], s) := by
  induction l with
  | nil => rfl
  | cons v l ih =>
    unfold walk
    rw [ih]
    split <;> rfl

/-- What the walk reads agrees with what stands in a state. -/
structure WalkReads (s : State) (z : Fin 16) (cur : VisitItem → Bool) (ent : VisitItem → Option WatchEntry)
    (l : List VisitItem) : Prop where
  current : ∀ v ∈ l, cur v = isCurrent s z v
  entry : ∀ v ∈ l, ent v = findEntry s v.item

/-- R142: an unwritten item is current exactly when the walk finds a record item for it. -/
theorem currentItem_iff {s : State} {z : Fin 16} {v : VisitItem} (hd : ItemsDistinct s) (hv : v.written = false) :
    isCurrent s z v = true ↔ ∃ e, findEntry s v.item = some e ∧ currentItem s z v.item = some (recordItem e) := by
  simp only [isCurrent, hv, Bool.not_false, Bool.true_and, List.any_eq_true, decide_eq_true_eq]
  constructor
  · rintro ⟨e, he, hitem, hstate, hzone, hexit, hfacings⟩
    have hfind : findEntry s v.item = some e := hitem ▸ findEntry_of_mem hd he
    exact ⟨e, hfind, currentItem_of_entry hfind hstate hzone hexit hfacings⟩
  · rintro ⟨e, hfind, hcurrent⟩
    simp only [currentItem, hfind] at hcurrent
    split at hcurrent
    · rename_i h
      obtain ⟨hstate, hzone, hexit, hfacings⟩ := h
      exact ⟨e, mem_of_findEntry hfind, findEntry_item hfind, hstate, hzone, hexit, fun h0 => by simp [h0] at hfacings⟩
    · simp at hcurrent

theorem currentItem_eq_none {s : State} {z : Fin 16} {item : Nat}
    (h : ¬∃ e, findEntry s item = some e ∧ currentItem s z item = some (recordItem e)) : currentItem s z item = none := by
  unfold currentItem at h ⊢
  cases hfind : findEntry s item with
  | none => rfl
  | some e =>
    refine if_neg fun hc => h ⟨e, hfind, ?_⟩
    simp only [hfind, if_pos hc]
    rfl

theorem mem_walkedShows {cur : VisitItem → Bool} {ent : VisitItem → Option WatchEntry} {l : List VisitItem} {room : Nat}
    {e : WatchEntry} (h : e ∈ walkedShows cur ent l room) : ∃ v ∈ l, ent v = some e := by
  obtain ⟨x, hx, he⟩ := List.mem_filterMap.mp (List.mem_of_mem_filter h)
  exact ⟨x.1, List.fst_mem_of_mem_zipIdx (List.mem_of_mem_filter hx), he⟩

theorem walk_of_written {z : Fin 16} {v : VisitItem} {l : List VisitItem} {room : Nat} {s : State} (h : v.written = true) :
    walk z (v :: l) room s = (v :: (walk z l room s).1, (walk z l room s).2.1, (walk z l room s).2.2) := by
  rw [walk.eq_def]
  exact if_pos h

theorem walk_of_taken {z : Fin 16} {v : VisitItem} {l : List VisitItem} {room : Nat} {s : State} {x : Nat × Nat × Nat}
    (h : v.written = false) (hx : currentItem s z v.item = some x) : walk z (v :: l) (room + 1) s =
      ({ v with written := true } :: (walk z l room s).1, x :: (walk z l room s).2.1, (walk z l room s).2.2) := by
  rw [walk, if_neg (by simp [h])]
  simp only [hx]

theorem walk_of_left_out {z : Fin 16} {v : VisitItem} {l : List VisitItem} {room : Nat} {s : State}
    (h : v.written = false) (hx : currentItem s z v.item = none) : walk z (v :: l) (room + 1) s =
      ({ v with written := true } :: (walk z l (room + 1) (leaveOut v.item s)).1,
        (walk z l (room + 1) (leaveOut v.item s)).2.1, (walk z l (room + 1) (leaveOut v.item s)).2.2) := by
  rw [walk, if_neg (by simp [h])]
  simp only [hx]

/-- What leaving an item out makes of the state: an entry that is STAGED with no facing is made SHOWN (R142). -/
theorem leaveOut_eq {s : State} {item : Nat} (hd : ItemsDistinct s) (ha : item ∉ s.label.awaited) :
    leaveOut item s = walkedOut ((findEntry s item).toList.filter (fun e => decide (e.state = .staged ∧ e.facings = 0))) s := by
  unfold leaveOut
  cases hfind : findEntry s item with
  | none => exact (walkedOut_nil s).symm
  | some e =>
    have hiff : (e.state = .staged ∧ e.facings.val = 0) ↔ e.state = .staged ∧ e.facings = 0 :=
      ⟨fun ⟨hstate, hzero⟩ => ⟨hstate, Fin.ext hzero⟩, fun ⟨hstate, hzero⟩ => ⟨hstate, congrArg Fin.val hzero⟩⟩
    by_cases h : e.state = .staged ∧ e.facings = 0
    · have hfilter : [e].filter (fun e => decide (e.state = .staged ∧ e.facings = 0)) = [e] := by simp [h]
      rw [Option.toList_some, hfilter, ← walkedOut_cons hd (mem_of_findEntry hfind) (by simp), walkedOut_nil]
      simp only [if_pos (hiff.mpr h)]
      rw [becomeShown_eq hd hfind, leaveAwaited_of_not_mem (by rw [reported_label]; exact ha)]
    · have hfilter : [e].filter (fun e => decide (e.state = .staged ∧ e.facings = 0)) = [] := by simp [h]
      rw [Option.toList_some, hfilter, walkedOut_nil]
      exact if_neg fun hc => h (hiff.mp hc)

theorem walkedOut_price (es : List WatchEntry) (s : State) : (walkedOut es s).price =
    { s.price with table := s.price.table.map (fun e => if e ∈ es then shownEntry e else e) } := reportAll_price _ _

@[simp] theorem walkedOut_label (es : List WatchEntry) (s : State) : (walkedOut es s).label = s.label := reportAll_label _ _

/-- Entries made SHOWN one after the other, or together. -/
theorem walkedOut_append {s : State} {e : Option WatchEntry} {p : WatchEntry → Bool} {es : List WatchEntry} (hd : ItemsDistinct s)
    (he : ∀ x ∈ e, x ∈ s.price.table) (hother : ∀ x ∈ e, ∀ y ∈ es, y.item ≠ x.item) :
    walkedOut es (walkedOut (e.toList.filter p) s) = walkedOut (e.toList.filter p ++ es) s := by
  cases e with
  | none => exact congrArg _ (walkedOut_nil s)
  | some x =>
    by_cases hp : p x = true
    · have hfilter : [x].filter p = [x] := by simp [hp]
      rw [Option.toList_some, hfilter, ← walkedOut_cons (es := []) hd (he x rfl) (by simp), walkedOut_nil,
        walkedOut_cons hd (he x rfl) (hother x rfl)]
      rfl
    · have hfilter : [x].filter p = [] := by simp [hp]
      rw [Option.toList_some, hfilter, walkedOut_nil]
      rfl

/-- Other items find what stood before entries were made SHOWN. -/
theorem findEntry_walkedOut {s : State} {item : Nat} {es : List WatchEntry} (h : ∀ e ∈ es, e.item ≠ item) :
    findEntry (walkedOut es s) item = findEntry s item := by
  unfold findEntry
  rw [walkedOut_price]
  show List.find? _ (List.map _ _) = _
  refine (find?_map_of_pred (fun x => ?_) _).trans ?_
  · by_cases hx : x ∈ es <;> simp [hx, shownEntry]
  cases hfind : s.price.table.find? (fun e => decide (e.item = item)) with
  | none => rfl
  | some x =>
    have hx : x ∉ es := fun hmem => h x hmem (findEntry_item (s := s) hfind)
    simp [hx]

theorem itemsDistinct_walkedOut {s : State} (es : List WatchEntry) (h : ItemsDistinct s) : ItemsDistinct (walkedOut es s) := by
  have hitems : (walkedOut es s).price.table.map (fun e => e.item) = s.price.table.map (fun e => e.item) := by
    rw [walkedOut_price, List.map_map]
    refine List.map_congr_left fun x _ => ?_
    by_cases hx : x ∈ es <;> simp [hx, shownEntry]
  exact (congrArg List.Nodup hitems).mpr h

theorem isCurrent_congr {s s' : State} {z : Fin 16} {v : VisitItem} (hd : ItemsDistinct s) (hd' : ItemsDistinct s')
    (h : findEntry s' v.item = findEntry s v.item) : isCurrent s' z v = isCurrent s z v := by
  cases hv : v.written with
  | true => simp [isCurrent, hv]
  | false => rw [Bool.eq_iff_iff, currentItem_iff hd hv, currentItem_iff hd' hv, currentItem, currentItem, h]

/-- R142: what the walk makes of the list, the record and the state. -/
theorem walk_eq {s : State} {z : Fin 16} {cur : VisitItem → Bool} {ent : VisitItem → Option WatchEntry}
    {l : List VisitItem} (room : Nat) (hr : WalkReads s z cur ent l) (hd : ItemsDistinct s)
    (hnodup : (l.map (fun v => v.item)).Nodup) (ha : ∀ v ∈ l, v.written = false → v.item ∉ s.label.awaited) :
    walk z l room s = (walkedList cur l room, (((l.filter cur).take room).filterMap ent).map recordItem,
      walkedOut (walkedShows cur ent l room) s) := by
  induction l generalizing s room with
  | nil => simp [walk, walkedList, walkedShows, walkedOut_nil]
  | cons v l ih =>
    have hrest : WalkReads s z cur ent l := ⟨fun x hx => hr.current x (List.mem_cons_of_mem v hx),
      fun x hx => hr.entry x (List.mem_cons_of_mem v hx)⟩
    have hcur := hr.current v List.mem_cons_self
    have hent := hr.entry v List.mem_cons_self
    rw [List.map_cons, List.nodup_cons] at hnodup
    obtain ⟨hfresh, hnodup⟩ := hnodup
    have hother : ∀ x ∈ l, x.item ≠ v.item := fun x hx heq => hfresh (heq ▸ List.mem_map_of_mem hx)
    have harest : ∀ x ∈ l, x.written = false → x.item ∉ s.label.awaited := fun x hx => ha x (List.mem_cons_of_mem v hx)
    rw [walkedList_cons, walkedShows_cons]
    cases hv : v.written with
    | true =>
      have hnot : cur v = false := by rw [hcur, isCurrent, hv]; rfl
      have hroom : roomAfter cur v room = room := if_neg (by simp [hnot])
      rw [walk_of_written hv, ih room hrest hd hnodup harest, hroom, List.filter_cons_of_neg (by simp [hnot])]
      have hsame : ({ v with written := true || decide (0 < room) } : VisitItem) = v := by
        obtain ⟨item, written⟩ := v
        cases (hv : written = true)
        rfl
      rw [hsame]
      rfl
    | false =>
      cases room with
      | zero =>
        have hroom : roomAfter cur v 0 = 0 := by simp [roomAfter]
        have hstop := ih 0 hrest hd hnodup harest
        rw [walk_of_full, Prod.mk.injEq, Prod.mk.injEq] at hstop
        obtain ⟨hlist, _, hstate⟩ := hstop
        have hsame : ({ v with written := false || decide (0 < 0) } : VisitItem) = v := by
          obtain ⟨item, written⟩ := v
          cases (hv : written = false)
          rfl
        rw [walk_of_full, hroom, ← hlist, hsame]
        exact congrArg (fun u => (v :: l, [], u)) hstate
      | succ room =>
        by_cases hc : cur v = true
        · obtain ⟨e, hfind, hitem⟩ := (currentItem_iff hd hv).mp (hcur.symm.trans hc)
          have hroom : roomAfter cur v (room + 1) = room := by simp [roomAfter, hc]
          have hnot : ¬(e.state = .staged ∧ e.facings = 0) := fun h => by
            simp [currentItem, hfind, h.2] at hitem
          rw [walk_of_taken hv hitem, ih room hrest hd hnodup harest, hroom, List.filter_cons_of_pos hc, hent, hfind,
            List.take_succ_cons, List.filterMap_cons, hent, hfind]
          simp [hnot]
        · have hnot : cur v = false := Bool.eq_false_iff.mpr hc
          have hroom : roomAfter cur v (room + 1) = room + 1 := if_neg hc
          have hnone : currentItem s z v.item = none :=
            currentItem_eq_none fun h => hc (hcur.trans ((currentItem_iff hd hv).mpr h))
          generalize hshown : (findEntry s v.item).toList.filter (fun e => decide (e.state = .staged ∧ e.facings = 0)) = shown
          have hitems : ∀ e ∈ shown, e.item = v.item := fun e he => by
            have hin : e ∈ (findEntry s v.item).toList := List.mem_of_mem_filter (hshown ▸ he)
            exact findEntry_item (Option.mem_toList.mp hin)
          have hfinds : ∀ x ∈ l, findEntry (walkedOut shown s) x.item = findEntry s x.item := fun x hx =>
            findEntry_walkedOut fun e he heq => hother x hx (heq.symm.trans (hitems e he))
          have hdout : ItemsDistinct (walkedOut shown s) := itemsDistinct_walkedOut shown hd
          have hreads : WalkReads (walkedOut shown s) z cur ent l :=
            ⟨fun x hx => (hrest.current x hx).trans (isCurrent_congr hd hdout (hfinds x hx)).symm,
              fun x hx => (hrest.entry x hx).trans (hfinds x hx).symm⟩
          rw [walk_of_left_out hv hnone, leaveOut_eq hd (ha v List.mem_cons_self hv), hshown,
            ih (room + 1) hreads hdout hnodup (fun x hx hw => by rw [walkedOut_label]; exact harest x hx hw), hroom,
            List.filter_cons_of_neg hc, ← hshown,
            walkedOut_append hd (fun x hx => mem_of_findEntry hx) (fun x hx y hy => ?_)]
          · rw [hent]
            simp
          · obtain ⟨w, hw, hy⟩ := mem_walkedShows hy
            have hyw : findEntry s w.item = some y := (hrest.entry w hw).symm.trans hy
            rw [findEntry_item hyw, findEntry_item hx]
            exact hother w hw

end Sys2Proof.Machine
end

section
/-! PROOFS. The issue and the completion of work records (R142, R143, R146, R149). -/

namespace Sys2Proof.Machine

open Sys2Proof Sys2Proof.Safety

@[simp] theorem reportAll_mem (bs : List ReportBody) (s : State) : (reportAll bs s).mem = s.mem := by
  induction bs generalizing s with
  | nil => rfl
  | cons b bs ih => exact (ih (reported b s)).trans (reported_mem b s)

@[simp] theorem walkedOut_mem (es : List WatchEntry) (s : State) : (walkedOut es s).mem = s.mem := reportAll_mem _ _

theorem walked_eq (s : State) (z : Fin 16) : (walkedOut (walkShows s z) s).setLabel
    { s.label with visit := walkedList (isCurrent s z) s.label.visit 6 } = walked s z := by
  have hreports : ∀ (es : List WatchEntry) (u : State), reportAll (es.map (fun e => ReportBody.priceShown e.item e.newPrice
      e.zone e.attempts)) u = es.foldl (fun x e => reported (.priceShown e.item e.newPrice e.zone e.attempts) x) u :=
    fun es u => by simp only [reportAll, List.foldl_map]
  rw [walkedOut, reportAll_setPrice, hreports]
  rfl

/-- R142: when a record may be issued. -/
theorem canIssueRecord_of {s : State} {z : Fin 16} {w : Window} (hzone : s.label.zone = some z)
    (hqueueing : s.label.zones[z] = .queueing) (hw : roleWindow s.guard.windows .labelQueue = some w)
    (hwriting : s.label.writing = none) (hslot : s.mem.slots.labelSequencer = .empty) (hhold : s.mem.hold = false)
    (hroom : ringNext s.label.producer (labelCapacity s) ≠ s.label.consumer) : canIssueRecord s = true := by
  have hq : zoneQueueing s.label = true := by simp [zoneQueueing, hzone, hqueueing]
  have hfull : ringFull s.label.producer s.label.consumer (labelCapacity s) = false :=
    ringFull_eq_false (ringCapacity_pos hw) hroom
  simp [canIssueRecord, hq, hwriting, hslot, hhold, hfull]

/-- R142: a record with the items that the walk takes is issued. -/
theorem exec_workRecordIssue_of_taken {s s' : State} {z : Fin 16} {w : Window} {l : List VisitItem}
    {taken : List (Nat × Nat × Nat)} (hzone : s.label.zone = some z)
    (hw : roleWindow s.guard.windows .labelQueue = some w) (hcan : canIssueRecord s = true)
    (hwalk : walk z s.label.visit 6 s = (l, taken, s')) (htaken : taken ≠ []) :
    exec .workRecordIssue s = .next (issueAccess .labelSequencer
      { kind := .write, addr := w.lineAddr s'.label.producer, mask := fullMask
        data := workLine s'.label.phase s'.label.number z s'.label.recordNo taken }
      (s'.setLabel { s'.label with visit := l, writing := some ⟨taken.map (fun x => (x.1, x.2.1)), true, true⟩ })) := by
  show execWorkRecordIssue s = _
  have hsix : walk z s.label.visit Config.recordItems s = (l, taken, s') := hwalk
  simp only [execWorkRecordIssue, hzone, hw, if_pos hcan, hsix, if_neg htaken]
  rfl

/-- R142, R143: with nothing to take the zone waits once every item is written. -/
theorem exec_workRecordIssue_of_none {s s' : State} {z : Fin 16} {w : Window} {l : List VisitItem}
    (hzone : s.label.zone = some z) (hw : roleWindow s.guard.windows .labelQueue = some w) (hcan : canIssueRecord s = true)
    (hwalk : walk z s.label.visit 6 s = (l, [], s')) (hall : ∀ v ∈ l, v.written = true) :
    exec .workRecordIssue s = .next (startWaiting z (s'.setLabel { s'.label with visit := l })) := by
  show execWorkRecordIssue s = _
  have hsix : walk z s.label.visit Config.recordItems s = (l, [], s') := hwalk
  simp only [execWorkRecordIssue, hzone, hw, if_pos hcan, hsix, if_true, if_pos (List.all_eq_true.mpr hall)]

/-- The zone WAITS with the timeout count set (R143). -/
def zoneWaits (z : Fin 16) (s : State) : State :=
  s.setLabel { s.label with zones := vput s.label.zones z .waiting, timeout := s.label.settings.timeout }

theorem startWaiting_eq (z : Fin 16) (s : State) : startWaiting z s = visitDone (zoneWaits z s) := rfl

theorem startWaiting_of_awaited {s : State} (z : Fin 16) (h : s.label.awaited ≠ []) :
    startWaiting z s = zoneWaits z s := visitDone_of_not_done fun hc => h hc.2

theorem startWaiting_of_none {s : State} {z : Fin 16} (hzone : s.label.zone = some z) (h : s.label.awaited = []) :
    startWaiting z s =
      endVisit (reported (.zoneDone s.label.number z s.label.sent s.label.shown s.label.timedOut) (zoneWaits z s)) :=
  visitDone_of_done (s := zoneWaits z s) hzone
    (zoneWaiting_iff.mpr ⟨z, hzone, (vput_get _ _ _ _).trans (if_pos rfl)⟩) h

/-- R142: the walk over the list of a visit. -/
theorem walk_visit {s : State} (z : Fin 16) (hd : ItemsDistinct s) (hnodup : (s.label.visit.map (fun v => v.item)).Nodup)
    (ha : ∀ v ∈ s.label.visit, v.written = false → v.item ∉ s.label.awaited) : walk z s.label.visit 6 s =
      (walkedList (isCurrent s z) s.label.visit 6, (walkTakes s z).map recordItem, walkedOut (walkShows s z) s) :=
  walk_eq (ent := fun v => findEntry s v.item) 6 ⟨fun _ _ => rfl, fun _ _ => rfl⟩ hd hnodup ha

/-- R142: where the walk takes nothing it has reached every item. -/
theorem walkedList_written {s : State} {z : Fin 16} (hd : ItemsDistinct s) (h : walkTakes s z = []) :
    ∀ v ∈ walkedList (isCurrent s z) s.label.visit 6, v.written = true := by
  have hnone : s.label.visit.filter (isCurrent s z) = [] := by
    cases hc : s.label.visit.filter (isCurrent s z) with
    | nil => rfl
    | cons v vs =>
      have hv : isCurrent s z v = true := (List.mem_filter.mp (hc ▸ List.mem_cons_self :)).2
      have hw : v.written = false := by
        simp only [isCurrent, Bool.and_eq_true, Bool.not_eq_true'] at hv
        exact hv.1
      obtain ⟨e, hfind, _⟩ := (currentItem_iff hd hw).mp hv
      have hentry : entryOf s v.item = some e := hfind
      simp [walkTakes, hc, hentry] at h
  intro v hv
  obtain ⟨x, _, rfl⟩ := List.mem_map.mp hv
  have hsub : (s.label.visit.take x.2).filter (isCurrent s z) = [] :=
    List.filter_eq_nil_iff.mpr fun y hy => List.filter_eq_nil_iff.mp hnone y (List.mem_of_mem_take hy)
  simp [reachesAt, hsub]

/-! ### A record's write has completed (R143) -/

/-- The entry of an item that a work record has carried to its zone (R143). -/
def sentEntry (e : WatchEntry) : WatchEntry := { e with state := .sending, attempts := min (e.attempts + 1) 15 }

/-- R143: an item that still stands for the price written is sent and awaited. -/
theorem sendItem_of_stands {s : State} {z : Fin 16} {item price : Nat} {e : WatchEntry} (hd : ItemsDistinct s)
    (h : findEntry s item = some e) (hstands : stillStands z (item, price) e = true) : sendItem z item price s =
      (entryPut (sentEntry e) s).setLabel
        { s.label with awaited := s.label.awaited ++ [item], sent := s.label.sent + 1 } := by
  simp only [stillStands, decide_eq_true_eq] at hstands
  obtain ⟨_, hprice, hstate, hzone, hexit⟩ := hstands
  have hput : updateEntry item (fun e => { e with state := .sending, attempts := min (e.attempts + 1) 15 }) s =
      entryPut (sentEntry e) s := updateEntry_eq (f := sentEntry) hd h rfl
  simp only [sendItem, h, if_pos (⟨hstate, hzone, hexit, hprice⟩ : _ ∧ _ ∧ _ ∧ _), hput]
  rfl

theorem sendItem_of_not_stands {s : State} {z : Fin 16} {item price : Nat}
    (h : ∀ e ∈ s.price.table, stillStands z (item, price) e = false) : sendItem z item price s = s := by
  unfold sendItem
  cases hfind : findEntry s item with
  | none => rfl
  | some e =>
    have hnot := h e (mem_of_findEntry hfind)
    simp only [stillStands, decide_eq_false_iff_not] at hnot
    exact if_neg fun ⟨hstate, hzone, hexit, hprice⟩ => hnot ⟨findEntry_item hfind, hprice, hstate, hzone, hexit⟩

/-- R143: the items of a record that still stand for their prices are SENDING and awaited. -/
def itemsSent (z : Fin 16) (items : List (Nat × Nat)) (s : State) : State :=
  (s.setPrice { s.price with table := s.price.table.map (fun e =>
    if items.any (fun x => stillStands z x e) then sentEntry e else e) }).setLabel
  { s.label with
    awaited := s.label.awaited ++ (items.filter (fun x => s.price.table.any (stillStands z x))).map (fun x => x.1)
    sent := s.label.sent + (items.filter (fun x => s.price.table.any (stillStands z x))).length }

/-- R143: the items of a completed record, one after the other. -/
theorem foldl_sendItem (z : Fin 16) (items : List (Nat × Nat)) {s : State} (hd : ItemsDistinct s)
    (hnodup : (items.map (fun x => x.1)).Nodup) :
    items.foldl (fun s x => sendItem z x.1 x.2 s) s = itemsSent z items s := by
  induction items generalizing s with
  | nil => simp [itemsSent, State.setPrice, State.setLabel]
  | cons x items ih =>
    rw [List.map_cons, List.nodup_cons] at hnodup
    obtain ⟨hfresh, hnodup⟩ := hnodup
    have hother : ∀ y ∈ items, y.1 ≠ x.1 := fun y hy heq => hfresh (heq ▸ List.mem_map_of_mem hy)
    rw [List.foldl_cons]
    by_cases hany : s.price.table.any (stillStands z x) = true
    · obtain ⟨e, he, hstands⟩ := List.any_eq_true.mp hany
      have hitem : e.item = x.1 := (of_decide_eq_true hstands).1
      have hfind : findEntry s x.1 = some e := hitem ▸ findEntry_of_mem hd he
      have hsent : ∀ y, stillStands z y (sentEntry e) = false := fun y => by simp [stillStands, sentEntry]
      have htable : (entryPut (sentEntry e) s).price.table.map
          (fun e => if items.any (fun x => stillStands z x e) then sentEntry e else e) =
            s.price.table.map (fun e => if (x :: items).any (fun x => stillStands z x e) then sentEntry e else e) := by
        show (s.price.table.map _).map _ = _
        rw [List.map_map]
        refine List.map_congr_left fun y hy => ?_
        by_cases hye : y = e
        · subst hye
          have hput : (if y.item = (sentEntry y).item then sentEntry y else y) = sentEntry y := if_pos rfl
          simp only [Function.comp_apply, hput, hsent, List.any_cons, hstands, Bool.true_or, if_true]
          exact if_neg (by simp)
        · have hne : y.item ≠ e.item := fun h => hye (entry_unique hd hy he h)
          have hput : (if y.item = (sentEntry e).item then sentEntry e else y) = y := if_neg hne
          have hx : stillStands z x y = false := decide_eq_false fun h => hne (h.1.trans hitem.symm)
          simp only [Function.comp_apply, hput, List.any_cons, hx, Bool.false_or]
      have hany' : ∀ y ∈ items, (entryPut (sentEntry e) s).price.table.any (stillStands z y) =
          s.price.table.any (stillStands z y) := fun y hy => by
        have hpoint : ∀ w, stillStands z y (if w.item = (sentEntry e).item then sentEntry e else w) = stillStands z y w := by
          intro w
          by_cases hw : w.item = (sentEntry e).item
          · have hne : ¬w.item = y.1 := fun h => hother y hy (h.symm.trans (hw.trans hitem))
            rw [if_pos hw, hsent, stillStands, decide_eq_false fun h => hne h.1]
          · rw [if_neg hw]
        show (s.price.table.map _).any _ = _
        rw [List.any_map]
        exact congrArg (s.price.table.any ·) (funext hpoint)
      have hfilter : (x :: items).filter (fun x => s.price.table.any (stillStands z x)) =
          x :: items.filter (fun x => s.price.table.any (stillStands z x)) := List.filter_cons_of_pos hany
      have hrest : items.filter (fun x => (entryPut (sentEntry e) s).price.table.any (stillStands z x)) =
          items.filter (fun x => s.price.table.any (stillStands z x)) := List.filter_congr hany'
      rw [sendItem_of_stands hd hfind hstands, ih (s := (entryPut (sentEntry e) s).setLabel
        { s.label with awaited := s.label.awaited ++ [x.1], sent := s.label.sent + 1 }) (itemsDistinct_entryPut _ hd) hnodup]
      simp only [itemsSent, State.setLabel_price, State.setLabel_label, htable, hrest, hfilter, List.map_cons, List.length_cons,
        List.append_assoc, List.singleton_append, Nat.add_assoc, Nat.add_comm 1]
      rfl
    · have hnot : ∀ e ∈ s.price.table, stillStands z x e = false := fun e he =>
        Bool.eq_false_iff.mpr fun h => hany (List.any_eq_true.mpr ⟨e, he, h⟩)
      have htable : s.price.table.map (fun e => if (x :: items).any (fun x => stillStands z x e) then sentEntry e else e) =
          s.price.table.map (fun e => if items.any (fun x => stillStands z x e) then sentEntry e else e) :=
        List.map_congr_left fun e he => by rw [List.any_cons, hnot e he, Bool.false_or]
      have hfilter : (x :: items).filter (fun x => s.price.table.any (stillStands z x)) =
          items.filter (fun x => s.price.table.any (stillStands z x)) := List.filter_cons_of_neg (by simpa using hany)
      rw [sendItem_of_not_stands hnot, ih hd hnodup, itemsSent, itemsSent, hfilter, htable]

/-- What the completion of a record changes of the label queue (R143). -/
def recordDone (s : State) : State :=
  s.setLabel { s.label with
    writing := none, producer := ringNext s.label.producer (labelCapacity s)
    phase := if ringNext s.label.producer (labelCapacity s) = 0 then !s.label.phase else s.label.phase
    recordNo := (s.label.recordNo + 1) % 256 }

/-- R143: a record of the round in progress has been written in the queue it was issued to. -/
theorem workWritten_of_live {s : State} {z : Fin 16} {items : List (Nat × Nat)} (hzone : s.label.zone = some z) :
    workWritten ⟨items, true, true⟩ s =
      let sent := items.foldl (fun s x => sendItem z x.1 x.2 s) (recordDone s)
      if sent.label.visit.any (fun v => !v.written) then sent else startWaiting z sent := by
  simp only [workWritten, if_true, advanceLabel, recordDone, State.setLabel_label, hzone]
  rfl

theorem workWritten_of_unwritten {s : State} {z : Fin 16} {items : List (Nat × Nat)} (hzone : s.label.zone = some z)
    (hd : ItemsDistinct s) (hnodup : (items.map (fun x => x.1)).Nodup) (h : ∃ v ∈ s.label.visit, v.written = false) :
    workWritten ⟨items, true, true⟩ s = itemsSent z items (recordDone s) := by
  obtain ⟨v, hv, hnot⟩ := h
  rw [workWritten_of_live hzone, foldl_sendItem (s := recordDone s) z items hd hnodup]
  exact if_pos (List.any_eq_true.mpr ⟨v, hv, by simp [hnot]⟩)

theorem workWritten_of_written {s : State} {z : Fin 16} {items : List (Nat × Nat)} (hzone : s.label.zone = some z)
    (hd : ItemsDistinct s) (hnodup : (items.map (fun x => x.1)).Nodup) (h : ∀ v ∈ s.label.visit, v.written = true) :
    workWritten ⟨items, true, true⟩ s = startWaiting z (itemsSent z items (recordDone s)) := by
  rw [workWritten_of_live hzone, foldl_sendItem (s := recordDone s) z items hd hnodup]
  refine if_neg fun hany => ?_
  obtain ⟨v, hv, hnot⟩ := List.any_eq_true.mp hany
  simp [h v hv] at hnot

/-- R149: a record whose round has ended moves no entry; one whose queue was changed advances nothing (R146). -/
theorem workWritten_of_dead (s : State) (items : List (Nat × Nat)) (inRing : Bool) : workWritten ⟨items, false, inRing⟩ s =
    if inRing = true then s.setLabel { s.label with
      writing := none, producer := ringNext s.label.producer (labelCapacity s)
      phase := if ringNext s.label.producer (labelCapacity s) = 0 then !s.label.phase else s.label.phase }
    else s.setLabel { s.label with writing := none } := by
  cases inRing <;> rfl

theorem completeWorkRecord_eq {s : State} {a : Access} {w : WorkWrite} (ha : InsertedAtPort s .labelSequencer a)
    (hw : s.label.writing = some w) (beyond : Bool) :
    completeWorkRecord beyond s = workWritten w (releaseSlot .labelSequencer (storeAccess beyond a s)) := by
  simp only [completeWorkRecord, grantedAccess_eq_some_iff.mpr ha, hw]

/-- Settles O56: the walk issues a record or the zone waits, and a written record's items are sent. -/
theorem workRecordsSentAndAwaited : Obligations.WorkRecordsSentAndAwaited := by
  unfold Obligations.WorkRecordsSentAndAwaited
  refine ⟨fun s z w es hzone hqueueing hvisit hes hcurrent hw hwriting hslot hhold hroom => ?allCurrent,
    fun s z w hzone hqueueing hw hwriting hslot hhold hroom hd hnodup ha => ?walk,
    fun s a z items ha hkind hzone hwriting hd hnodup => ?written,
    fun s a items inRing ha hkind hwriting => ?dead, fun phase round zone recordNo items h =>
      workLine_holds phase round zone recordNo h⟩
  case allCurrent =>
    have hitem : ∀ e ∈ es, currentItem s z e.item = some (recordItem e) := fun e he => by
      obtain ⟨hfind, hstate, hez, hexit, hfacings⟩ := hcurrent e he
      exact currentItem_of_entry hfind hstate hez hexit hfacings
    have hwalk := walk_of_current 6 hitem
    rw [← hvisit] at hwalk
    have htaken : (es.take 6).map recordItem ≠ [] := by simpa using hes
    rw [exec_workRecordIssue_of_taken hzone hw
      (canIssueRecord_of hzone hqueueing hw hwriting hslot hhold hroom) hwalk htaken, List.map_map]
    rfl
  case walk =>
    have hcan := canIssueRecord_of hzone hqueueing hw hwriting hslot hhold hroom
    have hwalk := walk_visit z hd hnodup ha
    refine ⟨fun hes => ?_, fun hnone hawaited => ?_, fun hnone hawaited => ?_⟩
    · have htaken : (walkTakes s z).map recordItem ≠ [] := by simpa using hes
      rw [exec_workRecordIssue_of_taken hzone hw hcan hwalk htaken, List.map_map, ← walked_eq]
      simp only [walkedOut_label, issueAccess, State.setLabel_mem, walkedOut_mem]
      rfl
    · rw [hnone] at hwalk
      rw [exec_workRecordIssue_of_none hzone hw hcan hwalk (walkedList_written hd hnone), walkedOut_label, walked_eq]
      exact congrArg _ (startWaiting_of_awaited (s := walked s z) z hawaited)
    · rw [hnone] at hwalk
      rw [exec_workRecordIssue_of_none hzone hw hcan hwalk (walkedList_written hd hnone), walkedOut_label, walked_eq]
      exact congrArg _ (startWaiting_of_none (s := walked s z) hzone hawaited)
  case written =>
    let stored := releaseSlot .labelSequencer (storeAccess false a s)
    have hexec : exec .workRecordComplete s = .next (workWritten ⟨items, true, true⟩ stored) :=
      congrArg _ (completeWorkRecord_eq ha hwriting false)
    rw [hexec]
    refine ⟨fun hmore => ?_, fun hall hawaited => ?_, fun hall hawaited hsent => ?_⟩
    · exact congrArg Host.Outcome.next (workWritten_of_unwritten (s := stored) hzone hd hnodup hmore)
    · have hnone : (itemsSent z items (recordDone stored)).label.awaited ≠ [] := hawaited
      rw [workWritten_of_written (s := stored) hzone hd hnodup hall, startWaiting_of_awaited z hnone]
      rfl
    · have hfiltered : (items.filter (fun x => s.price.table.any (stillStands z x))) = [] := hsent
      have hnone : (itemsSent z items (recordDone stored)).label.awaited = [] := by
        show s.label.awaited ++ (items.filter (fun x => s.price.table.any (stillStands z x))).map (fun x => x.1) = []
        rw [hawaited, hfiltered]
        rfl
      have hcount : (itemsSent z items (recordDone stored)).label.sent = s.label.sent := by
        show s.label.sent + (items.filter (fun x => s.price.table.any (stillStands z x))).length = s.label.sent
        rw [hfiltered]
        rfl
      have hzone' : (itemsSent z items (recordDone stored)).label.zone = some z := hzone
      rw [workWritten_of_written (s := stored) hzone hd hnodup hall, startWaiting_of_none hzone' hnone, hcount]
      rfl
  case dead =>
    refine congrArg _ ((completeWorkRecord_eq ha hwriting false).trans ((workWritten_of_dead _ items inRing).trans ?_))
    rfl

end Sys2Proof.Machine
end

section
/-! PROOFS. A refused line of a one-line request (R3, R10), and the entries of the tills (R70 to R75, R84 to R86). -/

namespace Sys2Proof.Machine

open Sys2Proof Sys2Proof.Safety

/-! ### A lone line that is refused (R2, R3, R10) -/

theorem recordLine_of_lone {s : State} {t : Fin 64} {r : Request} {l : ReqLine} (h : findRequest s t = some r)
    (hline : r.lines = [l]) (c : Cause) : recordLine t 0 c s =
      logRefusal (refusalOf r l c (l.verdict.bind Verdict.window)) (refusedTaken t r.kind s) := by
  have hget : r.lines[0]? = some l := by rw [hline]; rfl
  simp only [recordLine, h, hget]
  cases hk : r.kind with
  | read =>
    simp only [setOutcome_of_lone h hline (o := .filled) (by simp), hk]
    simp only [refusalOf, hk]
    rfl
  | write =>
    simp only [setOutcome_of_lone h hline (o := .discarded) (by simp), hk]
    simp only [refusalOf, hk]
    rfl

/-- What was last changed of an entry does not matter once the entry is gone. -/
theorem refusedTaken_updateRequest (s : State) (t : Fin 64) (kind : AccessKind) {f : Request → Request}
    (hf : ∀ r, (f r).txn = r.txn) : refusedTaken t kind (updateRequest t f s) = refusedTaken t kind s := by
  have hkept := filter_updateRequest s.link.requests t f hf
  cases kind <;> simp only [refusedTaken, answeredTaken, updateRequest, State.setLink_link, hkept] <;> rfl

theorem findRequest_refusedTaken (s : State) (t : Fin 64) (kind : AccessKind) :
    findRequest (refusedTaken t kind s) t = none := by
  have hnone : (s.link.requests.filter (fun q => decide (q.txn ≠ t))).find? (fun r => decide (r.txn = t)) = none :=
    List.find?_eq_none.mpr fun q hq => by simpa using (List.mem_filter.mp hq).2
  cases kind <;> exact hnone

theorem findRequest_logRefusal (e : GuardEntry) (s : State) (t : Fin 64) :
    findRequest (logRefusal e s) t = findRequest s t := findRequest_of_link (logRefusal_link e s) t

/-! ### The filled line (R84 to R86) -/

theorem extract_putField {l : Line} {o w v : Nat} (h : o + w ≤ 64) :
    (putField l o w v).extractLsb' (8 * o) (8 * w) = BitVec.ofNat (8 * w) v := extract_eq_ofNat (getField_putField h)

/-- The line with the amount and the price that the handling gives (R84). -/
def pricedEntry (l : Line) (h : Handling) : Line :=
  let l := match h.amount with | some a => putField l 24 8 (twos 8 a) | none => l
  match h.price with | some p => putField l 12 4 p | none => l

theorem fillEntry_eq (l : Line) (h : Handling) (index : Nat) (prev : Word32) : fillEntry l h index prev =
    let numbered := putField (putField (pricedEntry l h) 32 4 h.flags.toNat) 36 4 index
    putField numbered 56 4 (chainOf prev numbered).toNat := rfl

theorem pricedEntry_amount {l : Line} {h : Handling} {a : Int} (ha : h.amount = some a) :
    (pricedEntry l h).extractLsb' 192 64 = BitVec.ofInt 64 a := by
  rw [← ofNat_twos]
  simp only [pricedEntry, ha]
  cases h.price with
  | none => exact extract_putField (o := 24) (w := 8) (by omega)
  | some p => exact (extract_putField_of_disjoint (by omega) (by omega)).trans (extract_putField (o := 24) (w := 8) (by omega))

theorem pricedEntry_amountKept {l : Line} {h : Handling} (ha : h.amount = none) :
    (pricedEntry l h).extractLsb' 192 64 = l.extractLsb' 192 64 := by
  simp only [pricedEntry, ha]
  cases h.price with
  | none => rfl
  | some p => exact extract_putField_of_disjoint (by omega) (by omega)

theorem pricedEntry_price {l : Line} {h : Handling} {p : Nat} (hp : h.price = some p) :
    getWord (pricedEntry l h) 12 = BitVec.ofNat 32 p := by
  simp only [pricedEntry, hp]
  exact getWord_putField (by omega)

theorem pricedEntry_priceKept {l : Line} {h : Handling} (hp : h.price = none) :
    getWord (pricedEntry l h) 12 = getWord l 12 := by
  simp only [pricedEntry, hp]
  cases h.amount with
  | none => rfl
  | some a => exact getWord_putField_of_disjoint (by omega) (by omega)

theorem pricedEntry_others {l : Line} {h : Handling} {j : Nat} (hj : j < 64) (hprice : j < 12 ∨ 16 ≤ j)
    (hamount : j < 24 ∨ 32 ≤ j) : getByte (pricedEntry l h) j = getByte l j := by
  have hpriced : ∀ m : Line, ∀ p, getByte (putField m 12 4 p) j = getByte m j := fun m p =>
    getByte_putField_of_disjoint hj (by omega)
  have hfilled : ∀ a : Int, getByte (putField l 24 8 (twos 8 a)) j = getByte l j := fun a =>
    getByte_putField_of_disjoint hj (by omega)
  unfold pricedEntry
  cases h.amount with
  | none => cases h.price with
    | none => rfl
    | some p => exact hpriced l p
  | some a => cases h.price with
    | none => exact hfilled a
    | some p => exact (hpriced _ p).trans (hfilled a)

/-- Flags, index and chain leave the bytes before them, and the bytes about the chain, alone. -/
theorem fillEntry_extract {l : Line} {h : Handling} {index : Nat} {prev : Word32} {p q : Nat} (hp : p + q ≤ 512)
    (hflags : p + q ≤ 256 ∨ 320 ≤ p) (hchain : p + q ≤ 448 ∨ 480 ≤ p) :
    (fillEntry l h index prev).extractLsb' p q = (pricedEntry l h).extractLsb' p q := by
  rw [fillEntry_eq]
  dsimp only
  rw [extract_putField_of_disjoint hp (by omega), extract_putField_of_disjoint hp (by omega),
    extract_putField_of_disjoint hp (by omega)]

/-- R84 to R86: the line of an accepted entry is filled as the specification lays it out. -/
theorem fillEntry_filled (l : Line) (h : Handling) (index : Nat) (prev : Word32) :
    Filled l (fillEntry l h index prev) h index prev where
  amount a ha := (fillEntry_extract (by omega) (by omega) (by omega)).trans (pricedEntry_amount ha)
  amountKept ha := (fillEntry_extract (by omega) (by omega) (by omega)).trans (pricedEntry_amountKept ha)
  price p hp := (fillEntry_extract (p := 8 * 12) (by omega) (by omega) (by omega)).trans (pricedEntry_price hp)
  priceKept hp := (fillEntry_extract (p := 8 * 12) (by omega) (by omega) (by omega)).trans (pricedEntry_priceKept hp)
  flags := by
    rw [fillEntry_eq]
    dsimp only
    rw [getWord_putField_of_disjoint (by omega) (by omega), getWord_putField_of_disjoint (by omega) (by omega),
      getWord_putField (by omega), ofNat_word]
  index := by
    rw [fillEntry_eq]
    dsimp only
    rw [getWord_putField_of_disjoint (by omega) (by omega), getWord_putField (by omega)]
  chain := by
    rw [fillEntry_eq]
    dsimp only
    rw [getWord_putField (by omega), ofNat_word, chainOf_eq, fourteenWords_putChain]
  others j hj hout := (fillEntry_extract (p := 8 * j) (by omega) (by omega) (by omega)).trans
    (pricedEntry_others hj (by omega) (by omega))

/-! ### Judging an entry (R70, R72) -/

theorem bankAdmits_iff {s : State} {bk : Bank} : bankAdmits s bk = true ↔ Admits s bk := by
  have hbank : s.journal.partWrite.bank ≠ some bk ↔ (∀ o, s.journal.partWrite = .draining o → o.bank ≠ bk) ∧
      (∀ o x, s.journal.partWrite = .writing o x → o.bank ≠ bk) := by
    cases s.journal.partWrite <;> simp [PartWrite.bank]
  simp only [bankAdmits, Admits, Bool.and_eq_true, Bool.or_eq_true, decide_eq_true_eq, hbank, and_assoc]

theorem bankLength_eq (s : State) (bk : Bank) : bankLength s bk = linesOf s bk := rfl

/-- R72: the checks on an entry of a bank that takes one at its cursor. -/
theorem entryFailure_of_first {s : State} {bk : Bank} {i : Nat} {mask : Mask} {e : EntryFields} (ha : Admits s bk)
    (hi : i = (getBank s.journal bk).cursor) : entryFailure s bk i mask e =
      if mask ≠ BitVec.allOnes 64 ∨ 32 ≤ e.till ∨ e.kind = .part then some .format
      else if linesOf s bk < (getBank s.journal bk).cursor + 34 then some .bankFull
      else if (getBank s.journal bk).state = .closing ∧ e.kind = .txnOpen then some .closing
      else none := by
  have hadmits : ¬bankAdmits s bk = false := by simp [bankAdmits_iff.mpr ha]
  have hcursor : ¬i ≠ (getBank s.journal bk).cursor := fun h => h hi
  simp only [entryFailure, if_neg hadmits, if_neg hcursor, bankLength_eq]
  by_cases hmask : mask = BitVec.allOnes 64
  · have hfull : ¬mask ≠ fullMask := fun h => h hmask
    have hiff : (mask ≠ BitVec.allOnes 64 ∨ 32 ≤ e.till ∨ e.kind = .part) ↔ (32 ≤ e.till ∨ e.kind = .part) :=
      ⟨fun h => h.resolve_left fun hne => hne hmask, .inr⟩
    rw [if_neg hfull]
    simp only [hiff]
    rfl
  · have hnot : mask ≠ fullMask := hmask
    rw [if_pos hnot, if_pos (.inl hmask)]

/-! ### A refused entry (R72 to R74) -/

theorem markFull_setLink (bk : Bank) (s : State) (x : LinkState) : markFull bk (s.setLink x) = (markFull bk s).setLink x := by
  unfold markFull
  dsimp only
  rw [State.setLink_journal, setBank_setLink, arise_setLink, ← arise_eq_reported]
  split <;> rfl

@[simp] theorem markFull_link (bk : Bank) (s : State) : (markFull bk s).link = s.link := by
  refine apply_ite_eq (f := State.link) rfl ?_
  rw [arise_link, setBank_link]

theorem markFull_activate (bk : Bank) (t : Fin 64) (s : State) : markFull bk (activate t s) = activate t (markFull bk s) := by
  rw [activate_eq, markFull_setLink, activate_eq t (markFull bk s)]
  exact congrArg _ (by simp only [activate, updateRequest, markFull_link]; rfl)

/-- A lone write line at its turn that its handler refuses (R10). -/
theorem runRequest_recordRefusal {s : State} {t : Fin 64} {r : Request} {l : ReqLine} {addr : Nat} {w : Option (Fin 16)}
    {role : Role} {i : Nat} (hr : findRequest s t = some r) (hkind : r.kind = .write) (hcls : r.cls ≠ .guest)
    (hline : r.lines = [l]) (hv : l.verdict = some (.pass addr w role i)) (c : Cause) :
    runRequest t (recordRefusal t 0 c (activate t s)) = logRefusal (refusalOf r l c w) (answeredTaken t .discarded [] s) := by
  have hactive := findRequest_activate hr
  have hguest : NotGuest t (activate t s) := fun q hq => by
    obtain rfl := Option.some.inj (hactive.symm.trans hq)
    exact hcls
  have hgone : refusedTaken t r.kind (activate t s) = answeredTaken t .discarded [] s := by
    rw [activate, refusedTaken_updateRequest s t r.kind (f := fun r => { r with progress := .active }) (fun _ => rfl),
      hkind]
    rfl
  have hwindow : l.verdict.bind Verdict.window = w := by rw [hv]; rfl
  rw [recordRefusal_of_notGuest hguest, recordLine_of_lone hactive (by exact hline), hwindow]
  show runRequest t (logRefusal (refusalOf r l c w) (refusedTaken t r.kind (activate t s))) = _
  rw [runRequest_of_absent (by rw [findRequest_logRefusal, findRequest_refusedTaken]), hgone]

theorem write_of_atTurn {s : State} {t : Fin 64} {r : Request} {k : Nat} {l : ReqLine} {h : Handler} (hturn : AtTurn s t k l h)
    (hr : findRequest s t = some r) : r.kind = .write ∧ r.cls ≠ .guest := by
  obtain ⟨q, hq⟩ := hturn
  obtain ⟨hq', _, _, _, hhandler⟩ := turnLine_spec hq
  obtain rfl := Option.some.inj (hq'.symm.trans hr)
  exact ⟨(handlerOf_spec hhandler).1, notGuest_of_atTurn hq⟩

theorem formed_of {mask : Mask} {e : EntryFields} (hmask : mask = BitVec.allOnes 64) (htill : e.till < 32)
    (hkind : e.kind ≠ .part) : ¬(mask ≠ BitVec.allOnes 64 ∨ 32 ≤ e.till ∨ e.kind = .part) := by
  rintro (h | h | h)
  · exact h hmask
  · omega
  · exact hkind h

theorem exec_journalEntry_refused {s : State} {t : Fin 64} {l : ReqLine} {bk : Bank} {addr : Nat}
    {w : Option (Fin 16)} {role : Role} {i : Nat} (hturn : AtTurn s t 0 l (.journal bk))
    (hv : l.verdict = some (.pass addr w role i)) {c : Cause} (hc : entryFailure s bk i l.mask (readEntry l.data) = some c) :
    exec (.journalEntry t) s = .next (runRequest t (refuseEntry t 0 bk c (activate t s))) := by
  obtain ⟨q, hq⟩ := hturn
  have hfailure : entryFailure (activate t s) bk i l.mask (readEntry l.data) = some c := hc
  show execJournalEntry t s = _
  simp only [execJournalEntry, hq, hv, hfailure]

/-- R72: an entry refused with a cause that leaves no marker. -/
theorem refused_of_failure {s : State} {t : Fin 64} {r : Request} {l : ReqLine} {bk : Bank} {addr : Nat}
    {w : Option (Fin 16)} {role : Role} {i : Nat} (hturn : AtTurn s t 0 l (.journal bk)) (hr : findRequest s t = some r)
    (hline : r.lines = [l]) (hv : l.verdict = some (.pass addr w role i)) {c : Cause}
    (hc : entryFailure s bk i l.mask (readEntry l.data) = some c) (hfull : c = .bankFull → markFull bk s = s) :
    exec (.journalEntry t) s = .next (logRefusal (refusalOf r l c w) (answeredTaken t .discarded [] s)) := by
  obtain ⟨hkind, hcls⟩ := write_of_atTurn hturn hr
  have hmark : (if c = .bankFull then markFull bk (activate t s) else activate t s) = activate t s := by
    by_cases h : c = .bankFull
    · rw [if_pos h, markFull_activate, hfull h]
    · exact if_neg h
  rw [exec_journalEntry_refused hturn hv hc, refuseEntry, hmark, runRequest_recordRefusal hr hkind hcls hline hv]

/-- Settles O50: the checks in order, each with the refusal that its cause makes. -/
theorem journalEntryRefusedByFirstCheck : Obligations.JournalEntryRefusedByFirstCheck := by
  unfold Obligations.JournalEntryRefusedByFirstCheck
  intro s t r l bk addr w role i hturn hr hline hv
  have refused := fun {c : Cause} hc hfull => refused_of_failure (c := c) hturn hr hline hv hc hfull
  have hmarked : (getBank s.journal bk).fullMarker = true → markFull bk s = s := fun h => if_pos h
  refine ⟨fun hnot => ?_, fun ha hi => ?_, fun ⟨ha, hi⟩ hformat => ?_, fun ⟨⟨ha, hi⟩, hmask, htill, hkind⟩ hlines hmarker => ?_,
    fun ⟨⟨ha, hi⟩, hmask, htill, hkind⟩ hlines hmarker => ?_, fun ⟨⟨ha, hi⟩, hmask, htill, hkind⟩ hlines hstate hopen => ?_⟩
  · refine refused (if_pos ?_) (by simp)
    rw [← bankAdmits_iff, Bool.not_eq_true] at hnot
    exact hnot
  · refine refused ((if_neg ?_).trans (if_pos hi)) (by simp)
    simp [bankAdmits_iff.mpr ha]
  · exact refused ((entryFailure_of_first ha hi).trans (if_pos hformat)) (by simp)
  · have hformed := formed_of hmask htill hkind
    exact refused ((entryFailure_of_first ha hi).trans ((if_neg hformed).trans (if_pos hlines))) fun _ => hmarked hmarker
  · have hformed := formed_of hmask htill hkind
    have hfailure := (entryFailure_of_first ha hi).trans ((if_neg hformed).trans (if_pos hlines))
    have hmark : markFull bk s = reported (.bankFull bk (getBank s.journal bk).dayNumber (getBank s.journal bk).cursor)
        (setBank bk { getBank s.journal bk with fullMarker := true } s) := if_neg (by simp [hmarker])
    obtain ⟨hwrite, hcls⟩ := write_of_atTurn hturn hr
    have hrm : findRequest (markFull bk s) t = some r := (findRequest_of_link (markFull_link bk s) t).trans hr
    rw [exec_journalEntry_refused hturn hv hfailure, refuseEntry, if_pos rfl, markFull_activate,
      runRequest_recordRefusal hrm hwrite hcls hline hv, hmark]
  · have hformed := formed_of hmask htill hkind
    exact refused ((entryFailure_of_first ha hi).trans ((if_neg hformed).trans ((if_neg (by omega)).trans
      (if_pos ⟨hstate, hopen⟩)))) (by simp)

/-! ### A taken entry (R75, R92, R173) -/

/-- R75: a lone entry that passes every check is filled, taken and handed over. -/
theorem exec_journalEntry_taken {s : State} {t : Fin 64} {l : ReqLine} {bk : Bank} {addr : Nat} {w : Option (Fin 16)}
    {role : Role} {i : Nat} {till : Fin 32} (hturn : AtTurn s t 0 l (.journal bk))
    (hv : l.verdict = some (.pass addr w role i)) (hc : entryFailure s bk i l.mask (readEntry l.data) = none)
    (htill : (readEntry l.data).till = till.val) :
    let b := getBank s.journal bk
    let h := handleEntry s.price.table (readEntry l.data) till s.journal.contexts[till] b.totals
    let filled := fillEntry l.data h b.cursor b.running
    exec (.journalEntry t) s = .next (passEntry t 0 filled
      (carried bk till (readEntry l.data) h b.cursor (getWord filled 56))
      (activate t (entryTaken bk till h (getWord filled 56) s))) := by
  obtain ⟨q, hq⟩ := hturn
  have hfailure : entryFailure (activate t s) bk i l.mask (readEntry l.data) = none := hc
  show execJournalEntry t s = _
  simp only [execJournalEntry, hq, hv, hfailure, index32_of_val htill, acceptEntry]
  cases bk <;> rfl

/-- R9, R12: a line that passes is handed to the Memory Port with its present data. -/
theorem handLine_of_pass {s : State} {t : Fin 64} {k : Nat} {r : Request} {l : ReqLine} {addr : Nat} {w : Option (Fin 16)}
    {role : Role} {i : Nat} (hr : findRequest s t = some r) (hl : r.lines[k]? = some l)
    (hv : l.verdict = some (.pass addr w role i)) (c : Option EntryCommit) (b : Bool) : handLine t k c b s =
      handed { owner := some ⟨t, k⟩, kind := r.kind, addr := addr, mask := l.mask, data := l.data, commit := c, released := b }
        (updateRequest t (Request.onLine k (fun l => { l with stage := .handed })) s) := by
  simp only [handLine, hr, hl, hv]
  rfl

theorem findRequest_handed (p : PassedLine) (s : State) (t : Fin 64) : findRequest (handed p s) t = findRequest s t :=
  findRequest_of_link (enqueue_link p s) t

/-- R173: the end test changes the phase of the day alone. -/
theorem endTest_eq (s : State) : endTest s = s.setDay { s.day with
    phase := if s.day.phase = .closing ∧ (s.day.grace = 0 ∨ openTills s = []) then .switching else s.day.phase } := by
  have hset : openTills s = suspendSet s.journal := rfl
  by_cases h : s.day.phase = .closing ∧ (s.day.grace = 0 ∨ openTills s = [])
  · have hpass : s.day.phase = .closing ∧ (suspendSet s.journal = [] ∨ s.day.grace = 0) := h.imp_right fun h => h.symm
    rw [if_pos h, endTest, if_pos hpass]
  · have hfail : ¬(s.day.phase = .closing ∧ (suspendSet s.journal = [] ∨ s.day.grace = 0)) := fun hc =>
      h (hc.imp_right fun h => h.symm)
    rw [if_neg h, endTest, if_neg hfail]
    rfl

theorem endTest_activate (t : Fin 64) (s : State) : endTest (activate t s) = activate t (endTest s) := by
  rw [endTest_eq, endTest_eq]
  rfl

/-! ### An entry that has been replaced (R2) -/

theorem updateRequest_entryReplaced {t : Fin 64} {r : Request} (ht : r.txn = t) (f : Request → Request) (s : State) :
    updateRequest t f (entryReplaced t r s) = entryReplaced t (f r) s := by
  have hmap : (s.link.requests.map (fun q => if q.txn = t then r else q)).map (fun q => if q.txn = t then f q else q) =
      s.link.requests.map (fun q => if q.txn = t then f r else q) := by
    rw [List.map_map]
    refine List.map_congr_left fun q _ => ?_
    by_cases hq : q.txn = t
    · rw [Function.comp_apply, if_pos hq, if_pos ht, if_pos hq]
    · rw [Function.comp_apply, if_neg hq, if_neg hq, if_neg hq]
  show State.setLink _ _ = _
  simp only [entryReplaced, hmap]
  rfl

theorem findRequest_entryReplaced {s : State} {t : Fin 64} {r q : Request} (h : findRequest s t = some q) (ht : r.txn = t) :
    findRequest (entryReplaced t r s) t = some r := by
  refine (find?_map_of_pred (fun x => ?_) s.link.requests).trans ?_
  · by_cases hx : x.txn = t <;> simp [hx, ht]
  · have hfind : s.link.requests.find? (fun x => decide (x.txn = t)) = some q := h
    rw [hfind, Option.map_some, if_pos (findRequest_txn h)]

theorem activate_eq_entryReplaced {s : State} {t : Fin 64} {r : Request} (h : findRequest s t = some r) (hd : TxnsDistinct s) :
    activate t s = entryReplaced t { r with progress := .active } s :=
  updateRequest_eq_entryReplaced h hd fun r => { r with progress := .active }

/-- R75: the accepted line passes, and nothing is left to run. -/
theorem passEntry_of_lone {s : State} {t : Fin 64} {r : Request} {l : ReqLine} {addr : Nat} {w : Option (Fin 16)} {role : Role}
    {i : Nat} (hr : findRequest s t = some r) (hd : TxnsDistinct s) (hline : r.lines = [l]) (hcls : r.cls ≠ .guest)
    (hv : l.verdict = some (.pass addr w role i)) (filled : Line) (c : EntryCommit) :
    passEntry t 0 filled c (activate t s) =
      handed { owner := some ⟨t, 0⟩, kind := r.kind, addr := addr, mask := l.mask, data := filled, commit := some c
               released := false }
        (entryReplaced t { r with progress := .active, lines := [{ l with stage := .handed, data := filled }] }
          (if (getBank s.journal c.bank).state = .closing then endTest s else s)) := by
  have htested : (if (getBank (activate t s).journal c.bank).state = .closing then endTest (activate t s) else activate t s) =
      activate t (if (getBank s.journal c.bank).state = .closing then endTest s else s) := by
    rw [endTest_activate, activate_journal]
    split <;> rfl
  generalize hu : (if (getBank s.journal c.bank).state = .closing then endTest s else s) = u at htested ⊢
  have hlink : u.link = s.link := by
    rw [← hu]
    exact apply_ite_eq (f := State.link) (by rw [endTest_eq]; rfl) rfl
  have hru : findRequest u t = some r := (findRequest_of_link hlink t).trans hr
  have hdu : TxnsDistinct u := by rw [TxnsDistinct, hlink]; exact hd
  have htxn : r.txn = t := findRequest_txn hr
  have hfilled : updateLine t 0 (fun l => { l with data := filled }) (activate t u) =
      entryReplaced t { r with progress := .active, lines := [{ l with data := filled }] } u := by
    rw [activate_eq_entryReplaced hru hdu, updateLine, updateRequest_entryReplaced (by exact htxn)]
    simp only [Request.onLine, hline]
    rfl
  have hhanded := handLine_of_pass (k := 0) (findRequest_entryReplaced (s := u) hru
    (r := { r with progress := .active, lines := [{ l with data := filled }] }) htxn) rfl (by exact hv) (some c) false
  rw [updateRequest_entryReplaced (by exact htxn)] at hhanded
  simp only [passEntry]
  rw [htested, hfilled, hhanded]
  refine runRequest_of_no_turn (r := { r with progress := .active, lines := [{ l with stage := .handed, data := filled }] })
    ?_ (nextTurn_of_stage (by simp)) hcls
  rw [findRequest_handed]
  exact findRequest_entryReplaced hru htxn

/-- Settles O49: no check fails, and the accepted line passes with its copies. -/
theorem journalEntryTakenAtCursor : Obligations.JournalEntryTakenAtCursor := by
  unfold Obligations.JournalEntryTakenAtCursor
  intro s t r l bk addr w role till hturn hr hd hline hv ha hmask htill hkind hlines hclosing b e h
  have hnone : entryFailure s bk b.cursor l.mask (readEntry l.data) = none := by
    refine (entryFailure_of_first ha rfl).trans ((if_neg (formed_of hmask (by omega) hkind)).trans ((if_neg ?_).trans
      (if_neg fun hc => hclosing hc.1 hc.2)))
    exact Nat.not_lt.mpr hlines
  obtain ⟨hwrite, hcls⟩ := write_of_atTurn hturn hr
  refine ⟨fillEntry l.data h b.cursor b.running, fillEntry_filled _ _ _ _, ?_⟩
  generalize hfilled : fillEntry l.data h b.cursor b.running = filled
  have hexec := exec_journalEntry_taken hturn hv hnone htill
  simp only at hexec
  rw [hexec, hfilled]
  generalize htaken : entryTaken bk till h (getWord filled 56) s = taken
  have hlink : taken.link = s.link := by rw [← htaken, entryTaken, setBank_link]
  have hday : taken.day = s.day := by rw [← htaken, entryTaken, setBank_day]
  have hstate : (getBank taken.journal bk).state = b.state := by rw [← htaken, entryTaken, getBank_setBank]
  have hfound : findRequest taken t = some r := (findRequest_of_link hlink t).trans hr
  have htested : (if (getBank taken.journal bk).state = .closing then endTest taken else taken) =
      taken.setDay { s.day with
        phase := if b.state = .closing ∧ s.day.phase = .closing ∧ (s.day.grace = 0 ∨ openTills taken = []) then .switching
          else s.day.phase } := by
    rw [hstate, endTest_eq, hday]
    by_cases hc : b.state = .closing
    · rw [if_pos hc]
      exact congrArg (fun p => taken.setDay { s.day with phase := p }) (if_congr ⟨fun hall => ⟨hc, hall⟩, And.right⟩ rfl rfl)
    · rw [if_neg hc, if_neg fun hall => hc hall.1, ← hday]
      rfl
  rw [passEntry_of_lone hfound (by rw [TxnsDistinct, hlink]; exact hd) hline hcls hv]
  show Host.Outcome.next (handed _ (entryReplaced t _ (if (getBank taken.journal bk).state = .closing then _ else _))) = _
  rw [htested, hwrite]
  rfl

end Sys2Proof.Machine
end

section
/-! PROOFS. A request that starts (R4 to R7, R10). -/

namespace Sys2Proof.Machine

open Sys2Proof Sys2Proof.Safety

/-! ### Places and the start (R5, R6) -/

theorem placesFree_iff {s : State} {r : Request} : PlacesFree s r ↔
    ¬(Config.captureSize < capturePlaces s + captureNeed r ∨
      (deferralNeed r = true ∧ Config.deferralSize ≤ deferralPlaces s)) := by
  rw [not_or, not_lt, not_and, not_le]
  exact Iff.rfl

/-- R6: the entry of a request that starts with its places reserved. -/
def startedRequest (s : State) (r : Request) : Request :=
  { judgeRequest s r with
    progress := .judged, captureReserved := captureNeed (judgeRequest s r), deferralReserved := deferralNeed (judgeRequest s r) }

theorem exec_requestStart_of_full {s : State} {t : Fin 64} {r : Request} (h : AtStart s t r)
    (hfull : ¬PlacesFree s (judgeRequest s r)) : exec (.requestStart t) s = .next (answerRetry t s) := by
  obtain ⟨hr, hqueued, hearlier⟩ := h
  show execRequestStart t s = _
  simp only [execRequestStart, hr, if_pos (⟨hqueued, List.all_eq_true.mpr hearlier⟩ : _ ∧ _)]
  exact if_pos (Classical.not_not.mp (mt placesFree_iff.mpr hfull))

theorem exec_requestStart_of_free {s : State} {t : Fin 64} {r : Request} (h : AtStart s t r)
    (hfree : PlacesFree s (judgeRequest s r)) :
    exec (.requestStart t) s = .next (runRequest t (entryReplaced t (startedRequest s r) s)) := by
  obtain ⟨hr, hqueued, hearlier⟩ := h
  show execRequestStart t s = _
  simp only [execRequestStart, hr, if_pos (⟨hqueued, List.all_eq_true.mpr hearlier⟩ : _ ∧ _)]
  exact if_neg (placesFree_iff.mp hfree)

theorem findRequest_started {s : State} {t : Fin 64} {r : Request} (h : AtStart s t r) :
    findRequest (entryReplaced t (startedRequest s r) s) t = some (startedRequest s r) :=
  findRequest_entryReplaced h.1 (show r.txn = t from findRequest_txn h.1)

/-! ### The lines of a request, one by one (R7) -/

theorem nextTurn_head {l : ReqLine} {rest : List ReqLine} (ho : l.outcome = .pending) (hs : l.stage = .awaitsTurn) :
    nextTurn 0 (l :: rest) = some (0, l) := if_pos ⟨ho, hs⟩

theorem runLines_of_absent {t : Fin 64} {s : State} (n : Nat) (h : findRequest s t = none) : runLines t n s = s := by
  cases n with
  | zero => rfl
  | succ n => simp only [runLines, h]

theorem runLines_of_no_turn {t : Fin 64} {s : State} {r : Request} (n : Nat) (h : findRequest s t = some r)
    (hnext : nextTurn 0 r.lines = none) (hcls : r.cls ≠ .guest) : runLines t n s = s := by
  cases n with
  | zero => rfl
  | succ n => simp only [runLines, h, hnext, guestStage_of_not_guest h hcls]

/-- R7, R8: a request stops at a line that a stage-4 handler receives. -/
theorem runRequest_of_handler {t : Fin 64} {s : State} {r : Request} {l : ReqLine} {rest : List ReqLine}
    (h : findRequest s t = some r) (hlines : r.lines = l :: rest) (ho : l.outcome = .pending) (hs : l.stage = .awaitsTurn)
    (hh : (handlerOf s.loader.running r l).isSome = true) : runRequest t s = s := by
  obtain ⟨handler, hhandler⟩ := Option.isSome_iff_exists.mp hh
  obtain ⟨_, _, addr, w, role, i, hv⟩ := handlerOf_spec hhandler
  simp only [runRequest, runLines, h, hlines, nextTurn_head ho hs, hv, if_pos hh]

/-- R7, R9, R12: a lone line that passes is handed to the Memory Port. -/
theorem runRequest_of_passing {t : Fin 64} {s : State} {q : Request} {l : ReqLine} {addr : Nat} {w : Option (Fin 16)}
    {role : Role} {i : Nat} (hq : ∃ r, findRequest s t = some r) (ht : q.txn = t) (hlines : q.lines = [l])
    (ho : l.outcome = .pending) (hs : l.stage = .awaitsTurn) (hcls : q.cls ≠ .guest)
    (hh : handlerOf s.loader.running q l = none) (hv : l.verdict = some (.pass addr w role i)) :
    runRequest t (entryReplaced t q s) = handed
      { owner := some ⟨t, 0⟩, kind := q.kind, addr := addr, mask := l.mask, data := l.data, commit := none, released := false }
      (entryReplaced t { q with progress := .active, lines := [{ l with stage := .handed }] } s) := by
  obtain ⟨r, hr⟩ := hq
  have hfound := findRequest_entryReplaced hr ht
  have hhandler : ¬(handlerOf (entryReplaced t q s).loader.running q l).isSome = true := by
    show ¬(handlerOf s.loader.running q l).isSome = true
    simp [hh]
  have hactive : activate t (entryReplaced t q s) = entryReplaced t { q with progress := .active } s :=
    updateRequest_entryReplaced ht _ s
  have hhand := handLine_of_pass (k := 0) (findRequest_entryReplaced (s := s) hr (r := { q with progress := .active }) ht)
    (l := l) (by simp [hlines]) hv none false
  have hentry : Request.onLine 0 (fun l => { l with stage := .handed }) { q with progress := .active } =
      { q with progress := .active, lines := [{ l with stage := .handed }] } := by
    simp only [Request.onLine, hlines]
    rfl
  rw [updateRequest_entryReplaced (by exact ht), hentry] at hhand
  have hstep : runRequest t (entryReplaced t q s) =
      runLines t 4 (handLine t 0 none false (activate t (entryReplaced t q s))) := by
    simp only [runRequest, runLines, hfound, hlines, nextTurn_head ho hs, hv, if_neg hhandler, if_neg hcls]
  rw [hstep, hactive, hhand]
  refine runLines_of_no_turn 4 (r := { q with progress := .active, lines := [{ l with stage := .handed }] }) ?_
    (nextTurn_of_stage (by simp)) hcls
  rw [findRequest_handed]
  exact findRequest_entryReplaced hr ht

theorem refusedTaken_entryReplaced (s : State) (t : Fin 64) (kind : AccessKind) {q : Request} (ht : q.txn = t) :
    refusedTaken t kind (entryReplaced t q s) = refusedTaken t kind s := by
  have hkept : (s.link.requests.map (fun x => if x.txn = t then q else x)).filter (fun x => decide (x.txn ≠ t)) =
      s.link.requests.filter (fun x => decide (x.txn ≠ t)) := by
    induction s.link.requests with
    | nil => rfl
    | cons x xs ih =>
      by_cases hx : x.txn = t
      · rw [List.map_cons, if_pos hx, List.filter_cons_of_neg (by simp [ht]), List.filter_cons_of_neg (by simp [hx]), ih]
      · rw [List.map_cons, if_neg hx, List.filter_cons_of_pos (by simp [hx]), List.filter_cons_of_pos (by simp [hx]), ih]
  cases kind <;> simp only [refusedTaken, answeredTaken, entryReplaced, hkept]

/-- R7, R10: a lone line that its verdict refuses is recorded, and the request has gone. -/
theorem runRequest_of_refused {t : Fin 64} {s : State} {q : Request} {l : ReqLine} {cause : Cause} {w : Option (Fin 16)}
    (hq : ∃ r, findRequest s t = some r) (ht : q.txn = t) (hlines : q.lines = [l]) (ho : l.outcome = .pending)
    (hs : l.stage = .awaitsTurn) (hv : l.verdict = some (.refuse cause w)) :
    runRequest t (entryReplaced t q s) = runLines t 4 (recordRefusal t 0 cause (entryReplaced t { q with progress := .active } s)) ∧
      recordLine t 0 cause (entryReplaced t { q with progress := .active } s) =
        logRefusal (refusalOf q l cause w) (refusedTaken t q.kind s) := by
  obtain ⟨r, hr⟩ := hq
  have hfound := findRequest_entryReplaced hr ht
  have hactive : activate t (entryReplaced t q s) = entryReplaced t { q with progress := .active } s :=
    updateRequest_entryReplaced ht _ s
  have hwindow : l.verdict.bind Verdict.window = w := by rw [hv]; rfl
  refine ⟨?_, ?_⟩
  · simp only [runRequest, runLines, hfound, hlines, nextTurn_head ho hs, hv, hactive]
  · rw [recordLine_of_lone (findRequest_entryReplaced hr (r := { q with progress := .active }) ht) hlines, hwindow,
      refusedTaken_entryReplaced s t _ (q := { q with progress := .active }) ht]
    rfl

theorem recordRefusal_of_cls {s : State} {t : Fin 64} {r : Request} (h : findRequest s t = some r) (hcls : r.cls ≠ .guest)
    (k : Nat) (c : Cause) : recordRefusal t k c s = recordLine t k c s :=
  recordRefusal_of_notGuest fun q hq => by
    obtain rfl := Option.some.inj (h.symm.trans hq)
    exact hcls

/-- Settles O18: the places, the handler of the first line, and a lone line's verdict. -/
theorem requestStartJudgesAndPasses : Obligations.RequestStartJudgesAndPasses := by
  unfold Obligations.RequestStartJudgesAndPasses
  intro s t r h
  have htxn : r.txn = t := findRequest_txn h.1
  refine ⟨rfl, fun hfull => exec_requestStart_of_full h hfull, fun hfree l rest hlines ho hs hh => ?handler,
    fun hfree hcls l hlines ho hs hh => ⟨fun addr w role i hv => ?passes, fun cause w hv => ?refused⟩⟩
  case handler =>
    rw [exec_requestStart_of_free h hfree]
    exact congrArg _ (runRequest_of_handler (findRequest_started h) hlines ho hs hh)
  case passes =>
    rw [exec_requestStart_of_free h hfree]
    exact congrArg _ (runRequest_of_passing (q := startedRequest s r) ⟨r, h.1⟩ htxn hlines ho hs hcls hh hv)
  case refused =>
    obtain ⟨hrun, hrecord⟩ := runRequest_of_refused (q := startedRequest s r) ⟨r, h.1⟩ htxn hlines ho hs hv
    have hfound := findRequest_entryReplaced h.1 (r := { startedRequest s r with progress := .active }) htxn
    rw [exec_requestStart_of_free h hfree, hrun, recordRefusal_of_cls hfound hcls, hrecord,
      runLines_of_absent 4 (by rw [findRequest_logRefusal, findRequest_refusedTaken])]
    rfl

end Sys2Proof.Machine
end

section
/-! PROOFS. Requests of the GUEST class as wholes: refused by the latch, served, deferred (R9, R154, R155, R162). -/

namespace Sys2Proof.Machine

open Sys2Proof Sys2Proof.Safety

/-! ### All lines refused (R3, R10, R155, R162) -/

theorem logRefusal_setLink (e : GuardEntry) (s : State) (x : LinkState) :
    logRefusal e (s.setLink x) = (logRefusal e s).setLink x := by
  unfold logRefusal
  rw [State.setLink_guard]
  cases s.guard.log with
  | nil => exact reported_setLink _ (s.setGuard { s.guard with log := [e] }) x
  | cons n rest =>
    dsimp only
    split
    · rfl
    · exact reported_setLink _ (s.setGuard { s.guard with log := (e :: n :: rest).take Config.guardLogSize }) x

/-- R3: the outcome of a refused line. -/
def refusalOutcome : AccessKind → LineOutcome
  | .read => .filled
  | .write => .discarded

theorem refusalOutcome_ne_pending (k : AccessKind) : refusalOutcome k ≠ .pending := by
  cases k <;> simp [refusalOutcome]

theorem recordLine_eq {s : State} {t : Fin 64} {k : Nat} {r : Request} {l : ReqLine} (h : findRequest s t = some r)
    (hl : r.lines[k]? = some l) (c : Cause) : recordLine t k c s =
      logRefusal (refusalOf r l c (l.verdict.bind Verdict.window))
        (setOutcome t k (refusalOutcome r.kind) (uniformLine s.mem.fill) s) := by
  simp only [recordLine, h, hl]
  rfl

/-- R9: a line that waits for stage 5. -/
theorem waits_iff {l : ReqLine} : l.waits = true ↔ l.outcome = .pending ∧ l.stage = .awaitsGuest := by
  simp only [ReqLine.waits, Bool.and_eq_true, decide_eq_true_eq]

theorem waitingFrom_of_all {ls : List ReqLine} (k : Nat) (h : ∀ l ∈ ls, l.waits = true) :
    waitingFrom k ls = List.range' k ls.length := by
  induction ls generalizing k with
  | nil => rfl
  | cons l ls ih =>
    rw [waitingFrom, if_pos (h l List.mem_cons_self), ih (k + 1) fun x hx => h x (List.mem_cons_of_mem l hx),
      List.length_cons, List.range'_succ]

theorem waitingLines_of_all {s : State} {t : Fin 64} {r : Request} (h : findRequest s t = some r)
    (hw : ∀ l ∈ r.lines, l.waits = true) : waitingLines t s = List.range' 0 r.lines.length := by
  simp only [waitingLines, h, waitingFrom_of_all 0 hw]

theorem waits_of_allWait {r : Request} (h : AllWait r) : ∀ l ∈ r.lines, l.waits = true := fun l hl => waits_iff.mpr (h.2 l hl)

theorem getElem?_append_length {α : Type} (pre : List α) (x : α) (post : List α) :
    (pre ++ x :: post)[pre.length]? = some x := by
  rw [List.getElem?_append_right (Nat.le_refl _), Nat.sub_self]
  rfl

theorem modify_append_length {α : Type} (pre : List α) (x : α) (post : List α) (f : α → α) :
    (pre ++ x :: post).modify pre.length f = pre ++ f x :: post := by
  induction pre with
  | nil => rfl
  | cons y pre ih => exact congrArg (y :: ·) ih

/-- The lines of a request, refused. -/
def refusedLines (kind : AccessKind) (fill : Byte) (ls : List ReqLine) : List ReqLine :=
  ls.map (fun l => { l with outcome := refusalOutcome kind, delivered := uniformLine fill })

/-- R10: each line of a list is logged as refused. -/
def refusalsLogged (r : Request) (c : Cause) (ls : List ReqLine) (s : State) : State :=
  ls.foldl (fun x l => logRefusal (refusalOf r l c (l.verdict.bind Verdict.window)) x) s

/-- The link once a request has been answered with these lines (R2). -/
def linkAnswered (t : Fin 64) (r : Request) (s : State) : LinkState :=
  { requests := s.link.requests.filter (fun q => decide (q.txn ≠ t))
    completions := s.link.completions ++ [⟨t, .taken (r.lines.map (fun l => l.outcome)) r.answerData⟩] }

/-- R2, R10: the PENDING lines that are left of a request are refused one after the other, and the last sends the completion. -/
theorem foldl_recordLine {t : Fin 64} {c : Cause} {todo : List ReqLine} (hne : todo ≠ []) {s : State} {q : Request}
    {pre : List ReqLine} (hq : findRequest s t = some q) (hlines : q.lines = pre ++ todo)
    (hpre : ∀ l ∈ pre, l.outcome ≠ .pending) (htodo : ∀ l ∈ todo, l.outcome = .pending) :
    (List.range' pre.length todo.length).foldl (fun s k => recordLine t k c s) s =
      refusalsLogged q c todo (s.setLink
        (linkAnswered t { q with lines := pre ++ refusedLines q.kind s.mem.fill todo } s)) := by
  induction todo generalizing s q pre with
  | nil => exact absurd rfl hne
  | cons l rest ih =>
    have hget : q.lines[pre.length]? = some l := by rw [hlines, getElem?_append_length]
    generalize hdone : ({ l with outcome := refusalOutcome q.kind, delivered := uniformLine s.mem.fill } : ReqLine) = done
    have hafter : (q.lineDone pre.length (refusalOutcome q.kind) (uniformLine s.mem.fill)).lines = pre ++ done :: rest := by
      rw [Request.lineDone, Request.onLine, hlines, modify_append_length, hdone]
    have hdoneOutcome : done.outcome ≠ .pending := by rw [← hdone]; exact refusalOutcome_ne_pending q.kind
    rw [List.length_cons, List.range'_succ, List.foldl_cons, recordLine_eq hq hget]
    cases rest with
    | nil =>
      rw [setOutcome_of_done hq (by
        rw [hafter]
        intro x hx
        rcases List.mem_append.mp hx with hx | hx
        · exact hpre x hx
        · rw [List.mem_singleton.mp hx]
          exact hdoneOutcome)]
      have hrequest : q.lineDone pre.length (refusalOutcome q.kind) (uniformLine s.mem.fill) =
          { q with lines := pre ++ refusedLines q.kind s.mem.fill [l] } := by
        have hr : q.lineDone pre.length (refusalOutcome q.kind) (uniformLine s.mem.fill) =
          { q with lines := (q.lineDone pre.length (refusalOutcome q.kind) (uniformLine s.mem.fill)).lines } := rfl
        rw [hr, hafter, ← hdone]
        rfl
      rw [hrequest]
      rfl
    | cons l' rest =>
      have hpending : ∃ x ∈ (q.lineDone pre.length (refusalOutcome q.kind) (uniformLine s.mem.fill)).lines,
          x.outcome = .pending := by
        rw [hafter]
        exact ⟨l', by simp, htodo l' (by simp)⟩
      rw [setOutcome_of_pending hq hpending]
      generalize he : refusalOf q l c (l.verdict.bind Verdict.window) = e
      generalize hx : updateRequest t (Request.lineDone pre.length (refusalOutcome q.kind) (uniformLine s.mem.fill)) s = x
      generalize hq' : q.lineDone pre.length (refusalOutcome q.kind) (uniformLine s.mem.fill) = q' at hafter hpending
      have hfound : findRequest (logRefusal e x) t = some q' := by
        rw [findRequest_logRefusal, ← hx, findRequest_updateRequest, hq]
        · exact congrArg some hq'
        · exact fun _ => rfl
      have hfields : q'.kind = q.kind ∧ q'.tag = q.tag ∧ q'.cls = q.cls := by rw [← hq']; exact ⟨rfl, rfl, rfl⟩
      obtain ⟨hkind, htag, hcls⟩ := hfields
      have hmem : (logRefusal e x).mem = s.mem := by rw [logRefusal_mem, ← hx]; rfl
      have hlink : linkAnswered t { q' with lines := pre ++ [done] ++ refusedLines q'.kind (logRefusal e x).mem.fill (l' :: rest) }
          (logRefusal e x) =
            linkAnswered t { q with lines := pre ++ refusedLines q.kind s.mem.fill (l :: l' :: rest) } s := by
        have hkept := filter_updateRequest s.link.requests t
          (Request.lineDone pre.length (refusalOutcome q.kind) (uniformLine s.mem.fill)) fun _ => rfl
        have hxlink : (logRefusal e x).link = x.link := logRefusal_link e x
        have hrefused : pre ++ [done] ++ refusedLines q.kind s.mem.fill (l' :: rest) =
            pre ++ refusedLines q.kind s.mem.fill (l :: l' :: rest) := by
          rw [← hdone, List.append_assoc]
          rfl
        rw [hmem, hkind, hrefused]
        unfold linkAnswered
        rw [hxlink, ← hx]
        simp only [updateRequest, State.setLink_link, hkept, Request.answerData]
      have hlogged : ∀ (ls : List ReqLine) (y : State), refusalsLogged q' c ls y = refusalsLogged q c ls y := fun ls y => by
        simp only [refusalsLogged, refusalOf, hkind, htag, hcls]
      have hlen : pre.length + 1 = (pre ++ [done]).length := by simp
      rw [hlen, ih (by simp) hfound (by rw [hafter]; simp) (fun y hy => ?_) fun y hy => htodo y (List.mem_cons_of_mem l hy),
        hlink, hlogged]
      · have hset : (logRefusal e x).setLink
            (linkAnswered t { q with lines := pre ++ refusedLines q.kind s.mem.fill (l :: l' :: rest) } s) =
              logRefusal e (s.setLink
                (linkAnswered t { q with lines := pre ++ refusedLines q.kind s.mem.fill (l :: l' :: rest) } s)) := by
          rw [← logRefusal_setLink, ← hx]
          rfl
        rw [hset, ← he]
        rfl
      · rcases List.mem_append.mp hy with hy | hy
        · exact hpre y hy
        · rw [List.mem_singleton.mp hy]
          exact hdoneOutcome

/-- R155, R162: all lines of a request are refused by the latch. -/
theorem refuseWaiting_eq {s : State} {t : Fin 64} {r : Request} (h : findRequest s t = some r) (hw : AllWait r) :
    refuseWaiting t s = latchedWhole t r s := by
  rw [refuseWaiting, waitingLines_of_all h (waits_of_allWait hw)]
  refine (foldl_recordLine (pre := []) hw.1 h rfl (by simp) fun l hl => (hw.2 l hl).1).trans ?_
  unfold latchedWhole refusalsLogged
  refine congrArg (fun u => r.lines.foldl _ u) ?_
  unfold linkAnswered
  cases hk : r.kind with
  | read => simp only [Request.answerData, refusedLines, List.nil_append, List.map_map]; rfl
  | write => simp only [Request.answerData, refusedLines, List.nil_append, List.map_map]; rfl

theorem filter_entryReplaced (rs : List Request) {t : Fin 64} {q : Request} (ht : q.txn = t) :
    (rs.map (fun x => if x.txn = t then q else x)).filter (fun x => decide (x.txn ≠ t)) =
      rs.filter (fun x => decide (x.txn ≠ t)) := by
  induction rs with
  | nil => rfl
  | cons x xs ih =>
    by_cases hx : x.txn = t
    · rw [List.map_cons, if_pos hx, List.filter_cons_of_neg (by simp [ht]), List.filter_cons_of_neg (by simp [hx]), ih]
    · rw [List.map_cons, if_neg hx, List.filter_cons_of_pos (by simp [hx]), List.filter_cons_of_pos (by simp [hx]), ih]

/-- What was last changed of an entry does not matter once the entry is gone. -/
theorem latchedWhole_entryReplaced {t : Fin 64} {q : Request} (ht : q.txn = t) (r : Request) (s : State) :
    latchedWhole t r (entryReplaced t q s) = latchedWhole t r s := by
  simp only [latchedWhole, entryReplaced, filter_entryReplaced s.link.requests ht]

/-- The stages of the lines are gone with the entry. -/
theorem latchedWhole_of_stages (t : Fin 64) (r : Request) (x : LineStage) (s : State) :
    latchedWhole t { r with lines := r.lines.map (fun l => { l with stage := x }) } s = latchedWhole t r s := by
  unfold latchedWhole
  simp only [List.foldl_map, List.map_map]
  rfl

theorem findRequest_latchedWhole {t t' : Fin 64} (h : t' ≠ t) (r : Request) (s : State) :
    findRequest (latchedWhole t r s) t' = findRequest s t' := by
  have hlog : ∀ (ls : List ReqLine) (u : State), findRequest (ls.foldl (fun x l =>
      logRefusal (refusalOf r l .guestLatch (l.verdict.bind Verdict.window)) x) u) t' = findRequest u t' := fun ls => by
    induction ls with
    | nil => exact fun _ => rfl
    | cons l ls ih => exact fun u => (ih _).trans (findRequest_logRefusal _ u t')
  refine (hlog r.lines _).trans ?_
  show (s.link.requests.filter (fun q => decide (q.txn ≠ t))).find? (fun q => decide (q.txn = t')) = _
  rw [List.find?_filter]
  refine congrArg (fun p => s.link.requests.find? p) (funext fun q => ?_)
  by_cases hq : q.txn = t'
  · simp [hq, h]
  · simp [hq]

theorem foldl_refuseWaiting (xs : List (Deferred × Request)) {s : State} (hnodup : (xs.map (fun x => x.1.txn)).Nodup)
    (h : ∀ x ∈ xs, findRequest s x.1.txn = some x.2 ∧ AllWait x.2) :
    (xs.map (fun x => x.1)).foldl (fun s e => refuseWaiting e.txn s) s =
      xs.foldl (fun y x => latchedWhole x.1.txn x.2 y) s := by
  induction xs generalizing s with
  | nil => rfl
  | cons x xs ih =>
    rw [List.map_cons, List.nodup_cons] at hnodup
    obtain ⟨hfresh, hnodup⟩ := hnodup
    obtain ⟨hfind, hwait⟩ := h x List.mem_cons_self
    rw [List.map_cons, List.foldl_cons, List.foldl_cons, refuseWaiting_eq hfind hwait]
    refine ih hnodup fun y hy => ?_
    have hne : y.1.txn ≠ x.1.txn := fun heq => hfresh (List.mem_map.mpr ⟨y, hy, heq⟩)
    rw [findRequest_latchedWhole hne]
    exact h y (List.mem_cons_of_mem x hy)

@[simp] theorem reported_guest (b : ReportBody) (s : State) : (reported b s).guest = s.guest := by
  rw [reported_eq]
  rfl

theorem reported_setGuest (b : ReportBody) (s : State) (g : GuestState) :
    reported b (s.setGuest g) = (reported b s).setGuest g := by
  rw [reported_eq, reported_eq]
  rfl

/-- R162: the latch goes from CLEAR to SET. -/
theorem setLatch_eq {s : State} {xs : List (Deferred × Request)} (h : QueueIs s xs) (c : LatchCause) :
    setLatch c s = latchSet c xs s := by
  obtain ⟨hqueue, hnodup, hfind⟩ := h
  have hset : setLatch c s = s.guest.queue.foldl (fun s e => refuseWaiting e.txn s)
      (reported (.guestLatched c s.guest.usage s.guest.violations)
        { s with guest := { s.guest with latch := some c, queue := [] } }) := by
    unfold setLatch
    dsimp only
    rw [arise_eq_reported, reported_guest, reported_setGuest]
    show _ = s.guest.queue.foldl _ (reported _ (s.setGuest { s.guest with latch := some c, queue := [] }))
    rw [reported_setGuest]
    rfl
  rw [hset, hqueue]
  refine foldl_refuseWaiting xs hnodup fun x hx => ?_
  rw [findRequest_of_link (reported_link _ _)]
  exact hfind x hx

/-! ### All lines handed over (R12, R154) -/

/-- R12: the Memory Port with a line handed to it. -/
def memHanded (p : PassedLine) (m : MemState) : MemState :=
  if m.port = .idle ∧ m.queue = [] ∧ someWaiting m = false ∧ m.hold = false then { m with port := .passed p }
  else { m with queue := m.queue ++ [p] }

theorem handed_eq (p : PassedLine) (s : State) : handed p s = s.setMem (memHanded p s.mem) := by
  unfold handed memHanded
  split <;> rfl

theorem handed_entryReplaced (p : PassedLine) (t : Fin 64) (q : Request) (s : State) :
    handed p (entryReplaced t q s) = entryReplaced t q (handed p s) := by
  rw [handed_eq, handed_eq]
  rfl

theorem handed_setGuest (p : PassedLine) (s : State) (g : GuestState) : handed p (s.setGuest g) = (handed p s).setGuest g := by
  rw [handed_eq, handed_eq]
  rfl

/-- R9: the handed-over line of a request. -/
def handedLine (t : Fin 64) (kind : AccessKind) (l : ReqLine) (k : Nat) : PassedLine :=
  { owner := some ⟨t, k⟩, kind := kind, addr := addressOf l, mask := l.mask, data := l.data, commit := none, released := false }

/-- R12: the lines of a list are handed over in order, from an index on. -/
def linesHanded (t : Fin 64) (kind : AccessKind) (k : Nat) (ls : List ReqLine) (s : State) : State :=
  (ls.zipIdx k).foldl (fun x q => handed (handedLine t kind q.1 q.2) x) s

theorem linesHanded_cons (t : Fin 64) (kind : AccessKind) (k : Nat) (l : ReqLine) (ls : List ReqLine) (s : State) :
    linesHanded t kind k (l :: ls) s = linesHanded t kind (k + 1) ls (handed (handedLine t kind l k) s) := by
  rw [linesHanded, List.zipIdx_cons, List.foldl_cons]
  rfl

theorem linesHanded_entryReplaced (t : Fin 64) (kind : AccessKind) (k : Nat) (ls : List ReqLine) (q : Request) (s : State) :
    linesHanded t kind k ls (entryReplaced t q s) = entryReplaced t q (linesHanded t kind k ls s) := by
  induction ls generalizing k s with
  | nil => rfl
  | cons l ls ih => rw [linesHanded_cons, linesHanded_cons, handed_entryReplaced, ih]

theorem linesHanded_setGuest (t : Fin 64) (kind : AccessKind) (k : Nat) (ls : List ReqLine) (s : State) (g : GuestState) :
    linesHanded t kind k ls (s.setGuest g) = (linesHanded t kind k ls s).setGuest g := by
  induction ls generalizing k s with
  | nil => rfl
  | cons l ls ih => rw [linesHanded_cons, linesHanded_cons, handed_setGuest, ih]

@[simp] theorem linesHanded_guest (t : Fin 64) (kind : AccessKind) (k : Nat) (ls : List ReqLine) (s : State) :
    (linesHanded t kind k ls s).guest = s.guest := by
  induction ls generalizing k s with
  | nil => rfl
  | cons l ls ih => exact (linesHanded_cons .. ▸ ih (k + 1) _).trans (enqueue_guest _ s)

theorem addressOf_of_pass {l : ReqLine} {addr : Nat} {w : Option (Fin 16)} {role : Role} {i : Nat}
    (h : l.verdict = some (.pass addr w role i)) : addressOf l = addr := by
  simp only [addressOf, h]

/-- R12: the lines that are left of a request are handed over one after the other. -/
theorem foldl_handLine {t : Fin 64} (todo : List ReqLine) {s : State} {q : Request} {pre : List ReqLine}
    (hs : ∃ r, findRequest s t = some r) (ht : q.txn = t) (hlines : q.lines = pre ++ todo)
    (hpass : ∀ l ∈ todo, ∃ addr w role i, l.verdict = some (.pass addr w role i)) :
    (List.range' pre.length todo.length).foldl (fun s k => handLine t k none false s) (entryReplaced t q s) =
      entryReplaced t { q with lines := pre ++ todo.map (fun l => { l with stage := .handed }) }
        (linesHanded t q.kind pre.length todo s) := by
  induction todo generalizing s q pre with
  | nil =>
    rw [List.append_nil] at hlines
    show entryReplaced t q s = entryReplaced t { q with lines := pre ++ [] } s
    rw [List.append_nil, ← hlines]
  | cons l rest ih =>
    obtain ⟨r, hr⟩ := hs
    obtain ⟨addr, w, role, i, hv⟩ := hpass l List.mem_cons_self
    have hget : q.lines[pre.length]? = some l := by rw [hlines, getElem?_append_length]
    generalize hdone : ({ l with stage := .handed } : ReqLine) = done
    have hentry : Request.onLine pre.length (fun l => { l with stage := .handed }) q =
        { q with lines := pre ++ done :: rest } := by
      rw [Request.onLine, hlines, modify_append_length, hdone]
    have hhand := handLine_of_pass (findRequest_entryReplaced hr ht) hget hv none false
    rw [updateRequest_entryReplaced ht, hentry, handed_entryReplaced] at hhand
    have hlen : (pre ++ [done]).length = pre.length + 1 := by simp
    have hrest := ih (s := handed (handedLine t q.kind l pre.length) s) (q := { q with lines := pre ++ done :: rest })
      (pre := pre ++ [done]) ⟨r, (findRequest_handed _ s t).trans hr⟩ ht (by simp) fun y hy => hpass y (List.mem_cons_of_mem l hy)
    rw [hlen, List.append_assoc] at hrest
    have hline : handedLine t q.kind l pre.length =
        { owner := some ⟨t, pre.length⟩, kind := q.kind, addr := addr, mask := l.mask, data := l.data, commit := none
          released := false } := by rw [handedLine, addressOf_of_pass hv]
    rw [hline] at hrest
    rw [List.length_cons, List.range'_succ, List.foldl_cons, hhand, hrest, linesHanded_cons, hline, List.map_cons, hdone]
    rfl

/-- R154: a request whose lines all wait and pass is served. -/
theorem serveGuest_eq {s : State} {t : Fin 64} {q : Request} (hs : ∃ r, findRequest s t = some r) (ht : q.txn = t)
    (hw : AllWait q) (hpass : ∀ l ∈ q.lines, ∃ addr w role i, l.verdict = some (.pass addr w role i)) :
    serveGuest t (entryReplaced t q s) = servedWhole t q s := by
  obtain ⟨r, hr⟩ := hs
  have hlines := foldl_handLine (pre := []) q.lines ⟨r, hr⟩ ht rfl hpass
  simp only [List.length_nil, List.nil_append] at hlines
  unfold serveGuest
  dsimp only
  rw [waitingLines_of_all (findRequest_entryReplaced hr ht) (waits_of_allWait hw), hlines, updateRequest_entryReplaced (by exact ht), List.length_range']
  have hserved : servedWhole t q s = linesHanded t q.kind 0 q.lines (entryReplaced t { q with
      deferralReserved := false, lines := q.lines.map (fun l => { l with stage := .handed }) }
    (s.setGuest { s.guest with usage := min (s.guest.usage + q.lines.length) 65535, timer := 0 })) := rfl
  rw [hserved, linesHanded_entryReplaced, linesHanded_setGuest]
  have hguest : (linesHanded t q.kind 0 q.lines s).guest = s.guest := linesHanded_guest ..
  generalize linesHanded t q.kind 0 q.lines s = u at hguest ⊢
  rw [← hguest]
  rfl

end Sys2Proof.Machine
end

section
/-! PROOFS. The judgement of guest requests and their release from the deferral queue (R9, R154 to R162). -/

namespace Sys2Proof.Machine

open Sys2Proof Sys2Proof.Safety

/-! ### Other requests than the one that is replaced -/

theorem findRequest_entryReplaced_other {s : State} {t t' : Fin 64} {q : Request} (hq : q.txn = t) (h : t' ≠ t) :
    findRequest (entryReplaced t q s) t' = findRequest s t' := by
  refine (find?_map_of_pred (fun x => ?_) s.link.requests).trans ?_
  · by_cases hx : x.txn = t <;> simp [hx, hq]
  · cases hfind : s.link.requests.find? (fun x => decide (x.txn = t')) with
    | none => exact hfind.symm
    | some x =>
      have hx : x.txn = t' := findRequest_txn (s := s) hfind
      rw [Option.map_some, if_neg (by rw [hx]; exact h)]
      exact hfind.symm

theorem entryReplaced_eq (t : Fin 64) (q : Request) (s : State) : entryReplaced t q s =
    s.setLink { s.link with requests := s.link.requests.map (fun x => if x.txn = t then q else x) } := rfl

theorem logRefusal_entryReplaced (e : GuardEntry) (t : Fin 64) (q : Request) (s : State) :
    logRefusal e (entryReplaced t q s) = entryReplaced t q (logRefusal e s) := by
  rw [entryReplaced_eq, logRefusal_setLink, entryReplaced_eq, logRefusal_link]

theorem reported_entryReplaced (b : ReportBody) (t : Fin 64) (q : Request) (s : State) :
    reported b (entryReplaced t q s) = entryReplaced t q (reported b s) := by
  rw [entryReplaced_eq, reported_setLink, entryReplaced_eq, reported_link]

/-- R1: with distinct transaction numbers an entry replaces itself. -/
theorem entryReplaced_self {s : State} {t : Fin 64} {r : Request} (h : findRequest s t = some r) (hd : TxnsDistinct s) :
    entryReplaced t r s = s := by
  have hsame := updateRequest_eq_entryReplaced h hd id
  have hmap : s.link.requests.map (fun q => if q.txn = t then id q else q) = s.link.requests := by simp
  rw [← show entryReplaced t (id r) s = entryReplaced t r s from rfl, ← hsame, updateRequest, hmap]
  rfl

theorem latchedWhole_entryReplaced_other {t t' : Fin 64} {q : Request} (hq : q.txn = t) (r : Request) (s : State) :
    latchedWhole t' r (entryReplaced t q s) = entryReplaced t q (latchedWhole t' r s) := by
  have hlog : ∀ (ls : List ReqLine) (u : State), ls.foldl (fun x l =>
      logRefusal (refusalOf r l .guestLatch (l.verdict.bind Verdict.window)) x) (entryReplaced t q u) = entryReplaced t q
        (ls.foldl (fun x l => logRefusal (refusalOf r l .guestLatch (l.verdict.bind Verdict.window)) x) u) := fun ls => by
    induction ls with
    | nil => exact fun _ => rfl
    | cons l ls ih =>
      intro u
      rw [List.foldl_cons, List.foldl_cons, logRefusal_entryReplaced, ih]
  have hkept : (s.link.requests.map (fun x => if x.txn = t then q else x)).filter (fun x => decide (x.txn ≠ t')) =
      (s.link.requests.filter (fun x => decide (x.txn ≠ t'))).map (fun x => if x.txn = t then q else x) := by
    rw [List.filter_map]
    refine congrArg _ (List.filter_congr fun x _ => ?_)
    by_cases hx : x.txn = t <;> simp [hx, hq]
  unfold latchedWhole
  rw [← hlog]
  simp only [entryReplaced, hkept]

theorem findRequest_latchSet {t : Fin 64} (c : LatchCause) {xs : List (Deferred × Request)} (h : ∀ x ∈ xs, x.1.txn ≠ t)
    (s : State) : findRequest (latchSet c xs s) t = findRequest s t := by
  have hfold : ∀ u : State, findRequest (xs.foldl (fun y x => latchedWhole x.1.txn x.2 y) u) t = findRequest u t := by
    induction xs with
    | nil => exact fun _ => rfl
    | cons x xs ih =>
      exact fun u => (ih (fun y hy => h y (List.mem_cons_of_mem x hy)) _).trans
        (findRequest_latchedWhole (h x List.mem_cons_self).symm x.2 u)
  exact (hfold _).trans (findRequest_of_link (reported_link _ _) t)

theorem latchSet_entryReplaced {t : Fin 64} {q : Request} (hq : q.txn = t) (c : LatchCause)
    (xs : List (Deferred × Request)) (s : State) : latchSet c xs (entryReplaced t q s) = entryReplaced t q (latchSet c xs s) := by
  have hfold : ∀ u : State, xs.foldl (fun y x => latchedWhole x.1.txn x.2 y) (entryReplaced t q u) =
      entryReplaced t q (xs.foldl (fun y x => latchedWhole x.1.txn x.2 y) u) := by
    induction xs with
    | nil => exact fun _ => rfl
    | cons x xs ih =>
      intro u
      rw [List.foldl_cons, List.foldl_cons, latchedWhole_entryReplaced_other hq, ih]
  unfold latchSet
  rw [← hfold, ← reported_entryReplaced]
  rfl

/-! ### The lines of a guest request come to stage 5 (R7, R9) -/

/-- The line waits for stage 5. -/
def waitingLine (l : ReqLine) : ReqLine := { l with stage := .awaitsGuest }

theorem nextTurn_append {pre : List ReqLine} (h : ∀ l ∈ pre, l.stage ≠ .awaitsTurn) (k : Nat) (ls : List ReqLine) :
    nextTurn k (pre ++ ls) = nextTurn (k + pre.length) ls := by
  induction pre generalizing k with
  | nil => rfl
  | cons l pre ih =>
    rw [List.cons_append, nextTurn, if_neg fun hc => h l List.mem_cons_self hc.2,
      ih (fun x hx => h x (List.mem_cons_of_mem l hx)), List.length_cons, Nat.add_assoc, Nat.add_comm 1]

theorem handlerOf_of_guest {b : Bool} {r : Request} {l : ReqLine} (h : r.cls = .guest) : handlerOf b r l = none := by
  cases hh : handlerOf b r l with
  | none => rfl
  | some x => rcases (handlerOf_spec hh).2.1 with hc | hc <;> simp [h] at hc

/-- R7, R9: lines that pass stage 4 unchanged wait one after the other; then the Guest Budget sees the request. -/
theorem runLines_of_guest {t : Fin 64} (todo : List ReqLine) {s : State} {q : Request} {pre : List ReqLine} {fuel : Nat}
    (hs : ∃ r, findRequest s t = some r) (ht : q.txn = t) (hcls : q.cls = .guest) (hlines : q.lines = pre ++ todo)
    (hpre : ∀ l ∈ pre, l.stage ≠ .awaitsTurn)
    (htodo : ∀ l ∈ todo, l.outcome = .pending ∧ l.stage = .awaitsTurn ∧ ∃ addr w role i, l.verdict = some (.pass addr w role i))
    (hfuel : todo.length < fuel) (hactive : q.progress = .active ∨ todo ≠ []) :
    runLines t fuel (entryReplaced t q s) =
      guestStage t (entryReplaced t { q with progress := .active, lines := pre ++ todo.map waitingLine } s) := by
  obtain ⟨r, hr⟩ := hs
  have hfound := findRequest_entryReplaced hr ht
  induction todo generalizing q pre fuel with
  | nil =>
    obtain ⟨n, rfl⟩ : ∃ n, fuel = n + 1 := ⟨fuel - 1, by simp at hfuel; omega⟩
    rw [List.append_nil] at hlines
    have hnone : nextTurn 0 q.lines = none := by
      have h := nextTurn_append hpre 0 []
      rw [List.append_nil] at h
      rw [hlines, h]
      rfl
    have hsame : ({ q with progress := .active, lines := pre ++ ([] : List ReqLine).map waitingLine } : Request) = q := by
      rw [List.map_nil, List.append_nil, ← hlines, ← hactive.resolve_right (by simp)]
    rw [hsame]
    simp only [runLines, hfound, hnone]
  | cons l rest ih =>
    obtain ⟨n, rfl⟩ : ∃ n, fuel = n + 1 := ⟨fuel - 1, by omega⟩
    obtain ⟨ho, hstage, addr, w, role, i, hv⟩ := htodo l List.mem_cons_self
    have hnext : nextTurn 0 q.lines = some (pre.length, l) := by
      rw [hlines, nextTurn_append hpre, nextTurn, if_pos ⟨ho, hstage⟩, Nat.zero_add]
    have hmarked : updateLine t pre.length waitingLine (activate t (entryReplaced t q s)) =
        entryReplaced t { q with progress := .active, lines := pre ++ waitingLine l :: rest } s := by
      rw [activate, updateRequest_entryReplaced ht, updateLine, updateRequest_entryReplaced (by exact ht)]
      simp only [Request.onLine, hlines, modify_append_length]
    have hstep : runLines t (n + 1) (entryReplaced t q s) =
        runLines t n (updateLine t pre.length waitingLine (activate t (entryReplaced t q s))) := by
      have hnot : ¬(handlerOf (entryReplaced t q s).loader.running q l).isSome = true := by
        rw [handlerOf_of_guest hcls]
        simp
      simp only [runLines, hfound, hnext, hv, if_neg hnot, if_pos hcls]
      rfl
    have hrest := ih (q := { q with progress := .active, lines := pre ++ waitingLine l :: rest })
      (pre := pre ++ [waitingLine l]) (fuel := n) ht hcls (by simp) (fun x hx => ?_)
      (fun x hx => htodo x (List.mem_cons_of_mem l hx)) (by simp at hfuel; omega) (.inl rfl)
      (findRequest_entryReplaced hr ht)
    · rw [List.append_assoc] at hrest
      rw [hstep, hmarked, hrest]
      rfl
    · rcases List.mem_append.mp hx with hx | hx
      · exact hpre x hx
      · rw [List.mem_singleton.mp hx]
        simp [waitingLine]

theorem guestStage_of_waiting {s : State} {t : Fin 64} {q : Request} (hq : findRequest s t = some q) (hcls : q.cls = .guest)
    (hw : AllWait q) : guestStage t s = judgeGuest t q.tag s := by
  have hne : waitingLines t s ≠ [] := by
    rw [waitingLines_of_all hq (waits_of_allWait hw)]
    have := hw.1
    cases hlines : q.lines with
    | nil => exact absurd hlines this
    | cons l ls => simp [List.range'_succ]
  simp only [guestStage, hq, if_pos (⟨hcls, hne⟩ : _ ∧ _)]

/-! ### Re-judgement (R159) -/

/-- The line with the verdict that the tables in force now give it. -/
def lineJudged (s : State) (q : Request) (l : ReqLine) : ReqLine :=
  { l with verdict := some (judgeLine s.guard s.mem.size q.cls q.kind l.bus) }

theorem judgedAgain_eq (s : State) (q : Request) : judgedAgain s q = { q with lines := q.lines.map (lineJudged s q) } := rfl

/-- R159: a line that still passes is judged again. -/
theorem rejudgeLine_of_passing {s : State} {t : Fin 64} {q : Request} {k : Nat} {l : ReqLine}
    (hs : ∃ r, findRequest s t = some r) (ht : q.txn = t) (hl : q.lines[k]? = some l)
    (hqueue : s.guest.queue.any (fun e => decide (e.txn = t)) = true) {cls : InitClass} {kind : AccessKind} {addr : Nat}
    {w : Option (Fin 16)} {role : Role} {i : Nat} (hv : judgeLine s.guard s.mem.size cls kind l.bus = .pass addr w role i) :
    rejudgeLine t cls kind k (entryReplaced t q s) = entryReplaced t
      (Request.onLine k (fun l' => { l' with verdict := some (judgeLine s.guard s.mem.size cls kind l.bus) }) q) s := by
  obtain ⟨r, hr⟩ := hs
  have hline : (findRequest (entryReplaced t q s) t).bind (fun r => r.lines[k]?) = some l := by
    rw [findRequest_entryReplaced hr ht]
    exact hl
  have hqueued : (entryReplaced t q s).guest.queue.any (fun e => decide (e.txn = t)) = true := hqueue
  have hverdict : judgeLine (entryReplaced t q s).guard (entryReplaced t q s).mem.size cls kind l.bus =
      .pass addr w role i := hv
  simp only [rejudgeLine, if_pos hqueued, hline, hverdict]
  rw [updateLine, updateRequest_entryReplaced ht, hv]

/-- R159: the lines that are left of a request, all still passing, are judged again one after the other. -/
theorem foldl_rejudgeLine {t : Fin 64} (todo : List ReqLine) {s : State} {q : Request} {pre : List ReqLine}
    (hs : ∃ r, findRequest s t = some r) (ht : q.txn = t) (hlines : q.lines = pre ++ todo)
    (hqueue : s.guest.queue.any (fun e => decide (e.txn = t)) = true)
    (hpass : ∀ l ∈ todo, ∃ addr w role i, judgeLine s.guard s.mem.size q.cls q.kind l.bus = .pass addr w role i) :
    (List.range' pre.length todo.length).foldl (fun s k => rejudgeLine t q.cls q.kind k s) (entryReplaced t q s) =
      entryReplaced t { q with lines := pre ++ todo.map (lineJudged s q) } s := by
  induction todo generalizing q pre with
  | nil =>
    rw [List.append_nil] at hlines
    show entryReplaced t q s = entryReplaced t { q with lines := pre ++ [] } s
    rw [List.append_nil, ← hlines]
  | cons l rest ih =>
    obtain ⟨addr, w, role, i, hv⟩ := hpass l List.mem_cons_self
    have hget : q.lines[pre.length]? = some l := by rw [hlines, getElem?_append_length]
    have hstep := rejudgeLine_of_passing hs ht hget hqueue hv
    have hentry : Request.onLine pre.length
        (fun l' => { l' with verdict := some (judgeLine s.guard s.mem.size q.cls q.kind l.bus) }) q =
          { q with lines := pre ++ lineJudged s q l :: rest } := by
      rw [Request.onLine, hlines, modify_append_length]
      rfl
    have hlen : (pre ++ [lineJudged s q l]).length = pre.length + 1 := by simp
    have hrest := ih (q := { q with lines := pre ++ lineJudged s q l :: rest }) (pre := pre ++ [lineJudged s q l]) ht (by simp)
      fun y hy => hpass y (List.mem_cons_of_mem l hy)
    rw [hlen, List.append_assoc] at hrest
    rw [List.length_cons, List.range'_succ, List.foldl_cons, hstep, hentry]
    exact hrest

theorem allWait_judgedAgain {s : State} {q : Request} (h : AllWait q) : AllWait (judgedAgain s q) := by
  refine ⟨by simpa [judgedAgain] using h.1, fun l hl => ?_⟩
  obtain ⟨x, hx, rfl⟩ := List.mem_map.mp hl
  exact h.2 x hx

/-- R159: the head of the deferral queue, whose lines still pass, goes to the budget again. -/
theorem rejudgeHead_of_passing {s : State} {e : Deferred} {q : Request} (hs : ∃ r, findRequest s e.txn = some r)
    (ht : q.txn = e.txn) (hw : AllWait q) (hqueue : e ∈ s.guest.queue)
    (hpass : ∀ l ∈ (judgedAgain s q).lines, ∃ addr w role i, l.verdict = some (.pass addr w role i)) :
    rejudgeHead e (entryReplaced e.txn q s) =
      rejudgeBudget e.txn q.lines.length (entryReplaced e.txn (judgedAgain s q) s) := by
  obtain ⟨r, hr⟩ := hs
  have hany : s.guest.queue.any (fun d => decide (d.txn = e.txn)) = true :=
    List.any_eq_true.mpr ⟨e, hqueue, decide_eq_true rfl⟩
  have hfound := findRequest_entryReplaced hr ht
  have hfold := foldl_rejudgeLine (pre := []) q.lines ⟨r, hr⟩ ht rfl hany fun l hl => by
    obtain ⟨addr, w, role, i, hv⟩ := hpass _ (List.mem_map_of_mem hl)
    exact ⟨addr, w, role, i, Option.some.inj hv⟩
  rw [List.nil_append] at hfold
  have hlength : (waitingLines e.txn (entryReplaced e.txn (judgedAgain s q) s)).length = q.lines.length := by
    rw [waitingLines_of_all (findRequest_entryReplaced hr (r := judgedAgain s q) ht) (waits_of_allWait (allWait_judgedAgain hw)),
      List.length_range', judgedAgain_eq, List.length_map]
  obtain ⟨n, hn⟩ : ∃ n, q.lines.length = n + 1 := ⟨q.lines.length - 1, by
    have := List.length_pos_iff.mpr hw.1
    omega⟩
  unfold rejudgeHead
  rw [hfound]
  dsimp only
  rw [waitingLines_of_all hfound (waits_of_allWait hw), show (0 : Nat) = ([] : List ReqLine).length from rfl, hfold,
    ← judgedAgain_eq, if_pos (by exact hany), hlength, hn]

/-- R159: a queue of one entry is released at most once. -/
theorem releaseAll_of_one {s : State} {e : Deferred} (hqueue : s.guest.queue = [e]) {b : Bool}
    (h : b = true ∨ e.cond ≠ .period) : releaseAll b s = rejudgeHead e s := by
  have hnot : ¬(b = false ∧ e.cond = .period) := fun hc => h.elim (fun hb => by simp [hb] at hc) fun hp => hp hc.2
  have hfuel : releaseAll b s = release b 2 s := by
    rw [releaseAll, hqueue]
    rfl
  have hstop : (rejudgeHead e s).guest.queue.length < 1 → release b 1 (rejudgeHead e s) = rejudgeHead e s := fun hlt => by
    have hnil : (rejudgeHead e s).guest.queue = [] := List.length_eq_zero_iff.mp (by omega)
    simp only [release, hnil]
  rw [hfuel]
  simp only [release, hqueue, if_neg hnot, List.length_nil, Nat.zero_add]
  by_cases hlt : (rejudgeHead e s).guest.queue.length < 1
  · rw [if_pos hlt]
    exact hstop hlt
  · exact if_neg hlt

theorem popDeferred_servedWhole (t : Fin 64) (q : Request) (s : State) :
    popDeferred (servedWhole t q s) = servedWhole t q (popDeferred s) := by
  have hserved : ∀ u : State, servedWhole t q u = linesHanded t q.kind 0 q.lines (entryReplaced t { q with
      deferralReserved := false, lines := q.lines.map (fun l => { l with stage := .handed }) }
    (u.setGuest { u.guest with usage := min (u.guest.usage + q.lines.length) 65535, timer := 0 })) := fun u => rfl
  rw [hserved, hserved, linesHanded_entryReplaced, linesHanded_setGuest, linesHanded_entryReplaced, linesHanded_setGuest,
    popDeferred, popDeferred, linesHanded_setGuest]
  rfl

end Sys2Proof.Machine
end

section
/-! PROOFS. The first judgement of a guest request (R155) and the refusal of a lone guest line (R10, R161). -/

namespace Sys2Proof.Machine

open Sys2Proof Sys2Proof.Safety

/-! ### The request at stage 5 -/

/-- The request that has started (R6), in the form of the specification: no place is reserved for it any more. -/
def guestStarted (s : State) (r : Request) : Request :=
  { judgeRequest s r with progress := .active, captureReserved := 0, deferralReserved := false }

/-- The request whose lines all wait for stage 5. -/
def guestWaiting (s : State) (r : Request) : Request :=
  { guestStarted s r with lines := (guestStarted s r).lines.map waitingLine }

theorem captureNeed_of_guest {r : Request} (h : r.cls = .guest) : captureNeed r = 0 := by
  have hnone : r.lines.filter (wouldCapture r) = [] := List.filter_eq_nil_iff.mpr fun l _ => by
    simp [wouldCapture, handlerOf_of_guest h]
  simp only [captureNeed, hnone, List.length_nil]

/-- R9: a guest request whose lines all pass comes to the Guest Budget. -/
theorem exec_guestStart {s : State} {t : Fin 64} {r : Request} (h : AtStart s t r) (hfree : PlacesFree s (judgeRequest s r))
    (hcls : s.guard.classMap[r.tag] = .guest) (hpos : 1 ≤ r.lines.length) (hfour : r.lines.length ≤ 4)
    (hlines : ∀ l ∈ (judgeRequest s r).lines, l.outcome = .pending ∧ l.stage = .awaitsTurn ∧
      ∃ addr w role i, l.verdict = some (.pass addr w role i)) :
    exec (.requestStart t) s = .next (judgeGuest t r.tag (entryReplaced t
      { guestWaiting s r with deferralReserved := deferralNeed (judgeRequest s r) } s)) := by
  have htxn : r.txn = t := findRequest_txn h.1
  have hlength : (startedRequest s r).lines.length = r.lines.length := List.length_map _
  have hne : (startedRequest s r).lines ≠ [] := fun hnil => by
    rw [hnil] at hlength
    simp at hlength
    omega
  have hwaiting : ({ startedRequest s r with
      progress := .active, lines := ([] : List ReqLine) ++ (startedRequest s r).lines.map waitingLine } : Request) =
        { guestWaiting s r with deferralReserved := deferralNeed (judgeRequest s r) } := by
    have hneed : captureNeed (judgeRequest s r) = 0 := captureNeed_of_guest hcls
    simp only [startedRequest, hneed]
    rfl
  have hall : AllWait { guestWaiting s r with deferralReserved := deferralNeed (judgeRequest s r) } := by
    refine ⟨fun hnil => hne (List.map_eq_nil_iff.mp hnil), fun l hl => ?_⟩
    obtain ⟨x, hx, rfl⟩ := List.mem_map.mp hl
    exact ⟨(hlines x hx).1, rfl⟩
  rw [exec_requestStart_of_free h hfree, runRequest,
    runLines_of_guest (q := startedRequest s r) (startedRequest s r).lines ⟨r, h.1⟩ htxn hcls (List.nil_append _).symm (by simp) hlines (by omega)
      (.inr hne), hwaiting,
    guestStage_of_waiting (findRequest_entryReplaced h.1 (by exact htxn)) hcls hall]
  rfl

/-! ### What the judgement does with the request -/

/-- The state whose entry `t` is a request of which all lines wait, no matter what place it reserves. -/
structure GuestAt (s : State) (t : Fin 64) (q : Request) : Prop where
  present : ∃ r, findRequest s t = some r
  txn : q.txn = t
  wait : AllWait q
  pass : ∀ l ∈ q.lines, ∃ addr w role i, l.verdict = some (.pass addr w role i)

/-- The request with no place reserved for it. -/
def unreserved (q : Request) : Request := { q with deferralReserved := false }

theorem latchGuest_eq {s : State} {t : Fin 64} {q : Request} (h : GuestAt s t q) :
    latchGuest t (entryReplaced t q s) = latchedWhole t q s := by
  obtain ⟨⟨r, hr⟩, ht, hw, _⟩ := h
  rw [latchGuest, updateRequest_entryReplaced ht, refuseWaiting_eq (findRequest_entryReplaced hr (by exact ht)) (by exact hw),
    latchedWhole_entryReplaced (by exact ht)]
  rfl

theorem deferGuest_eq {s : State} {t : Fin 64} {q : Request} (ht : q.txn = t) (tag : Fin 16) (n : Nat) (c : DeferCond) :
    deferGuest t tag n c (entryReplaced t q s) =
      entryReplaced t (unreserved q) { s with guest := { s.guest with queue := s.guest.queue ++ [⟨t, tag, n, c⟩] } } := by
  rw [deferGuest, updateRequest_entryReplaced ht]
  rfl

theorem waitingLines_guestAt {s : State} {t : Fin 64} {q : Request} (h : GuestAt s t q) :
    (waitingLines t (entryReplaced t q s)).length = q.lines.length := by
  obtain ⟨⟨r, hr⟩, ht, hw, _⟩ := h
  rw [waitingLines_of_all (findRequest_entryReplaced hr ht) (waits_of_allWait hw), List.length_range']

/-- R162: the latch is set while a request stands at stage 5. -/
theorem latchGuest_setLatch {s : State} {t : Fin 64} {q : Request} (h : GuestAt s t q) (c : LatchCause)
    {xs : List (Deferred × Request)} (hq : QueueIs s xs) (hxs : ∀ x ∈ xs, x.1.txn ≠ t) :
    latchGuest t (setLatch c (entryReplaced t q s)) = latchedWhole t q (latchSet c xs s) := by
  obtain ⟨⟨r, hr⟩, ht, hw, hpass⟩ := h
  obtain ⟨hqueue, hnodup, hfind⟩ := hq
  have hq' : QueueIs (entryReplaced t q s) xs := ⟨hqueue, hnodup, fun x hx => by
    rw [findRequest_entryReplaced_other ht (hxs x hx)]
    exact hfind x hx⟩
  rw [setLatch_eq hq' c, latchSet_entryReplaced ht, latchGuest_eq ⟨⟨r, (findRequest_latchSet c hxs s).trans hr⟩, ht, hw, hpass⟩]

/-! ### The steps of the judgement (R155) -/

section steps

variable {s : State} {t : Fin 64} {q : Request} {tag : Fin 16}

theorem judgeGuest_of_latch (h : GuestAt s t q) (hlatch : s.guest.latch ≠ none) :
    judgeGuest t tag (entryReplaced t q s) = latchedWhole t q s := (if_pos hlatch).trans (latchGuest_eq h)

theorem judgeGuest_of_follow (h : GuestAt s t q) (hlatch : s.guest.latch = none) (htag : ∃ e ∈ s.guest.queue, e.tag = tag) :
    judgeGuest t tag (entryReplaced t q s) = deferGuest t tag q.lines.length .follow (entryReplaced t q s) := by
  obtain ⟨e, he, het⟩ := htag
  have hany : s.guest.queue.any (fun e => decide (e.tag = tag)) = true := List.any_eq_true.mpr ⟨e, he, decide_eq_true het⟩
  rw [← waitingLines_guestAt h]
  exact (if_neg fun hc => hc hlatch).trans (if_pos hany)

/-- R155: step 5, at the soft budget. -/
def softStep (t : Fin 64) (tag : Fin 16) (n : Nat) (s : State) : State :=
  if s.guest.inForce.soft ≤ s.guest.usage then
    if s.guest.queue = [] ∧ s.guest.inForce.pace ≤ s.guest.timer then releaseAll false (deferGuest t tag n .pace s)
    else deferGuest t tag n .pace s
  else serveGuest t s

/-- R155: the judgement of a request that neither the latch nor an entry of its tag takes, by the mode. -/
theorem judgeGuest_of_free (h : GuestAt s t q) (hlatch : s.guest.latch = none) (htag : ∀ e ∈ s.guest.queue, e.tag ≠ tag) :
    (s.guest.inForce.mode = .off → judgeGuest t tag (entryReplaced t q s) = serveGuest t (entryReplaced t q s)) ∧
    (s.guest.inForce.mode = .cycle → s.guest.inForce.hard < s.guest.usage + q.lines.length →
      judgeGuest t tag (entryReplaced t q s) = deferGuest t tag q.lines.length .period (entryReplaced t q s)) ∧
    (s.guest.inForce.mode = .latched → s.guest.inForce.hard < s.guest.usage + q.lines.length →
      judgeGuest t tag (entryReplaced t q s) = latchGuest t (setLatch .budget (entryReplaced t q s))) ∧
    (s.guest.inForce.mode ≠ .off → s.guest.usage + q.lines.length ≤ s.guest.inForce.hard →
      judgeGuest t tag (entryReplaced t q s) = softStep t tag q.lines.length (entryReplaced t q s)) := by
  have hnone : ¬s.guest.latch ≠ none := fun hc => hc hlatch
  have hfollow : ¬s.guest.queue.any (fun e => decide (e.tag = tag)) = true := fun hany => by
    obtain ⟨e, he, het⟩ := List.any_eq_true.mp hany
    exact htag e he (of_decide_eq_true het)
  have hguest : (entryReplaced t q s).guest = s.guest := rfl
  have hn := waitingLines_guestAt h
  refine ⟨fun hmode => ?_, fun hmode hhard => ?_, fun hmode hhard => ?_, fun hmode hhard => ?_⟩
  · simp only [judgeGuest, hguest, if_neg hnone, if_neg hfollow, hmode]
  · simp only [judgeGuest, hguest, if_neg hnone, if_neg hfollow, hmode, hn, if_pos hhard]
  · simp only [judgeGuest, hguest, if_neg hnone, if_neg hfollow, hmode, hn, if_pos hhard]
  · have hwithin : ¬s.guest.inForce.hard < s.guest.usage + q.lines.length := by omega
    cases hm : s.guest.inForce.mode with
    | off => exact absurd hm hmode
    | cycle =>
      simp only [judgeGuest, hguest, if_neg hnone, if_neg hfollow, hm, hn, if_neg hwithin]
      rfl
    | latched =>
      simp only [judgeGuest, hguest, if_neg hnone, if_neg hfollow, hm, hn, if_neg hwithin]
      rfl

/-- R159: a request that still passes and stays within the budget leaves the head of the queue. -/
theorem rejudgeBudget_of_served (h : GuestAt s t q) (hlatch : s.guest.latch = none)
    (hbudget : s.guest.inForce.mode = .off ∨ (s.guest.usage + q.lines.length ≤ s.guest.inForce.hard ∧
      (s.guest.usage < s.guest.inForce.soft ∨ s.guest.inForce.pace ≤ s.guest.timer))) :
    rejudgeBudget t q.lines.length (entryReplaced t q s) = servedWhole t q (popDeferred s) := by
  obtain ⟨hs, ht, hw, hpass⟩ := h
  have hnone : ¬s.guest.latch ≠ none := fun hc => hc hlatch
  have hguest : (entryReplaced t q s).guest = s.guest := rfl
  have hserve : popDeferred (serveGuest t (entryReplaced t q s)) = servedWhole t q (popDeferred s) := by
    rw [serveGuest_eq hs ht hw hpass, popDeferred_servedWhole]
  rw [← hserve]
  cases hm : s.guest.inForce.mode with
  | off => simp only [rejudgeBudget, hguest, if_neg hnone, hm]
  | cycle =>
    obtain ⟨hhard, hsoft⟩ := hbudget.resolve_left (by simp [hm])
    have hwithin : ¬s.guest.inForce.hard < s.guest.usage + q.lines.length := by omega
    have hfast : ¬(s.guest.inForce.soft ≤ s.guest.usage ∧ s.guest.timer < s.guest.inForce.pace) := by omega
    simp only [rejudgeBudget, hguest, if_neg hnone, hm, if_neg hwithin, if_neg hfast]
  | latched =>
    obtain ⟨hhard, hsoft⟩ := hbudget.resolve_left (by simp [hm])
    have hwithin : ¬s.guest.inForce.hard < s.guest.usage + q.lines.length := by omega
    have hfast : ¬(s.guest.inForce.soft ≤ s.guest.usage ∧ s.guest.timer < s.guest.inForce.pace) := by omega
    simp only [rejudgeBudget, hguest, if_neg hnone, hm, if_neg hwithin, if_neg hfast]

theorem restore_queue {ds : List Deferred} (hempty : s.guest.queue = []) :
    State.setGuest { s with guest := { s.guest with queue := ds } } { s.guest with queue := [] } = s := by
  rw [← hempty]
  rfl

/-- R157: a request that joins an empty queue with the pacing timer at the pace is judged again at once, and served. -/
theorem releaseAll_of_joined (h : GuestAt s t q) (hlatch : s.guest.latch = none) (hempty : s.guest.queue = [])
    (hpace : s.guest.inForce.pace ≤ s.guest.timer) (hhard : s.guest.usage + q.lines.length ≤ s.guest.inForce.hard)
    (hagain : judgedAgain s q = q) :
    releaseAll false (deferGuest t tag q.lines.length .pace (entryReplaced t q s)) = servedWhole t (unreserved q) s := by
  obtain ⟨hs, ht, hw, hpass⟩ := h
  rw [deferGuest_eq ht]
  generalize hu : ({ s with guest := { s.guest with
    queue := s.guest.queue ++ [⟨t, tag, q.lines.length, .pace⟩] } } : State) = u
  have hqueue : u.guest.queue = [⟨t, tag, q.lines.length, .pace⟩] := by
    rw [← hu]
    show s.guest.queue ++ _ = _
    rw [hempty]
    rfl
  have hus : ∃ r, findRequest u t = some r := hu ▸ hs
  have hjudged : judgedAgain u (unreserved q) = unreserved q := by
    have hlines := congrArg Request.lines hagain
    rw [← hu]
    show ({ unreserved q with lines := (judgedAgain s q).lines } : Request) = _
    rw [hlines]
    rfl
  have hpop : popDeferred u = s := by
    rw [popDeferred, hqueue, ← hu, List.drop_one, List.tail_cons]
    exact restore_queue hempty
  have hhead := rejudgeHead_of_passing (s := u) (e := ⟨t, tag, q.lines.length, .pace⟩) (q := unreserved q) hus ht hw
    (by rw [hqueue]; exact List.mem_singleton_self _) (by rw [hjudged]; exact hpass)
  rw [hjudged] at hhead
  have hguestu : u.guest.latch = s.guest.latch ∧ u.guest.usage = s.guest.usage ∧ u.guest.inForce = s.guest.inForce ∧
      u.guest.timer = s.guest.timer := hu ▸ ⟨rfl, rfl, rfl, rfl⟩
  obtain ⟨hl, husage, hforce, htimer⟩ := hguestu
  have hserved := rejudgeBudget_of_served (s := u) (q := unreserved q) ⟨hus, ht, hw, hpass⟩ (hl.trans hlatch)
    (.inr ⟨by rw [husage, hforce]; exact hhard, .inr (by rw [hforce, htimer]; exact hpace)⟩)
  rw [hpop] at hserved
  have hqueue' : (entryReplaced t (unreserved q) u).guest.queue = [⟨t, tag, q.lines.length, .pace⟩] := hqueue
  exact (releaseAll_of_one hqueue' (.inr (by simp))).trans (hhead.trans hserved)

end steps

/-! ### The place and the stages do not show in what becomes of the request -/

theorem latchedWhole_guestWaiting (t : Fin 64) (s : State) (r : Request) (b : Bool) (u : State) :
    latchedWhole t { guestWaiting s r with deferralReserved := b } u = latchedWhole t (guestStarted s r) u :=
  latchedWhole_of_stages t (guestStarted s r) .awaitsGuest u

theorem linesHanded_map (t : Fin 64) (kind : AccessKind) (k : Nat) (ls : List ReqLine) (s : State) :
    linesHanded t kind k (ls.map waitingLine) s = linesHanded t kind k ls s := by
  induction ls generalizing k s with
  | nil => rfl
  | cons l ls ih => rw [List.map_cons, linesHanded_cons, linesHanded_cons, ih]; rfl

theorem servedWhole_guestWaiting (t : Fin 64) (s : State) (r : Request) (b : Bool) (u : State) :
    servedWhole t { guestWaiting s r with deferralReserved := b } u = servedWhole t (guestStarted s r) u := by
  have hhanded : (guestWaiting s r).lines.map (fun l => { l with stage := .handed }) =
      (guestStarted s r).lines.map (fun l => { l with stage := .handed }) := by
    show (List.map _ _).map _ = _
    rw [List.map_map]
    rfl
  have hlength : (guestWaiting s r).lines.length = (guestStarted s r).lines.length := List.length_map _
  show linesHanded t _ 0 (guestWaiting s r).lines (entryReplaced t { guestWaiting s r with
      deferralReserved := false, lines := (guestWaiting s r).lines.map (fun l => { l with stage := .handed }) }
    (u.setGuest { u.guest with usage := min (u.guest.usage + (guestWaiting s r).lines.length) 65535, timer := 0 })) = _
  rw [hhanded, hlength]
  exact linesHanded_map t (guestStarted s r).kind 0 (guestStarted s r).lines _

/-- R159: a request judged under the tables in force is judged no differently again. -/
theorem judgedAgain_guestWaiting (s : State) (r : Request) (b : Bool) :
    judgedAgain s { guestWaiting s r with deferralReserved := b } = { guestWaiting s r with deferralReserved := b } := by
  have hlines : (guestWaiting s r).lines.map (lineJudged s (guestWaiting s r)) = (guestWaiting s r).lines := by
    show ((r.lines.map _).map waitingLine).map _ = (r.lines.map _).map waitingLine
    rw [List.map_map, List.map_map, List.map_map]
    rfl
  show ({ guestWaiting s r with
    deferralReserved := b, lines := (guestWaiting s r).lines.map (lineJudged s (guestWaiting s r)) } : Request) = _
  rw [hlines]

/-! ### The violation of a refused line (R10, R161) -/

/-- The state with one violation more. -/
def violated (s : State) : State := { s with guest := { s.guest with violations := min (s.guest.violations + 1) 65535 } }

theorem countViolation_of_below {s : State} (h : s.guest.inForce.fault = 0 ∨
    min (s.guest.violations + 1) 65535 < s.guest.inForce.fault ∨ s.guest.latch ≠ none) : countViolation s = violated s :=
  if_neg fun ⟨hover, hpos, hlatch⟩ => h.elim (fun h0 => by
    have hpos' : 0 < s.guest.inForce.fault := hpos
    omega) fun h => h.elim (fun hlt => absurd hover (by exact Nat.not_le.mpr hlt)) fun hset => hset hlatch

theorem countViolation_of_fault {s : State} (hpos : 0 < s.guest.inForce.fault)
    (hover : s.guest.inForce.fault ≤ min (s.guest.violations + 1) 65535) (hlatch : s.guest.latch = none)
    {xs : List (Deferred × Request)} (hq : QueueIs (violated s) xs) :
    countViolation s = latchSet .guardFault xs (violated s) :=
  (if_pos ⟨hover, hpos, hlatch⟩).trans (setLatch_eq hq .guardFault)

theorem recordRefusal_of_guest {s : State} {t : Fin 64} {r : Request} (h : findRequest s t = some r) (hcls : r.cls = .guest)
    {c : Cause} (hc : c ≠ .guestLatch) (k : Nat) : recordRefusal t k c s = countViolation (recordLine t k c s) := by
  simp only [recordRefusal, h, hcls, decide_true]
  exact if_pos ⟨trivial, hc⟩

/-- R11: the guard's tests never refuse for the latch. -/
theorem judgeLine_ne_guestLatch {g : GuardState} {size : DramSize} {cls : InitClass} {kind : AccessKind} {bus : Nat}
    {c : Cause} {w : Option (Fin 16)} (h : judgeLine g size cls kind bus = .refuse c w) : c ≠ .guestLatch := by
  rintro rfl
  simp only [judgeLine] at h
  repeat' split at h
  all_goals cases h

theorem judgeRequest_verdict {s : State} {r : Request} {l : ReqLine} (hline : (judgeRequest s r).lines = [l]) {v : Verdict}
    (hv : l.verdict = some v) : judgeLine s.guard s.mem.size s.guard.classMap[r.tag] r.kind l.bus = v := by
  obtain ⟨x, -, rfl⟩ := List.mem_map.mp (hline ▸ List.mem_singleton_self l : l ∈ (judgeRequest s r).lines)
  exact Option.some.inj hv

theorem refusedTaken_guest (t : Fin 64) (kind : AccessKind) (s : State) : (refusedTaken t kind s).guest = s.guest := by
  cases kind <;> rfl

theorem findRequest_refusedTaken_other (s : State) (kind : AccessKind) {t t' : Fin 64} (hne : t' ≠ t) :
    findRequest (refusedTaken t kind s) t' = findRequest s t' := by
  have hfind : (s.link.requests.filter (fun q => decide (q.txn ≠ t))).find? (fun r => decide (r.txn = t')) =
      s.link.requests.find? (fun r => decide (r.txn = t')) := by
    rw [List.find?_filter]
    congr 1
    funext q
    by_cases hq : q.txn = t'
    · simp [hq, hne]
    · simp [hq]
  cases kind <;> exact hfind

/-- Settles O20: the steps of the judgement in order, and the violation of a lone refused line. -/
theorem guestRequestJudgedInOrder : Obligations.GuestRequestJudgedInOrder := by
  unfold Obligations.GuestRequestJudgedInOrder
  refine ⟨fun s t r h hfree hcls hpos hfour hlines => ?judged, fun s t r l cause w h hfree hcls hline ho hstage hv => ?violates⟩
  case judged =>
    have htxn : r.txn = t := findRequest_txn h.1
    have hlength : (guestStarted s r).lines.length = r.lines.length := List.length_map _
    generalize hb : deferralNeed (judgeRequest s r) = b
    generalize hq : ({ guestWaiting s r with deferralReserved := b } : Request) = q
    have hqlen : q.lines.length = r.lines.length := by
      rw [← hq]
      exact (List.length_map _).trans hlength
    have hqlines : q.lines = (guestStarted s r).lines.map waitingLine := hq ▸ rfl
    have hat : GuestAt s t q := by
      refine ⟨⟨r, h.1⟩, hq ▸ htxn, ⟨fun hnil => ?_, fun l hl => ?_⟩, fun l hl => ?_⟩
      · rw [hnil] at hqlen
        simp at hqlen
        omega
      · rw [hqlines] at hl
        obtain ⟨x, hx, rfl⟩ := List.mem_map.mp hl
        exact ⟨(hlines x hx).1, rfl⟩
      · rw [hqlines] at hl
        obtain ⟨x, hx, rfl⟩ := List.mem_map.mp hl
        exact (hlines x hx).2.2
    have hexec : exec (.requestStart t) s = .next (judgeGuest t r.tag (entryReplaced t q s)) := by
      rw [exec_guestStart h hfree hcls hpos hfour hlines, hb, hq]
    have hlatched : ∀ u, latchedWhole t q u = latchedWhole t (guestStarted s r) u := fun u =>
      hq ▸ latchedWhole_guestWaiting t s r b u
    have hserved : ∀ u, servedWhole t q u = servedWhole t (guestStarted s r) u := fun u =>
      hq ▸ servedWhole_guestWaiting t s r b u
    have hunreserved : ∀ u, servedWhole t (unreserved q) u = servedWhole t (guestStarted s r) u := fun u =>
      hq ▸ servedWhole_guestWaiting t s r false u
    have hdefer : ∀ c, deferGuest t r.tag r.lines.length c (entryReplaced t q s) = entryReplaced t (guestWaiting s r)
        { s with guest := { s.guest with queue := s.guest.queue ++ [⟨t, r.tag, r.lines.length, c⟩] } } := fun c => by
      rw [deferGuest_eq hat.txn, ← hq]
      rfl
    have hagain : judgedAgain s q = q := by
      rw [← hq]
      exact judgedAgain_guestWaiting s r b
    rw [hexec]
    refine ⟨fun hlatch => ?_, fun hlatch htag => ?_, fun hlatch htag => ?_⟩
    · rw [judgeGuest_of_latch hat hlatch, hlatched]
      rfl
    · rw [judgeGuest_of_follow hat hlatch htag, hqlen, hdefer]
      rfl
    · obtain ⟨hoff, hcycle, hlatchedMode, hwithin⟩ := judgeGuest_of_free hat hlatch htag
      rw [hqlen] at hcycle hlatchedMode hwithin
      refine ⟨fun hmode => ?_, fun hmode hhard => ?_, fun hmode hhard xs hxs hne => ?_, fun hmode hhard => ?_⟩
      · rw [hoff hmode, serveGuest_eq hat.present hat.txn hat.wait hat.pass, hserved]
        rfl
      · rw [hcycle hmode hhard, hdefer]
        rfl
      · rw [hlatchedMode hmode hhard, latchGuest_setLatch hat .budget hxs hne, hlatched]
        rfl
      · rw [hwithin hmode hhard, softStep]
        simp only [show (entryReplaced t q s).guest = s.guest from rfl]
        refine ⟨fun hsoft => ?_, fun hsoft hslow => ?_, fun hsoft hfast hempty => ?_⟩
        · rw [if_neg (by omega), serveGuest_eq hat.present hat.txn hat.wait hat.pass, hserved]
          rfl
        · have hstays : ¬(s.guest.queue = [] ∧ s.guest.inForce.pace ≤ s.guest.timer) := fun hc =>
            hslow.elim (fun hlt => by omega) fun hqueue => hqueue hc.1
          rw [if_pos hsoft, if_neg hstays, hdefer]
          rfl
        · have hjoined := releaseAll_of_joined (tag := r.tag) hat hlatch hempty hfast (by omega) hagain
          rw [hqlen] at hjoined
          rw [if_pos hsoft, if_pos ⟨hempty, hfast⟩, hjoined, hunreserved]
          rfl
  case violates =>
    have htxn : r.txn = t := findRequest_txn h.1
    obtain ⟨hrun, hrecord⟩ := runRequest_of_refused (q := startedRequest s r) ⟨r, h.1⟩ htxn hline ho hstage hv
    have hfound := findRequest_entryReplaced h.1
      (show ({ startedRequest s r with progress := .active } : Request).txn = t from htxn)
    have hexec : exec (.requestStart t) s = .next (runLines t 4 (countViolation
        (logRefusal (refusalOf (judgeRequest s r) l cause w) (refusedTaken t r.kind s)))) := by
      rw [exec_requestStart_of_free h hfree, hrun,
        recordRefusal_of_guest hfound hcls (judgeLine_ne_guestLatch (judgeRequest_verdict hline hv)), hrecord]
      rfl
    generalize hu : logRefusal (refusalOf (judgeRequest s r) l cause w) (refusedTaken t r.kind s) = u at hexec
    have hguest : u.guest = s.guest := by rw [← hu, logRefusal_guest, refusedTaken_guest]
    have hfind : ∀ t', t' ≠ t → findRequest u t' = findRequest s t' := fun t' hne => by
      rw [← hu, findRequest_logRefusal, findRequest_refusedTaken_other s r.kind hne]
    have hgone : findRequest u t = none := by rw [← hu, findRequest_logRefusal, findRequest_refusedTaken]
    rw [hexec, ← hguest]
    refine ⟨fun hbelow => ?_, fun hpos hover hlatch xs hxs hne => ?_⟩
    · rw [countViolation_of_below hbelow]
      exact congrArg Host.Outcome.next (runLines_of_absent (s := violated u) 4 hgone)
    · obtain ⟨hqueue, hnodup, hat⟩ := hxs
      have hq : QueueIs (violated u) xs := ⟨(congrArg GuestState.queue hguest).trans hqueue, hnodup, fun x hx => by
        exact ⟨(hfind x.1.txn (hne x hx)).trans (hat x hx).1, (hat x hx).2⟩⟩
      rw [countViolation_of_fault hpos hover hlatch hq]
      exact congrArg Host.Outcome.next (runLines_of_absent 4 ((findRequest_latchSet .guardFault hne (violated u)).trans hgone))

end Sys2Proof.Machine
end

section
/-! PROOFS. A deferred guest request that is alone in the queue is judged again (R159): at the pace (R157) and at a period
boundary (R160). -/

namespace Sys2Proof.Machine

open Sys2Proof Sys2Proof.Safety

/-! ### The one entry of the queue -/

/-- The deferral queue's one entry, and the request that it stands for. -/
structure AloneDeferred (s : State) (e : Deferred) (r : Request) : Prop where
  distinct : TxnsDistinct s
  alone : s.guest.queue = [e]
  found : findRequest s e.txn = some r
  wait : AllWait r

theorem AloneDeferred.txn {s : State} {e : Deferred} {r : Request} (h : AloneDeferred s e r) : r.txn = e.txn :=
  findRequest_txn h.found

section alone

variable {s : State} {e : Deferred} {r : Request}

theorem releaseAll_of_passing (h : AloneDeferred s e r)
    (hpass : ∀ l ∈ (judgedAgain s r).lines, ∃ addr w role i, l.verdict = some (.pass addr w role i)) {b : Bool}
    (hb : b = true ∨ e.cond ≠ .period) :
    releaseAll b s = rejudgeBudget e.txn r.lines.length (entryReplaced e.txn (judgedAgain s r) s) := by
  have hhead := rejudgeHead_of_passing ⟨r, h.found⟩ (findRequest_txn h.found) h.wait (by simp [h.alone]) hpass
  rw [entryReplaced_self h.found h.distinct] at hhead
  rw [releaseAll_of_one h.alone hb, hhead]

theorem judgedAgain_guestAt (h : AloneDeferred s e r)
    (hpass : ∀ l ∈ (judgedAgain s r).lines, ∃ addr w role i, l.verdict = some (.pass addr w role i)) :
    GuestAt s e.txn (judgedAgain s r) :=
  ⟨⟨r, h.found⟩, h.txn, allWait_judgedAgain h.wait, hpass⟩

theorem judgedAgain_length (s : State) (r : Request) : (judgedAgain s r).lines.length = r.lines.length := List.length_map _

/-- R159: the entry is served and leaves. -/
theorem releaseAll_of_served (h : AloneDeferred s e r)
    (hpass : ∀ l ∈ (judgedAgain s r).lines, ∃ addr w role i, l.verdict = some (.pass addr w role i)) {b : Bool}
    (hb : b = true ∨ e.cond ≠ .period) (hlatch : s.guest.latch = none)
    (hbudget : s.guest.inForce.mode = .off ∨ (s.guest.usage + r.lines.length ≤ s.guest.inForce.hard ∧
      (s.guest.usage < s.guest.inForce.soft ∨ s.guest.inForce.pace ≤ s.guest.timer))) :
    releaseAll b s = servedWhole e.txn (judgedAgain s r) (s.setGuest { s.guest with queue := [] }) := by
  have hpop : popDeferred s = s.setGuest { s.guest with queue := [] } := by
    rw [popDeferred, h.alone]
    rfl
  have hserved := rejudgeBudget_of_served (judgedAgain_guestAt h hpass) hlatch (by rw [judgedAgain_length]; exact hbudget)
  rw [judgedAgain_length, hpop] at hserved
  rw [releaseAll_of_passing h hpass hb, hserved]

/-- R159: above the hard budget the entry waits for the next period. -/
theorem releaseAll_of_kept (h : AloneDeferred s e r)
    (hpass : ∀ l ∈ (judgedAgain s r).lines, ∃ addr w role i, l.verdict = some (.pass addr w role i)) {b : Bool}
    (hb : b = true ∨ e.cond ≠ .period) (hlatch : s.guest.latch = none) (hmode : s.guest.inForce.mode = .cycle)
    (hover : s.guest.inForce.hard < s.guest.usage + r.lines.length) :
    releaseAll b s = entryReplaced e.txn (judgedAgain s r)
      (s.setGuest { s.guest with queue := [{ e with size := r.lines.length, cond := .period }] }) := by
  have hguest : (entryReplaced e.txn (judgedAgain s r) s).guest = s.guest := rfl
  have hkept : keepDeferred r.lines.length .period (entryReplaced e.txn (judgedAgain s r) s) =
      entryReplaced e.txn (judgedAgain s r)
        (s.setGuest { s.guest with queue := [{ e with size := r.lines.length, cond := .period }] }) := by
    simp only [keepDeferred, hguest, h.alone]
    rfl
  rw [releaseAll_of_passing h hpass hb, ← hkept]
  simp only [rejudgeBudget, hguest, if_neg (fun hc => hc hlatch : ¬s.guest.latch ≠ none), hmode, if_pos hover]

/-- R159, R162: above the hard budget the latch is set, and the entry is refused with it. -/
theorem releaseAll_of_latched (h : AloneDeferred s e r)
    (hpass : ∀ l ∈ (judgedAgain s r).lines, ∃ addr w role i, l.verdict = some (.pass addr w role i)) {b : Bool}
    (hb : b = true ∨ e.cond ≠ .period) (hlatch : s.guest.latch = none) (hmode : s.guest.inForce.mode = .latched)
    (hover : s.guest.inForce.hard < s.guest.usage + r.lines.length) :
    releaseAll b s = latchedWhole e.txn (judgedAgain s r) (latchSet .budget [] s) := by
  have hguest : (entryReplaced e.txn (judgedAgain s r) s).guest = s.guest := rfl
  have htxn : (judgedAgain s r).txn = e.txn := h.txn
  have hqueue : QueueIs (entryReplaced e.txn (judgedAgain s r) s) [(e, judgedAgain s r)] := by
    refine ⟨h.alone, by simp, fun x hx => ?_⟩
    rw [List.mem_singleton.mp hx]
    exact ⟨findRequest_entryReplaced h.found htxn, allWait_judgedAgain h.wait⟩
  have hset : setLatch .budget (entryReplaced e.txn (judgedAgain s r) s) =
      latchedWhole e.txn (judgedAgain s r) (latchSet .budget [] s) := by
    rw [setLatch_eq hqueue, ← latchedWhole_entryReplaced htxn, ← latchSet_entryReplaced htxn]
    rfl
  rw [releaseAll_of_passing h hpass hb, ← hset]
  simp only [rejudgeBudget, hguest, if_neg (fun hc => hc hlatch : ¬s.guest.latch ≠ none), hmode, if_pos hover]

/-! ### A lone line that now fails (R159, R161) -/

theorem refuseWaiting_of_absent {t : Fin 64} {s : State} (h : findRequest s t = none) : refuseWaiting t s = s := by
  simp only [refuseWaiting, waitingLines, h]
  rfl

/-- R162: a latch that is set when the one deferred request has just been refused refuses no other. -/
theorem setLatch_of_gone (c : LatchCause) (hqueue : s.guest.queue = [e]) (hgone : findRequest s e.txn = none) :
    setLatch c s = latchSet c [] s := by
  unfold setLatch latchSet
  dsimp only
  rw [arise_eq_reported, reported_guest, reported_setGuest]
  simp only [State.setGuest_guest, hqueue, List.foldl_cons, List.foldl_nil]
  rw [refuseWaiting_of_absent]
  · exact (reported_setGuest _ s { s.guest with latch := some c, queue := [] }).symm
  · exact (findRequest_of_link (reported_link _ s) e.txn).trans hgone

/-- R159: a lone line that now fails is refused with its new cause. -/
theorem rejudgeLine_of_refused (h : AloneDeferred s e r) {l : ReqLine} (hline : r.lines = [l]) (hcls : r.cls = .guest)
    {cause : Cause} {w : Option (Fin 16)} (hv : judgeLine s.guard s.mem.size .guest r.kind l.bus = .refuse cause w) :
    rejudgeLine e.txn r.cls r.kind 0 s =
      countViolation (logRefusal (refusalOf r l cause w) (refusedTaken e.txn r.kind s)) := by
  have hany : s.guest.queue.any (fun d => decide (d.txn = e.txn)) = true := by simp [h.alone]
  have hget : (findRequest s e.txn).bind (fun r => r.lines[0]?) = some l := by
    rw [h.found, Option.bind_some, hline]
    rfl
  have hmarked : ∀ v : Verdict, findRequest (updateLine e.txn 0 (fun l => { l with verdict := some v }) s) e.txn =
      some { r with lines := [{ l with verdict := some v }] } := fun v => by
    rw [updateLine, findRequest_updateRequest]
    case hf => exact fun _ => rfl
    rw [h.found]
    simp [Request.onLine, hline]
  simp only [rejudgeLine, if_pos hany, hget, hcls, hv]
  rw [recordRefusal_of_guest (hmarked _) hcls (judgeLine_ne_guestLatch hv), recordLine_of_lone (hmarked _) rfl, updateLine,
    refusedTaken_updateRequest]
  · rfl
  · exact fun _ => rfl

/-- R159: when no line of the head is left waiting, it leaves. -/
theorem rejudgeHead_of_none_left (hr : findRequest s e.txn = some r) {y : State}
    (hy : (waitingLines e.txn s).foldl (fun s k => rejudgeLine e.txn r.cls r.kind k s) s = y) (hqueue : e ∈ y.guest.queue)
    (hgone : findRequest y e.txn = none) : rejudgeHead e s = popDeferred y := by
  have hany : y.guest.queue.any (fun d => decide (d.txn = e.txn)) = true :=
    List.any_eq_true.mpr ⟨e, hqueue, decide_eq_true rfl⟩
  have hlines : (waitingLines e.txn y).length = 0 := by simp only [waitingLines, hgone, List.length_nil]
  simp only [rejudgeHead, hr, hy, if_pos hany, hlines]

/-- R159, R162: when the violation of its line set the latch, the queue is empty. -/
theorem rejudgeHead_of_emptied (hr : findRequest s e.txn = some r) {y : State}
    (hy : (waitingLines e.txn s).foldl (fun s k => rejudgeLine e.txn r.cls r.kind k s) s = y) (hqueue : y.guest.queue = []) :
    rejudgeHead e s = y := by
  have hnot : ¬y.guest.queue.any (fun d => decide (d.txn = e.txn)) = true := by simp [hqueue]
  simp only [rejudgeHead, hr, hy, if_neg hnot]

theorem latchSet_nil_queue (c : LatchCause) (s : State) : (latchSet c [] s).guest.queue = [] := by
  rw [latchSet, List.foldl_nil, reported_guest]

/-- The state in which the lone line of the head has been refused: its request is gone. -/
def lineRefused (e : Deferred) (r : Request) (l : ReqLine) (cause : Cause) (w : Option (Fin 16)) (s : State) : State :=
  logRefusal (refusalOf r l cause w) (refusedTaken e.txn r.kind s)

theorem lineRefused_guest (e : Deferred) (r : Request) (l : ReqLine) (cause : Cause) (w : Option (Fin 16)) (s : State) :
    (lineRefused e r l cause w s).guest = s.guest := by
  rw [lineRefused, logRefusal_guest, refusedTaken_guest]

theorem findRequest_lineRefused (e : Deferred) (r : Request) (l : ReqLine) (cause : Cause) (w : Option (Fin 16)) (s : State) :
    findRequest (lineRefused e r l cause w s) e.txn = none := by
  rw [lineRefused, findRequest_logRefusal, findRequest_refusedTaken]

theorem releaseAll_of_refused (h : AloneDeferred s e r) {l : ReqLine} (hline : r.lines = [l]) (hcls : r.cls = .guest)
    {cause : Cause} {w : Option (Fin 16)} (hv : judgeLine s.guard s.mem.size .guest r.kind l.bus = .refuse cause w)
    {b : Bool} (hb : b = true ∨ e.cond ≠ .period) {g : State}
    (hg : g = (lineRefused e r l cause w s).setGuest { s.guest with
      violations := min (s.guest.violations + 1) 65535, queue := [] }) :
    (s.guest.inForce.fault = 0 ∨ g.guest.violations < s.guest.inForce.fault ∨ s.guest.latch ≠ none → releaseAll b s = g) ∧
    (0 < s.guest.inForce.fault → s.guest.inForce.fault ≤ g.guest.violations → s.guest.latch = none →
      releaseAll b s = latchSet .guardFault [] g) := by
  have hwaits : waitingLines e.txn s = [0] := by
    rw [waitingLines_of_all h.found (waits_of_allWait h.wait), hline]
    rfl
  generalize hx : lineRefused e r l cause w s = x at hg
  have hguest : x.guest = s.guest := by rw [← hx, lineRefused_guest]
  have hgone : findRequest x e.txn = none := by rw [← hx, findRequest_lineRefused]
  have hfold : (waitingLines e.txn s).foldl (fun s k => rejudgeLine e.txn r.cls r.kind k s) s = countViolation x := by
    rw [hwaits, ← hx]
    exact rejudgeLine_of_refused h hline hcls hv
  rw [releaseAll_of_one h.alone hb]
  subst hg
  refine ⟨fun hbelow => ?_, fun hpos hover hlatch => ?_⟩
  · rw [← hguest] at hbelow
    rw [countViolation_of_below hbelow] at hfold
    have hqueue : (violated x).guest.queue = [e] := (congrArg GuestState.queue hguest).trans h.alone
    rw [rejudgeHead_of_none_left h.found hfold (by rw [hqueue]; simp) hgone, popDeferred, hqueue, ← hguest]
    rfl
  · rw [← hguest] at hpos hover hlatch
    have hset : countViolation x = latchSet .guardFault [] (violated x) :=
      (if_pos ⟨hover, hpos, hlatch⟩).trans
        (setLatch_of_gone (s := violated x) .guardFault ((congrArg GuestState.queue hguest).trans h.alone) hgone)
    rw [hset] at hfold
    rw [rejudgeHead_of_emptied h.found hfold (latchSet_nil_queue _ _), ← hguest]
    rfl

end alone

end Sys2Proof.Machine
end

section
/-! PROOFS. The pacing timer's expiry (R157) and the period boundary (R160) with one deferred request. -/

namespace Sys2Proof.Machine

open Sys2Proof Sys2Proof.Safety

/-! ### What the operations on the request do not read -/

/-- R12: the memory once the lines of a list are handed over. -/
def memLinesHanded (t : Fin 64) (kind : AccessKind) (k : Nat) (ls : List ReqLine) (m : MemState) : MemState :=
  (ls.zipIdx k).foldl (fun m q => memHanded (handedLine t kind q.1 q.2) m) m

theorem linesHanded_eq (t : Fin 64) (kind : AccessKind) (k : Nat) (ls : List ReqLine) (s : State) :
    linesHanded t kind k ls s = s.setMem (memLinesHanded t kind k ls s.mem) := by
  induction ls generalizing k s with
  | nil => rfl
  | cons l ls ih =>
    rw [linesHanded_cons, ih, handed_eq, memLinesHanded, memLinesHanded, List.zipIdx_cons, List.foldl_cons]
    rfl

/-- The request with its lines at the Memory Port. -/
def allLinesHanded (q : Request) : Request :=
  { q with deferralReserved := false, lines := q.lines.map (fun l => { l with stage := .handed }) }

theorem servedWhole_eq (t : Fin 64) (q : Request) (s : State) : servedWhole t q s =
    (entryReplaced t (allLinesHanded q)
      (s.setGuest { s.guest with usage := min (s.guest.usage + q.lines.length) 65535, timer := 0 })).setMem
        (memLinesHanded t q.kind 0 q.lines s.mem) :=
  linesHanded_eq t q.kind 0 q.lines _

theorem logRefusal_setGuest (e : GuardEntry) (s : State) (g : GuestState) :
    logRefusal e (s.setGuest g) = (logRefusal e s).setGuest g := by
  unfold logRefusal
  rw [State.setGuest_guard]
  cases s.guard.log with
  | nil => exact reported_setGuest _ (s.setGuard { s.guard with log := [e] }) g
  | cons n rest =>
    dsimp only
    split
    · rfl
    · exact reported_setGuest _ (s.setGuard { s.guard with log := (e :: n :: rest).take Config.guardLogSize }) g

section clock

variable {s : State} {t : TimeState}

/-- The stamp of a report (R50) is that of another time state. -/
def SameClock (t u : TimeState) : Prop := t.seconds = u.seconds ∧ t.millis = u.millis ∧ t.clock = u.clock

theorem reported_setClock (h : SameClock t s.time) (b : ReportBody) : reported b (s.setTime t) = (reported b s).setTime t :=
  reported_setTime h.1 h.2.1 h.2.2 b

theorem logRefusal_setTime (h : SameClock t s.time) (e : GuardEntry) :
    logRefusal e (s.setTime t) = (logRefusal e s).setTime t := by
  unfold logRefusal
  rw [State.setTime_guard]
  cases s.guard.log with
  | nil => exact reported_setClock (s := s.setGuard { s.guard with log := [e] }) h _
  | cons n rest =>
    dsimp only
    split
    · rfl
    · exact reported_setClock (s := s.setGuard { s.guard with log := (e :: n :: rest).take Config.guardLogSize }) h _

theorem refusedTaken_setTime (x : Fin 64) (kind : AccessKind) :
    refusedTaken x kind (s.setTime t) = (refusedTaken x kind s).setTime t := by cases kind <;> rfl

theorem refusedTaken_setGuest (x : Fin 64) (kind : AccessKind) (g : GuestState) :
    refusedTaken x kind (s.setGuest g) = (refusedTaken x kind s).setGuest g := by cases kind <;> rfl

theorem refusedTaken_mem (x : Fin 64) (kind : AccessKind) (s : State) : (refusedTaken x kind s).mem = s.mem := by
  cases kind <;> rfl

theorem refusedTaken_time (x : Fin 64) (kind : AccessKind) (s : State) : (refusedTaken x kind s).time = s.time := by
  cases kind <;> rfl

theorem latchedWhole_setTime (h : SameClock t s.time) (x : Fin 64) (q : Request) :
    latchedWhole x q (s.setTime t) = (latchedWhole x q s).setTime t := by
  have hlog : ∀ (ls : List ReqLine) (u : State), SameClock t u.time → ls.foldl (fun x l =>
      logRefusal (refusalOf q l .guestLatch (l.verdict.bind Verdict.window)) x) (u.setTime t) = (ls.foldl (fun x l =>
        logRefusal (refusalOf q l .guestLatch (l.verdict.bind Verdict.window)) x) u).setTime t := fun ls => by
    induction ls with
    | nil => exact fun _ _ => rfl
    | cons l ls ih =>
      intro u hu
      rw [List.foldl_cons, List.foldl_cons, logRefusal_setTime hu, ih _ (by rw [logRefusal_time]; exact hu)]
  unfold latchedWhole
  rw [← hlog _ _ (by exact h)]
  rfl

theorem latchSet_nil_setTime (h : SameClock t s.time) (c : LatchCause) :
    latchSet c [] (s.setTime t) = (latchSet c [] s).setTime t :=
  reported_setClock (s := { s with guest := { s.guest with latch := some c, queue := [] } }) h _

theorem latchSet_nil_time (c : LatchCause) (s : State) : (latchSet c [] s).time = s.time := reported_time _ _

theorem latchSet_nil_mem (c : LatchCause) (s : State) : (latchSet c [] s).mem = s.mem := reported_mem _ _

theorem latchedWhole_mem (x : Fin 64) (q : Request) (s : State) : (latchedWhole x q s).mem = s.mem := by
  have hlog : ∀ (ls : List ReqLine) (u : State), (ls.foldl (fun x l =>
      logRefusal (refusalOf q l .guestLatch (l.verdict.bind Verdict.window)) x) u).mem = u.mem := fun ls => by
    induction ls with
    | nil => exact fun _ => rfl
    | cons l ls ih =>
      intro u
      rw [List.foldl_cons, ih, logRefusal_mem]
  exact hlog _ _

theorem sameClock_boundaryTime (t : TimeState) : SameClock (boundaryTime t) t := by
  rw [boundaryTime_eq]
  exact ⟨rfl, rfl, rfl⟩

end clock

/-! ### The rows -/

/-- R157: a PACE entry at the head is judged again when the timer reaches the pace. -/
theorem exec_pacingExpiry {s : State} {e : Deferred} (hqueue : s.guest.queue = [e]) (hcond : e.cond = .pace) :
    exec .pacingExpiry s =
      .next (releaseAll false (s.setGuest { s.guest with timer := max s.guest.timer s.guest.inForce.pace })) := by
  have hhead : paceHead s.guest = true := by simp only [paceHead, hqueue, hcond, decide_true]
  exact congrArg Host.Outcome.next (if_pos ⟨hhead, Nat.le_max_right _ _⟩)

theorem exec_pacingExpiry_of_no_pace {s : State} (h : ∀ e rest, s.guest.queue = e :: rest → e.cond ≠ .pace) :
    exec .pacingExpiry s = .next (s.setGuest { s.guest with timer := max s.guest.timer s.guest.inForce.pace }) := by
  have hhead : ¬paceHead s.guest = true := by
    cases hq : s.guest.queue with
    | nil => simp [paceHead, hq]
    | cons e rest => simp [paceHead, hq, h e rest hq]
  exact congrArg Host.Outcome.next (if_neg fun hc => hhead hc.1)

/-- R160: the state that the Guest Budget begins a period with. -/
def periodBegun (s : State) : State := s.setGuest { s.guest with usage := 0, violations := 0 }

/-- R57, R160: with no setting staged and no round, a boundary is the time base's and the Guest Budget's. -/
theorem exec_periodBoundary_of_idle {s : State} (hstaged : s.guest.staged = none) (hround : s.label.round = .idle)
    (hzone : s.label.zone = none) :
    exec .periodBoundary s = .next (releaseAll true ((periodBegun s).setTime (boundaryTime s.time))) := by
  have hbegun : guestBoundary (s.setTime (boundaryTime s.time)) =
      releaseAll true ((periodBegun s).setTime (boundaryTime s.time)) := by
    show releaseAll true ((s.setTime (boundaryTime s.time)).setGuest { s.guest with
      usage := 0, inForce := s.guest.staged.getD s.guest.inForce, staged := none, violations := 0 }) = _
    rw [hstaged, Option.getD_none, ← hstaged]
    rfl
  have hlabel : (guestBoundary (s.setTime (boundaryTime s.time))).label = s.label := (linkSide_guestBoundary _).label
  have hsame : labelBoundary (guestBoundary (s.setTime (boundaryTime s.time))) =
      guestBoundary (s.setTime (boundaryTime s.time)) := by
    by_cases hhold : (guestBoundary (s.setTime (boundaryTime s.time))).mem.hold = true
    · exact labelBoundary_of_hold hhold
    · refine labelBoundary_of_neither (Bool.eq_false_iff.mpr hhold) ?_ ?_
      · simp [zoneWaiting, hlabel, hzone]
      · simp [hlabel, hround]
  rw [← hbegun, ← hsame]
  rfl

/-- Settles O41: the one deferred request, by the mode and the budget, at the boundary and at the pace. -/
theorem deferredGuestRequestsReleased : Obligations.DeferredGuestRequestsReleased := by
  unfold Obligations.DeferredGuestRequestsReleased
  refine ⟨fun s e r hd hqueue hr hw hcls hpass hlatch => ?passing,
    fun s e r l cause w hd hqueue hr hline hw hcls hv => ?refused, fun s h => exec_pacingExpiry_of_no_pace h⟩
  case passing =>
    have hlength : (judgedAgain s r).lines.length = r.lines.length := judgedAgain_length s r
    refine ⟨fun hstaged hround hzone => ?boundary, fun hcond => ?pace⟩
    case boundary =>
      have hexec := exec_periodBoundary_of_idle hstaged hround hzone
      have halone : AloneDeferred ((periodBegun s).setTime (boundaryTime s.time)) e r := ⟨hd, hqueue, hr, hw⟩
      refine ⟨fun hbudget => ?_, fun hmode hover => ?_, fun hmode hover => ?_⟩
      · have hserved := releaseAll_of_served halone hpass (b := true) (.inl rfl) hlatch
          (hbudget.imp id fun ⟨hhard, hsoft⟩ => ⟨by exact (Nat.zero_add _).symm ▸ hhard, .inl hsoft⟩)
        rw [servedWhole_eq] at hserved
        refine ⟨_, hexec.trans (congrArg Host.Outcome.next hserved), ?_, ?_, ?_, rfl, rfl⟩
        · show ({ s.guest with
            usage := min (0 + (judgedAgain s r).lines.length) 65535, violations := 0, queue := [], timer := 0 } : GuestState) = _
          rw [hlength, Nat.zero_add]
        · rw [servedWhole_eq]
          rfl
        · rw [servedWhole_eq]
          rfl
      · have hkept := releaseAll_of_kept halone hpass (b := true) (.inl rfl) hlatch hmode
          (by exact (Nat.zero_add _).symm ▸ hover)
        exact ⟨_, hexec.trans (congrArg Host.Outcome.next hkept), rfl, rfl, rfl, rfl, rfl⟩
      · have hset := releaseAll_of_latched halone hpass (b := true) (.inl rfl) hlatch hmode
          (by exact (Nat.zero_add _).symm ▸ hover)
        have hclock : SameClock (boundaryTime s.time) (latchSet .budget [] (periodBegun s)).time := by
          rw [latchSet_nil_time]
          exact sameClock_boundaryTime s.time
        rw [latchSet_nil_setTime (s := periodBegun s) (sameClock_boundaryTime s.time), latchedWhole_setTime hclock] at hset
        refine ⟨_, hexec.trans (congrArg Host.Outcome.next hset), rfl, ?_, rfl, rfl, rfl⟩
        exact (latchedWhole_mem _ _ _).trans (latchSet_nil_mem _ _)
    case pace =>
      have hexec := exec_pacingExpiry hqueue hcond
      have hnot : false = true ∨ e.cond ≠ .period := .inr (by simp [hcond])
      have halone : AloneDeferred (s.setGuest { s.guest with timer := max s.guest.timer s.guest.inForce.pace }) e r :=
        ⟨hd, hqueue, hr, hw⟩
      refine ⟨fun hbudget => ?_, fun hmode hover => ?_, fun hmode hover => ?_⟩
      · have hserved := releaseAll_of_served halone hpass hnot hlatch
          (hbudget.imp id fun hhard => ⟨hhard, .inr (Nat.le_max_right _ _)⟩)
        exact hexec.trans (congrArg Host.Outcome.next hserved)
      · exact hexec.trans (congrArg Host.Outcome.next (releaseAll_of_kept halone hpass hnot hlatch hmode hover))
      · exact hexec.trans (congrArg Host.Outcome.next (releaseAll_of_latched halone hpass hnot hlatch hmode hover))
  case refused =>
    refine ⟨fun hcond => ?pace, fun hstaged hround hzone hfault => ?boundary⟩
    case pace =>
      have hnot : false = true ∨ e.cond ≠ .period := .inr (by simp [hcond])
      generalize hu : s.setGuest { s.guest with timer := max s.guest.timer s.guest.inForce.pace } = u
      have halone : AloneDeferred u e r := hu ▸ ⟨hd, hqueue, hr, hw⟩
      have hgone : lineRefused e r l cause w u =
          (lineRefused e r l cause w s).setGuest { s.guest with timer := max s.guest.timer s.guest.inForce.pace } := by
        rw [← hu, lineRefused, refusedTaken_setGuest, logRefusal_setGuest]
        rfl
      have hrefused := releaseAll_of_refused halone hline hcls (b := false) (cause := cause) (w := w) (hu ▸ hv) hnot
        (g := (lineRefused e r l cause w s).setGuest { s.guest with
          violations := min (s.guest.violations + 1) 65535, queue := []
          timer := max s.guest.timer s.guest.inForce.pace }) (by rw [hgone, ← hu]; rfl)
      rw [exec_pacingExpiry hqueue hcond, hu]
      subst hu
      exact ⟨fun hbelow => congrArg Host.Outcome.next (hrefused.1 hbelow),
        fun hpos hover hlatch => congrArg Host.Outcome.next (hrefused.2 hpos hover hlatch)⟩
    case boundary =>
      generalize hu : (periodBegun s).setTime (boundaryTime s.time) = u
      have halone : AloneDeferred u e r := hu ▸ ⟨hd, hqueue, hr, hw⟩
      have hgone : lineRefused e r l cause w u = ((lineRefused e r l cause w s).setGuest
          { s.guest with usage := 0, violations := 0 }).setTime (boundaryTime s.time) := by
        have hclock : SameClock (boundaryTime s.time) (refusedTaken e.txn r.kind (periodBegun s)).time := by
          rw [refusedTaken_time]
          exact sameClock_boundaryTime s.time
        rw [← hu, lineRefused, refusedTaken_setTime, logRefusal_setTime hclock, periodBegun, refusedTaken_setGuest,
          logRefusal_setGuest]
        rfl
      have hrefused := (releaseAll_of_refused halone hline hcls (b := true) (cause := cause) (w := w) (hu ▸ hv) (.inl rfl)
        rfl).1 (by
          rw [← hu]
          show s.guest.inForce.fault = 0 ∨ min (0 + 1) 65535 < s.guest.inForce.fault ∨ _
          omega)
      have hexec := exec_periodBoundary_of_idle hstaged hround hzone
      rw [hu, hrefused, hgone, ← hu] at hexec
      exact ⟨_, hexec, rfl, (logRefusal_mem _ _).trans (refusedTaken_mem _ _ _), rfl, rfl, rfl⟩

end Sys2Proof.Machine
end

section
/-! PROOFS. The comparison of a held price line with the line it overwrites (R115 to R120). -/

namespace Sys2Proof.Machine

open Sys2Proof Sys2Proof.Safety

/-! ### The comparison does not read the port or the access of the Price Watch -/

/-- The state with the capture read off the port: this memory, and no access of the Price Watch. -/
def captureOver (m : MemState) (s : State) : State := { s with mem := m, price := { s.price with access := .idle } }

section readOver

variable (m : MemState) (s : State)

theorem reported_captureOver (b : ReportBody) : reported b (captureOver m s) = captureOver m (reported b s) := by
  rw [reported_eq, reported_eq]
  rfl

theorem endRound_captureOver (b : Bool) : endRound b (captureOver m s) = captureOver m (endRound b s) := by
  unfold endRound
  simp only [arise_eq_reported, reported_captureOver]
  rfl

theorem visitZones_captureOver (zs : List (Fin 16)) : visitZones zs (captureOver m s) = captureOver m (visitZones zs s) := by
  induction zs generalizing s with
  | nil => exact endRound_captureOver m s false
  | cons z rest ih =>
    have hopen : openVisit z (captureOver m s) = captureOver m (openVisit z s) := rfl
    have hlabel : (captureOver m (openVisit z s)).label = (openVisit z s).label := rfl
    simp only [visitZones, hopen, hlabel]
    split
    · exact ih (closeVisit z (openVisit z s))
    · rfl

theorem endVisit_captureOver : endVisit (captureOver m s) = captureOver m (endVisit s) := by
  have hlabel : (captureOver m s).label = s.label := rfl
  cases hz : s.label.zone with
  | none => simp only [endVisit, hlabel, hz]
  | some z =>
    have hclose : closeVisit z (captureOver m s) = captureOver m (closeVisit z s) := rfl
    have hlabel' : (captureOver m (closeVisit z s)).label = (closeVisit z s).label := rfl
    simp only [endVisit, hlabel, hz, hclose, hlabel']
    split
    · exact endRound_captureOver m _ true
    · exact visitZones_captureOver m _ _

theorem visitDone_captureOver : visitDone (captureOver m s) = captureOver m (visitDone s) := by
  by_cases hdone : zoneWaiting s.label = true ∧ s.label.awaited = []
  · obtain ⟨z, hz, _⟩ := zoneWaiting_iff.mp hdone.1
    rw [visitDone_of_done hz hdone.1 hdone.2, visitDone_of_done (s := captureOver m s) hz hdone.1 hdone.2,
      reported_captureOver, endVisit_captureOver]
    rfl
  · rw [visitDone_of_not_done hdone, visitDone_of_not_done (s := captureOver m s) hdone]

theorem leaveAwaited_captureOver (item : Nat) (b : Bool) :
    leaveAwaited item b (captureOver m s) = captureOver m (leaveAwaited item b s) := by
  by_cases h : item ∈ s.label.awaited
  · rw [leaveAwaited_of_mem h, leaveAwaited_of_mem (s := captureOver m s) h, ← visitDone_captureOver]
    rfl
  · rw [leaveAwaited_of_not_mem h, leaveAwaited_of_not_mem (s := captureOver m s) h]

theorem entryPut_captureOver (e : WatchEntry) : entryPut e (captureOver m s) = captureOver m (entryPut e s) := rfl

theorem restaged_captureOver (e : WatchEntry) : restaged e (captureOver m s) = captureOver m (restaged e s) := rfl

end readOver

/-! ### The rows of the comparison (R116 to R119) -/

section rows

variable {s : State} {old new : Line} {addr : Nat}

/-- R119: an entry is replaced and leaves withdrawal order. -/
theorem leaveWithdrawals_updateEntry {item : Nat} {e : WatchEntry} (hd : ItemsDistinct s) (h : findEntry s item = some e)
    {f : WatchEntry → WatchEntry} (hf : (f e).item = e.item) :
    leaveWithdrawals item (updateEntry item f s) = restaged (f e) s := by
  have hitem : item = (f e).item := (findEntry_item h).symm.trans hf.symm
  rw [updateEntry_eq hd h hf, leaveWithdrawals, hitem]
  rfl

theorem comparePrice_of_reassigned (h : (readPrice old).item ≠ (readPrice new).item) :
    comparePrice old new addr s = (true, reassign (readPrice old).item addr s) := if_pos h

theorem reassign_of_none {item : Nat} (h : entryOf s item = none) : reassign item addr s = s := by
  simp only [reassign, show findEntry s item = none from h]

theorem reassign_of_marked {item x : Nat} {e : WatchEntry} (h : entryOf s item = some e) (hx : e.exit = .afterWrite x) :
    reassign item addr s = s := by
  simp only [reassign, show findEntry s item = some e from h, hx]

theorem reassign_of_unmarked {item : Nat} {e : WatchEntry} (hd : ItemsDistinct s) (h : entryOf s item = some e)
    (hx : ∀ x, e.exit ≠ .afterWrite x) : reassign item addr s = restaged { e with exit := .afterWrite addr } s := by
  rw [← leaveWithdrawals_updateEntry (f := fun e => { e with exit := .afterWrite addr }) hd h rfl]
  simp only [reassign, show findEntry s item = some e from h]

theorem comparePrice_of_entry (hitem : (readPrice old).item = (readPrice new).item) {e : WatchEntry}
    (h : entryOf s (readPrice new).item = some e) : comparePrice old new addr s =
      (true, if (readPrice old).price = (readPrice new).price then copyPrice e (readPrice new) addr s
        else restagePrice e (readPrice new) addr s) := by
  simp only [comparePrice, if_neg (not_not.mpr hitem), show findEntry s (readPrice new).item = some e from h]

theorem comparePrice_of_none (hitem : (readPrice old).item = (readPrice new).item)
    (h : entryOf s (readPrice new).item = none) : comparePrice old new addr s =
      if (readPrice old).price = (readPrice new).price then (true, s)
      else stagePrice (readPrice old) (readPrice new) addr s := by
  simp only [comparePrice, if_neg (not_not.mpr hitem), show findEntry s (readPrice new).item = none from h]

/-! #### A new price for an entry (R119) -/

/-- The entry with the line, the zone, the facings and the policy of the new line. -/
def entryTaken (n : PriceFields) (addr : Nat) (e : WatchEntry) : WatchEntry :=
  { e with line := addr, zone := n.zone, facings := n.facings, policy := n.policy, acked := e.acked &&& facingSet n.facings }

/-- R119: an entry is restaged with PRICE_STAGED. -/
def restagedReported (was : WatchState) (e : WatchEntry) (s : State) : State :=
  reported (.priceStaged e.item e.oldPrice e.newPrice e.zone e.facings (some was)) (restaged e s)

theorem priceInRange_iff {p : Nat} : priceInRange p = true ↔ p ≤ 9999999 := decide_eq_true_iff

theorem restagePrice_of_beyond {e : WatchEntry} {n : PriceFields} (h : 9999999 < n.price) : restagePrice e n addr s = s :=
  if_pos (Bool.eq_false_iff.mpr fun hc => absurd (priceInRange_iff.mp hc) (Nat.not_le.mpr h))

section range

variable {e : WatchEntry} {n : PriceFields} (hd : ItemsDistinct s) (he : findEntry s e.item = some e) (hn : n.price ≤ 9999999)

include hd he hn

theorem restagePrice_of_shown_same (hshown : e.state = .shown) (hsame : n.price = e.newPrice) :
    restagePrice e n addr s = restaged { entryTaken n addr e with exit := .none } s := by
  have hin : ¬priceInRange n.price = false := by simp [priceInRange_iff.mpr hn]
  rw [← leaveWithdrawals_updateEntry (f := fun _ => { entryTaken n addr e with exit := .none }) hd he rfl]
  exact (if_neg hin).trans (if_pos ⟨hshown, hsame⟩)

theorem restagePrice_of_old (hstate : e.state ≠ .shown) (hsame : n.price = e.oldPrice) :
    restagePrice e n addr s = restaged { entryTaken n addr e with exit := .afterWrite addr } s := by
  have hin : ¬priceInRange n.price = false := by simp [priceInRange_iff.mpr hn]
  rw [← leaveWithdrawals_updateEntry (f := fun _ => { entryTaken n addr e with exit := .afterWrite addr }) hd he rfl]
  exact (if_neg hin).trans ((if_neg fun hc => hstate hc.1).trans (if_pos ⟨hstate, hsame⟩))

theorem restagePrice_of_new (hshown : e.state = .shown → n.price ≠ e.newPrice) (hother : e.state ≠ .shown → n.price ≠ e.oldPrice) :
    restagePrice e n addr s =
      if e.state = .sending then
        leaveAwaited e.item false (restagedReported e.state (restagedEntry (entryTaken n addr e) n.price) s)
      else restagedReported e.state (restagedEntry (entryTaken n addr e) n.price) s := by
  have hin : ¬priceInRange n.price = false := by simp [priceInRange_iff.mpr hn]
  have hitem : (restagedEntry (entryTaken n addr e) n.price).item = e.item := restagedEntry_item _ _
  rw [restagedReported, ← leaveWithdrawals_updateEntry (f := fun _ => restagedEntry (entryTaken n addr e) n.price) hd he hitem]
  exact (if_neg hin).trans ((if_neg fun hc => hshown hc.1 hc.2).trans (if_neg fun hc => hother hc.1 hc.2))

end range

/-! #### The same price for an entry (R117) -/

/-- R124: an entry that has just been put and holds every facing becomes SHOWN. -/
theorem becomeShown_entryPut {e e' : WatchEntry} (hd : ItemsDistinct s) (he : findEntry s e.item = some e)
    (hitem : e'.item = e.item) : becomeShown e.item (entryPut e' s) = leaveAwaited e.item true
      (reported (.priceShown e'.item e'.newPrice e'.zone e'.attempts) (entryPut (shownEntry e') s)) := by
  rw [becomeShown_eq (itemsDistinct_entryPut _ hd) (findEntry_entryPut_same he hitem), entryPut_entryPut]
  rfl

section copy

variable {e : WatchEntry} {n : PriceFields} (hd : ItemsDistinct s) (he : findEntry s e.item = some e)

include hd he

/-- R117: the entry stays where it is in the visits. -/
theorem copyPrice_of_kept {e' : WatchEntry} (hcopy : copiedEntry e n addr = e')
    (hkept : ¬(e.state = .sending ∧ e'.state ≠ .sending)) : copyPrice e n addr s =
      if (e'.state = .staged ∨ e'.state = .sending) ∧ allAcked e' = true then becomeShown e.item (entryPut e' s)
      else entryPut e' s := by
  have hitem : e'.item = e.item := hcopy ▸ copiedEntry_item e n addr
  have hput : updateEntry e.item (fun _ => e') s = entryPut e' s := updateEntry_eq (f := fun _ => e') hd he hitem
  have hleft : ¬(decide (e.state = .sending) && decide (e'.state ≠ .sending)) = true := by
    simpa only [Bool.and_eq_true, decide_eq_true_eq] using hkept
  unfold copyPrice
  dsimp only
  rw [hcopy, hput, if_neg hleft, if_neg hleft]

/-- R117, R144: a zone change takes an entry that was SENDING out of its visit. -/
theorem copyPrice_of_left {e' : WatchEntry} (hcopy : copiedEntry e n addr = e') (hsending : e.state = .sending)
    (hleft : e'.state = .staged) (ha : e.item ∈ s.label.awaited) : copyPrice e n addr s = leaveAwaited e.item false
      (if allAcked e' = true then reported (.priceShown e'.item e'.newPrice e'.zone e'.attempts) (entryPut (shownEntry e') s)
        else entryPut e' s) := by
  have hitem : e'.item = e.item := hcopy ▸ copiedEntry_item e n addr
  have hput : updateEntry e.item (fun _ => e') s = entryPut e' s := updateEntry_eq (f := fun _ => e') hd he hitem
  have hout : (decide (e.state = .sending) && decide (e'.state ≠ .sending)) = true := by simp [hsending, hleft]
  have hnot : e.item ∉ s.label.awaited.filter (fun i => decide (i ≠ e.item)) := fun hc => by
    simpa using (List.mem_filter.mp hc).2
  unfold copyPrice
  dsimp only
  rw [hcopy, hput, if_pos hout, if_pos hout]
  by_cases hfull : allAcked e' = true
  · rw [if_pos ⟨.inl hleft, hfull⟩, if_pos hfull, leaveAwaited_of_mem (by rw [reported_label]; exact ha)]
    refine congrArg visitDone ?_
    show becomeShown e.item (entryPut e' (s.setLabel
      { s.label with awaited := s.label.awaited.filter (fun i => decide (i ≠ e.item)) })) = _
    rw [becomeShown_entryPut (s := s.setLabel
      { s.label with awaited := s.label.awaited.filter (fun i => decide (i ≠ e.item)) }) hd he hitem, leaveAwaited_of_not_mem (by rw [reported_label]; exact hnot)]
    simp only [reported_label, Bool.false_eq_true, if_false]
    rw [← reported_setLabel]
    rfl
  · rw [if_neg fun hc => hfull hc.2, if_neg hfull, leaveAwaited_of_mem (by exact ha)]
    rfl

end copy

/-! #### A price for an item with no entry (R118) -/

theorem stagePrice_of_beyond {o n : PriceFields} (h : 9999999 < o.price ∨ 9999999 < n.price) :
    stagePrice o n addr s = (true, s) :=
  if_pos (h.imp (fun h => Bool.eq_false_iff.mpr fun hc => absurd (priceInRange_iff.mp hc) (Nat.not_le.mpr h))
    fun h => Bool.eq_false_iff.mpr fun hc => absurd (priceInRange_iff.mp hc) (Nat.not_le.mpr h))

/-- R118: the new entry of an item. -/
def newEntry (o n : PriceFields) (addr : Nat) : WatchEntry :=
  { item := n.item, line := addr, oldPrice := o.price, newPrice := n.price, zone := n.zone, facings := n.facings
    policy := n.policy, acked := 0, state := .staged, attempts := 0, epochSeen := false, exit := .none }

/-- R118: an entry joins the watch table, and PRICE_STAGED is reported. -/
def entryAdded (o n : PriceFields) (e : WatchEntry) (s : State) : State :=
  reported (.priceStaged n.item o.price n.price n.zone n.facings none)
    { s with price := { s.price with table := s.price.table ++ [e] } }

/-- R118, R124: an entry that has just been added, with no facing to acknowledge, becomes SHOWN. -/
theorem becomeShown_entryAdded {o n : PriceFields} (hnone : findEntry s n.item = none) (e : WatchEntry) (hitem : e.item = n.item) :
    becomeShown n.item (entryAdded o n e s) = leaveAwaited n.item true
      (reported (.priceShown e.item e.newPrice e.zone e.attempts) (entryAdded o n (shownEntry e) s)) := by
  have hne := findEntry_eq_none_iff.mp hnone
  have hadded : ∀ e, entryAdded o n e s = (reported (.priceStaged n.item o.price n.price n.zone n.facings none) s).setPrice
      { s.price with table := s.price.table ++ [e] } := fun e => reported_setPrice _ s _
  have hupdate : updateEntry n.item (fun e => { e with state := .shown, epochSeen := false }) (entryAdded o n e s) =
      entryAdded o n (shownEntry e) s := by
    have hsame : s.price.table.map (fun x => if x.item = n.item then shownEntry x else x) = s.price.table :=
      (List.map_congr_left fun x hx => if_neg (hne x hx)).trans (List.map_id _)
    rw [updateEntry, hadded, hadded]
    show State.setPrice _ { s.price with table := (s.price.table ++ [e]).map fun x => if x.item = n.item then shownEntry x else x } = _
    rw [List.map_append, hsame, List.map_singleton, if_pos hitem]
    rfl
  have hfind : findEntry (entryAdded o n (shownEntry e) s) n.item = some (shownEntry e) := by
    rw [hadded]
    show (s.price.table ++ [shownEntry e]).find? _ = _
    rw [List.find?_append, show s.price.table.find? _ = none from hnone]
    simp [shownEntry, hitem]
  simp only [becomeShown, hupdate, hfind, arise_eq_reported]
  rfl

section range

variable {o n : PriceFields} (ho : o.price ≤ 9999999) (hn : n.price ≤ 9999999)

include ho hn

theorem stagePrice_of_full (h : 256 ≤ s.price.table.length) : stagePrice o n addr s = (false, s) :=
  (if_neg (by simp [priceInRange_iff.mpr ho, priceInRange_iff.mpr hn])).trans (if_neg (Nat.not_lt.mpr h))

theorem stagePrice_of_facings (h : s.price.table.length < 256) (hf : n.facings ≠ 0) :
    stagePrice o n addr s = (true, entryAdded o n (newEntry o n addr) s) := by
  have hpos : ¬n.facings.val = 0 := fun hc => hf (Fin.ext hc)
  refine (if_neg (by simp [priceInRange_iff.mpr ho, priceInRange_iff.mpr hn])).trans ((if_pos h).trans ?_)
  exact congrArg (true, ·) (if_neg hpos)

theorem stagePrice_of_no_facing (h : s.price.table.length < 256) (hf : n.facings = 0) (hnone : findEntry s n.item = none) :
    stagePrice o n addr s = (true, leaveAwaited n.item true (reported (.priceShown n.item n.price n.zone 0)
      (entryAdded o n { newEntry o n addr with state := .shown } s))) := by
  have hzero : n.facings.val = 0 := by rw [hf]; rfl
  refine (if_neg (by simp [priceInRange_iff.mpr ho, priceInRange_iff.mpr hn])).trans ((if_pos h).trans ?_)
  refine congrArg (true, ·) ((if_pos hzero).trans ?_)
  rw [arise_eq_reported]
  exact becomeShown_entryAdded hnone (newEntry o n addr) rfl

end range

end rows

end Sys2Proof.Machine
end

section
/-! PROOFS. The completion of a capture read (R115, R120). -/

namespace Sys2Proof.Machine

open Sys2Proof Sys2Proof.Safety

/-! ### The comparison and the access in progress -/

section readOver

variable (m : MemState) (s : State)

theorem becomeShown_captureOver (item : Nat) : becomeShown item (captureOver m s) = captureOver m (becomeShown item s) := by
  generalize hu : updateEntry item (fun e => { e with state := .shown, epochSeen := false }) s = u
  have hover : updateEntry item (fun e => { e with state := .shown, epochSeen := false }) (captureOver m s) =
      captureOver m u := hu ▸ rfl
  have hfind : findEntry (captureOver m u) item = findEntry u item := rfl
  simp only [becomeShown, hover, hu, hfind]
  cases findEntry u item with
  | none => rfl
  | some e => exact (congrArg _ (reported_captureOver m u _)).trans (leaveAwaited_captureOver m _ item true)

theorem reassign_captureOver (item addr : Nat) :
    reassign item addr (captureOver m s) = captureOver m (reassign item addr s) := by
  have hfind : findEntry (captureOver m s) item = findEntry s item := rfl
  simp only [reassign, hfind]
  cases findEntry s item with
  | none => rfl
  | some e =>
    dsimp only
    cases e.exit <;> rfl

theorem copyPrice_captureOver (e : WatchEntry) (n : PriceFields) (addr : Nat) :
    copyPrice e n addr (captureOver m s) = captureOver m (copyPrice e n addr s) := by
  have hlabel : ∀ u l, (captureOver m u).setLabel l = captureOver m (u.setLabel l) := fun _ _ => rfl
  have hupdate : ∀ f, updateEntry e.item f (captureOver m s) = captureOver m (updateEntry e.item f s) := fun _ => rfl
  have hread : ∀ u, (captureOver m u).label = u.label := fun _ => rfl
  simp only [copyPrice, hupdate, hread, hlabel]
  split
  · split
    · rw [becomeShown_captureOver, visitDone_captureOver]
    · rw [visitDone_captureOver]
  · split
    · rw [becomeShown_captureOver]
    · rfl

theorem restagePrice_captureOver (e : WatchEntry) (n : PriceFields) (addr : Nat) :
    restagePrice e n addr (captureOver m s) = captureOver m (restagePrice e n addr s) := by
  have hleave : ∀ f, leaveWithdrawals e.item (updateEntry e.item f (captureOver m s)) =
      captureOver m (leaveWithdrawals e.item (updateEntry e.item f s)) := fun _ => rfl
  simp only [restagePrice, hleave, arise_eq_reported, reported_captureOver, leaveAwaited_captureOver]
  split
  · rfl
  · split
    · rfl
    · split
      · rfl
      · split <;> rfl

theorem stagePrice_captureOver (o n : PriceFields) (addr : Nat) : stagePrice o n addr (captureOver m s) =
    ((stagePrice o n addr s).1, captureOver m (stagePrice o n addr s).2) := by
  have hadd : ∀ t, (captureOver m s).setPrice { (captureOver m s).price with table := t } =
      captureOver m (s.setPrice { s.price with table := t }) := fun _ => rfl
  simp only [stagePrice, hadd, arise_eq_reported, reported_captureOver, becomeShown_captureOver]
  split
  · rfl
  · show (if s.price.table.length < Config.watchSize then _ else _) = _
    split
    · split <;> rfl
    · rfl

theorem comparePrice_captureOver (old new : Line) (addr : Nat) : comparePrice old new addr (captureOver m s) =
    ((comparePrice old new addr s).1, captureOver m (comparePrice old new addr s).2) := by
  have hfind : ∀ i, findEntry (captureOver m s) i = findEntry s i := fun _ => rfl
  simp only [comparePrice, hfind, reassign_captureOver]
  split
  · rfl
  · cases findEntry s (readPrice new).item with
    | none =>
      dsimp only
      split
      · rfl
      · exact stagePrice_captureOver m s _ _ _
    | some e =>
      dsimp only
      rw [copyPrice_captureOver, restagePrice_captureOver]
      split <;> rfl

end readOver

/-! ### The line is let go or discarded -/

section complete

variable {s : State} {t : Fin 64} {r : Request} {l : ReqLine} {c : CaptureLine} {addr : Nat} {w : Option (Fin 16)} {old : Line}

theorem exec_captureReadComplete (h : CaptureAtPort s t r l c addr w old) : exec .captureReadComplete s = .next
    (if (comparePrice old c.data c.addr s).1 = true then
        letGo c (captureOver (freedSlot .priceWatch s.mem) (comparePrice old c.data c.addr s).2)
      else discardHeld c (captureOver (freedSlot .priceWatch s.mem) (comparePrice old c.data c.addr s).2)) := by
  obtain ⟨a, ha, rfl⟩ := h.port
  have hfirst : firstCapture s.price.queue .reading = some c := h.reading
  have hdata : accessData false s.mem a = Memory.readLine s.mem.dram a.addr := rfl
  have hcaptured : captured (Memory.readLine s.mem.dram a.addr) (releaseSlot .priceWatch s) =
      if (comparePrice (Memory.readLine s.mem.dram a.addr) c.data c.addr
          (captureOver (freedSlot .priceWatch s.mem) s)).1 = true then
        letGo c (comparePrice (Memory.readLine s.mem.dram a.addr) c.data c.addr
          (captureOver (freedSlot .priceWatch s.mem) s)).2
      else discardHeld c (comparePrice (Memory.readLine s.mem.dram a.addr) c.data c.addr
          (captureOver (freedSlot .priceWatch s.mem) s)).2 := by
    have hprice : (releaseSlot .priceWatch s).price = s.price := rfl
    simp only [captured, State.setPrice_price, hprice, hfirst]
    rfl
  rw [comparePrice_captureOver] at hcaptured
  show Host.Outcome.next (completeCapture false s) = _
  simp only [completeCapture, grantedAccess_eq_some_iff.mpr ha, h.access, hdata, hcaptured]

/-- R120: the line that is compared is let go. -/
theorem exec_of_let_go (h : CaptureAtPort s t r l c addr w old) {u : State}
    (hu : comparePrice old c.data c.addr s = (true, u)) :
    exec .captureReadComplete s = .next (letGone t r l addr u) := by
  obtain ⟨role, i, hv⟩ := h.verdict
  have hside : WatchSide s u := by
    have hside := watchSide_comparePrice old c.data c.addr s
    rw [hu] at hside
    exact hside
  generalize hx : (captureOver (freedSlot .priceWatch s.mem) u).setPrice
    { u.price with access := .idle, queue := markReleased u.price.queue } = x
  have hlink : x.link = s.link := (congrArg State.link hx).symm.trans hside.link
  have hfind : findRequest x t = some r := (findRequest_of_link hlink t).trans h.entry
  have hline : r.lines[0]? = some l := by rw [h.line]; rfl
  have hreplaced : updateRequest t (Request.onLine 0 (fun l => { l with stage := .handed })) x =
      entryReplaced t { r with lines := [{ l with stage := .handed }] } x := by
    rw [updateRequest_eq_entryReplaced hfind (by rw [TxnsDistinct, hlink]; exact h.txns), Request.onLine, h.line]
    rfl
  have hgo : letGo c (captureOver (freedSlot .priceWatch s.mem) u) = handLine t 0 none true x := by
    simp only [letGo, h.owner]
    rw [← hx]
    rfl
  rw [exec_captureReadComplete h, hu]
  refine congrArg Host.Outcome.next ((if_pos rfl).trans (hgo.trans ?_))
  rw [handLine_of_pass hfind hline hv, hreplaced, ← hx, ← hside.mem]
  rfl

end complete

end Sys2Proof.Machine
end

section
/-! PROOFS. The rows of the comparison at the completion of a capture read (R115 to R119). -/

namespace Sys2Proof.Machine

open Sys2Proof Sys2Proof.Safety

/-! ### The entry of the same price (R117) -/

/-- R117: the exit marker that a copy keeps: AFTER_WRITE is cleared. -/
def markerKept (x : ExitMarker) : ExitMarker := if x = .withdraw then .withdraw else .none

/-- R117: the entry with zone, facings, policy and line copied, before any change of its state. -/
def sameEntry (n : PriceFields) (addr : Nat) (e : WatchEntry) : WatchEntry :=
  { entryTaken n addr e with
    acked := if e.zone = n.zone then e.acked &&& facingSet n.facings else 0
    exit := markerKept e.exit }

/-- R117: the copy in each state. -/
def copiedState (n : PriceFields) (addr : Nat) (e : WatchEntry) : WatchEntry :=
  if e.state = .sending ∧ e.zone ≠ n.zone then { sameEntry n addr e with state := .staged }
  else if e.state = .shown ∧ allAcked (sameEntry n addr e) = false then
    { sameEntry n addr e with state := .staged, epochSeen := false }
  else sameEntry n addr e

theorem ite_full (e e' : WatchEntry) (h : e.state = .shown) :
    (if allAcked e = true then e else e') = if e.state = .shown ∧ allAcked e = false then e' else e := by
  cases hfull : allAcked e <;> simp [h]

theorem copiedEntry_eq (e : WatchEntry) (n : PriceFields) (addr : Nat) : copiedEntry e n addr = copiedState n addr e := by
  obtain ⟨item, line, oldPrice, newPrice, zone, facings, policy, acked, state, attempts, epochSeen, exit⟩ := e
  have hacked : (if decide (zone ≠ n.zone) = true then (0 : BitVec 16) else acked) &&& facingSet n.facings =
      if zone = n.zone then acked &&& facingSet n.facings else 0 := by
    by_cases hz : zone = n.zone <;> simp [hz]
  unfold copiedEntry copiedState
  dsimp only
  rw [hacked]
  cases state with
  | staged =>
    rw [if_neg (by simp : ¬(WatchState.staged = .sending ∧ zone ≠ n.zone)),
      if_neg (fun hc => WatchState.noConfusion hc.1 : ¬(WatchState.staged = .shown ∧ _))]
    cases exit <;> rfl
  | failed =>
    rw [if_neg (by simp : ¬(WatchState.failed = .sending ∧ zone ≠ n.zone)),
      if_neg (fun hc => WatchState.noConfusion hc.1 : ¬(WatchState.failed = .shown ∧ _))]
    cases exit <;> rfl
  | sending =>
    by_cases hz : zone = n.zone
    · rw [if_neg (fun hc => hc.2 hz : ¬(WatchState.sending = .sending ∧ zone ≠ n.zone)),
        if_neg (fun hc => WatchState.noConfusion hc.1 : ¬(WatchState.sending = .shown ∧ _)), decide_eq_false (not_not.mpr hz)]
      cases exit <;> rfl
    · rw [if_pos (⟨rfl, hz⟩ : WatchState.sending = .sending ∧ zone ≠ n.zone), decide_eq_true (show zone ≠ n.zone from hz)]
      cases exit <;> rfl
  | shown =>
    rw [if_neg (by simp : ¬(WatchState.shown = .sending ∧ zone ≠ n.zone))]
    cases exit with
    | none => exact ite_full _ _ rfl
    | withdraw => exact ite_full _ _ rfl
    | afterWrite x => exact ite_full _ _ rfl

section rows

variable {s : State} {old new : Line} {addr : Nat} {e : WatchEntry}

/-- R117: the rows of the same price compare by the entry's copy. -/
theorem comparePrice_of_same (hitem : (readPrice old).item = (readPrice new).item)
    (hprice : (readPrice old).price = (readPrice new).price) (he : entryOf s (readPrice new).item = some e) :
    comparePrice old new addr s = (true, copyPrice e (readPrice new) addr s) := by
  rw [comparePrice_of_entry hitem he, if_pos hprice]

theorem comparePrice_of_changed (hitem : (readPrice old).item = (readPrice new).item)
    (hprice : (readPrice old).price ≠ (readPrice new).price) (he : entryOf s (readPrice new).item = some e) :
    comparePrice old new addr s = (true, restagePrice e (readPrice new) addr s) := by
  rw [comparePrice_of_entry hitem he, if_neg hprice]

theorem findEntry_of_entryOf {item : Nat} (he : entryOf s item = some e) : findEntry s e.item = some e := by
  rw [findEntry_item he]
  exact he

section copy

variable {n : PriceFields} (hd : ItemsDistinct s) (he : findEntry s e.item = some e)

include hd he

/-- R117: an entry that waits for acknowledgements, and now holds them all, becomes SHOWN. -/
theorem copyPrice_of_full (hstate : e.state = .staged ∨ (e.state = .sending ∧ e.zone = n.zone))
    (hfull : FullyAcked (sameEntry n addr e).acked n.facings) : copyPrice e n addr s = leaveAwaited e.item true
      (reported (.priceShown e.item e.newPrice n.zone e.attempts) (entryPut (shownEntry (sameEntry n addr e)) s)) := by
  have hcopy : copiedEntry e n addr = sameEntry n addr e := by
    rw [copiedEntry_eq, copiedState]
    rcases hstate with h | ⟨h, hz⟩
    · rw [if_neg (by simp [h]), if_neg (by simp [h])]
    · rw [if_neg fun hc => hc.2 hz, if_neg (by simp [h])]
  have hsame : (sameEntry n addr e).state = e.state := rfl
  rw [copyPrice_of_kept hd he hcopy (by rw [hsame]; exact fun hc => hc.2 hc.1),
    if_pos ⟨by rw [hsame]; exact hstate.imp id And.left, (allAcked_iff _).mpr hfull⟩,
    becomeShown_entryPut (e' := sameEntry n addr e) hd he rfl]
  rfl

/-- R117: in every other row that keeps the state the entry is copied alone. -/
theorem copyPrice_of_copied (hstate : (e.state = .staged ∧ ¬FullyAcked (sameEntry n addr e).acked n.facings) ∨
      (e.state = .sending ∧ e.zone = n.zone ∧ ¬FullyAcked (sameEntry n addr e).acked n.facings) ∨
      (e.state = .shown ∧ FullyAcked (sameEntry n addr e).acked n.facings) ∨ e.state = .failed) :
    copyPrice e n addr s = entryPut (sameEntry n addr e) s := by
  have hsame : (sameEntry n addr e).state = e.state := rfl
  have hacked : allAcked (sameEntry n addr e) = true ↔ FullyAcked (sameEntry n addr e).acked n.facings := allAcked_iff _
  have hcopy : copiedEntry e n addr = sameEntry n addr e := by
    rw [copiedEntry_eq, copiedState]
    rcases hstate with ⟨h, -⟩ | ⟨h, hz, -⟩ | ⟨h, hfull⟩ | h
    · rw [if_neg (by simp [h]), if_neg (by simp [h])]
    · rw [if_neg fun hc => hc.2 hz, if_neg (by simp [h])]
    · rw [if_neg (by simp [h]), if_neg (by simp [hacked.mpr hfull])]
    · rw [if_neg (by simp [h]), if_neg (by simp [h])]
  rw [copyPrice_of_kept hd he hcopy (by rw [hsame]; exact fun hc => hc.2 hc.1)]
  refine if_neg fun hc => ?_
  rw [hsame, hacked] at hc
  rcases hstate with ⟨h, hnot⟩ | ⟨h, -, hnot⟩ | ⟨h, -⟩ | h
  · exact hnot hc.2
  · exact hnot hc.2
  · simp [h] at hc
  · simp [h] at hc

/-- R117: a SHOWN entry that no longer holds every facing is STAGED again. -/
theorem copyPrice_of_unshown (hshown : e.state = .shown) (hnot : ¬FullyAcked (sameEntry n addr e).acked n.facings) :
    copyPrice e n addr s = entryPut { sameEntry n addr e with state := .staged, epochSeen := false } s := by
  have hacked : allAcked (sameEntry n addr e) = false := Bool.eq_false_iff.mpr fun hc => hnot ((allAcked_iff _).mp hc)
  have hcopy : copiedEntry e n addr = { sameEntry n addr e with state := .staged, epochSeen := false } := by
    rw [copiedEntry_eq, copiedState, if_neg (by simp [hshown]), if_pos ⟨hshown, hacked⟩]
  rw [copyPrice_of_kept hd he hcopy (by simp [hshown])]
  exact if_neg fun hc => hnot ((allAcked_iff _).mp hc.2)

/-- R117, R144: a zone change takes an entry out of the visit that awaits it. -/
theorem copyPrice_of_zone (hsending : e.state = .sending) (hz : e.zone ≠ n.zone) (ha : e.item ∈ s.label.awaited) :
    (FullyAcked (sameEntry n addr e).acked n.facings → copyPrice e n addr s = leaveAwaited e.item false
      (reported (.priceShown e.item e.newPrice n.zone e.attempts) (entryPut (shownEntry (sameEntry n addr e)) s))) ∧
    (¬FullyAcked (sameEntry n addr e).acked n.facings → copyPrice e n addr s = leaveAwaited e.item false
      (entryPut { sameEntry n addr e with state := .staged } s)) := by
  have hcopy : copiedEntry e n addr = { sameEntry n addr e with state := .staged } := by
    rw [copiedEntry_eq, copiedState, if_pos ⟨hsending, hz⟩]
  have hacked : allAcked { sameEntry n addr e with state := .staged } = true ↔
      FullyAcked (sameEntry n addr e).acked n.facings := allAcked_iff _
  rw [copyPrice_of_left hd he hcopy hsending rfl ha]
  exact ⟨fun hfull => by rw [if_pos (hacked.mpr hfull)]; rfl, fun hnot => by rw [if_neg (mt hacked.mp hnot)]⟩

end copy

end rows

/-- R119: a new price stages again an entry that is not SHOWN; a FAILED one counts its attempts anew. -/
theorem restagedEntry_of_unshown {e : WatchEntry} {n : PriceFields} {addr : Nat} (h : e.state ≠ .shown) :
    restagedEntry (entryTaken n addr e) n.price = { entryTaken n addr e with
      newPrice := n.price, acked := 0, state := .staged, exit := .none
      attempts := if e.state = .failed then 0 else e.attempts } := by
  have hstate : (entryTaken n addr e).state = e.state := rfl
  unfold restagedEntry
  rw [hstate]
  cases hs : e.state with
  | shown => exact absurd hs h
  | staged => rfl
  | sending => rfl
  | failed => rfl

theorem restagedEntry_of_shown {e : WatchEntry} {n : PriceFields} {addr : Nat} (h : e.state = .shown) :
    restagedEntry (entryTaken n addr e) n.price = { entryTaken n addr e with
      oldPrice := e.newPrice, newPrice := n.price, acked := 0, epochSeen := false, state := .staged, attempts := 0
      exit := .none } := by
  have hstate : (entryTaken n addr e).state = .shown := h
  unfold restagedEntry
  rw [hstate]
  rfl

/-- R118: a held line that finds the watch table full is discarded. -/
theorem discardHeld_eq {s : State} {t : Fin 64} {r : Request} {l : ReqLine} {c : CaptureLine} {addr : Nat} {w : Option (Fin 16)}
    {old : Line} (h : CaptureAtPort s t r l c addr w old) :
    discardHeld c (captureOver (freedSlot .priceWatch s.mem) s) =
      logRefusal (refusalOf r l .watchFull w) (answeredTaken t .discarded [] { s with
        mem := freedSlot .priceWatch s.mem
        price := { s.price with
          access := .idle, queue := s.price.queue.filter (fun x => decide (x.stage ≠ .reading)) } }) := by
  obtain ⟨role, i, hv⟩ := h.verdict
  generalize hx : (captureOver (freedSlot .priceWatch s.mem) s).setPrice { s.price with
    access := .idle, queue := s.price.queue.filter (fun x => decide (x.stage ≠ .reading)) } = x
  have hfind : findRequest x t = some r := hx ▸ h.entry
  have hrecord : discardHeld c (captureOver (freedSlot .priceWatch s.mem) s) = recordRefusal t 0 .watchFull x := by
    simp only [discardHeld, h.owner]
    rw [← hx]
    rfl
  rw [hrecord, recordRefusal_of_cls hfind (by simp [h.write.2]), recordLine_of_lone hfind h.line, hv, h.write.1, ← hx]
  rfl

/-- Settles O55: each row of R116 to R119 is the comparison's answer, and the line is let go or discarded with it. -/
theorem captureComparisonStagesOrRestages : Obligations.CaptureComparisonStagesOrRestages := by
  unfold Obligations.CaptureComparisonStagesOrRestages
  intro s t r l c addr w old h o n gone taken
  have hgone : ∀ {u : State}, comparePrice old c.data c.addr s = (true, u) → exec .captureReadComplete s = .next (gone u) :=
    fun hu => exec_of_let_go h hu
  refine ⟨fun hne hnone => ?_, fun e hne he hd => ⟨fun hx => ?_, fun x hx => ?_⟩, fun hitem hprice hnone => ?_,
    fun e hitem hprice he hd => ?same, fun hitem hprice hnone hbeyond => ?_, fun hitem hprice hnone ho hn => ?new,
    fun e hitem hprice he hd => ?changed⟩
  · exact hgone ((comparePrice_of_reassigned hne).trans (by rw [reassign_of_none hnone]))
  · exact hgone ((comparePrice_of_reassigned hne).trans (by rw [reassign_of_unmarked hd he hx]))
  · exact hgone ((comparePrice_of_reassigned hne).trans (by rw [reassign_of_marked he hx]))
  · exact hgone ((comparePrice_of_none hitem hnone).trans (if_pos hprice))
  case same =>
    intro copied full shown
    have hfind := findEntry_of_entryOf he
    have hcopied : copied = sameEntry n c.addr e := by
      simp only [copied, taken, sameEntry, entryTaken, markerKept]
      cases e.exit <;> rfl
    have hrow := comparePrice_of_same (addr := c.addr) hitem hprice he
    simp only [full, shown, hcopied]
    refine ⟨fun hstate hfull => ?_, fun hstate hz hfull => ?_, fun hstate hz ha hfull => ?_, fun hstate hz ha hnot => ?_,
      fun hstate hnot => ?_, fun hrest => ?_⟩
    · exact hgone (hrow.trans (congrArg _ (copyPrice_of_full hd hfind (.inl hstate) hfull)))
    · exact hgone (hrow.trans (congrArg _ (copyPrice_of_full hd hfind (.inr ⟨hstate, hz⟩) hfull)))
    · exact hgone (hrow.trans (congrArg _ ((copyPrice_of_zone hd hfind hstate hz ha).1 hfull)))
    · exact hgone (hrow.trans (congrArg _ ((copyPrice_of_zone hd hfind hstate hz ha).2 hnot)))
    · exact hgone (hrow.trans (congrArg _ (copyPrice_of_unshown hd hfind hstate hnot)))
    · exact hgone (hrow.trans (congrArg _ (copyPrice_of_copied hd hfind hrest)))
  · exact hgone ((comparePrice_of_none hitem hnone).trans ((if_neg hprice).trans (stagePrice_of_beyond hbeyond)))
  case new =>
    have hrow : comparePrice old c.data c.addr s = stagePrice o n c.addr s :=
      (comparePrice_of_none hitem hnone).trans (if_neg hprice)
    refine ⟨fun hroom => ⟨fun hf => ?_, fun hf => ?_⟩, fun hfull => ?_⟩
    · exact hgone (hrow.trans (stagePrice_of_facings ho hn hroom hf))
    · exact hgone (hrow.trans (stagePrice_of_no_facing ho hn hroom hf hnone))
    · rw [exec_captureReadComplete h, hrow, stagePrice_of_full ho hn hfull]
      exact congrArg Host.Outcome.next ((if_neg (by simp)).trans (discardHeld_eq h))
  case changed =>
    have hfind := findEntry_of_entryOf he
    have hrow := comparePrice_of_changed (addr := c.addr) hitem hprice he
    refine ⟨fun hbeyond => ?_, fun hn hstate hsame => ?_, fun hn hstate hne => ?_, fun hn hshown hsame => ?_,
      fun hn hshown hne => ?_⟩
    · exact hgone (hrow.trans (congrArg _ (restagePrice_of_beyond hbeyond)))
    · exact hgone (hrow.trans (congrArg _ (restagePrice_of_old hd hfind hn hstate hsame)))
    · have hnew := restagePrice_of_new (addr := c.addr) hd hfind hn (fun hs => absurd hs hstate) fun _ => hne
      rw [restagedEntry_of_unshown hstate] at hnew
      exact hgone (hrow.trans (congrArg _ hnew))
    · exact hgone (hrow.trans (congrArg _ (restagePrice_of_shown_same hd hfind hn hshown hsame)))
    · have hnew := restagePrice_of_new (addr := c.addr) hd hfind hn (fun _ => hne) fun hs => absurd hshown hs
      rw [if_neg (by simp [hshown]), hshown, restagedEntry_of_shown hshown] at hnew
      exact hgone (hrow.trans (congrArg _ hnew))

end Sys2Proof.Machine
end

section
/-! PROOFS. The application of an image (R188): what it leaves of the state it is applied to. -/

namespace Sys2Proof.Machine

open Sys2Proof Sys2Proof.Safety

/-! ### The journal windows follow their banks (R24, R185) -/

theorem setBank_self (bk : Bank) (s : State) : setBank bk (getBank s.journal bk) s = s := by
  cases bk <;> rfl

theorem setBankState_same (bk : Bank) (s : State) : setBankState bk (getBank s.journal bk).state s =
    updateRoleWindow bk.role (fun w => { w with writeProtect := (getBank s.journal bk).state.protects }) s := by
  have hself : setBank bk { getBank s.journal bk with state := (getBank s.journal bk).state } s = s := setBank_self bk s
  rw [setBankState, hself]

/-- R24, R185: the entry that a bank in a state gives its window. -/
def bankWindow (st : BankState) (w : Window) : Window :=
  if st = .exporting ∨ st = .verified then { w with writeProtect := st.protects, rights := w.rights.put .wan .read }
  else { w with writeProtect := st.protects }

theorem bankWindow_sameShape (st : BankState) (w : Window) : (bankWindow st w).SameShape w := by
  unfold bankWindow
  split <;> exact ⟨rfl, rfl, rfl, rfl, rfl⟩

theorem applyBankWindow_eq (s : State) (bk : Bank) : applyBankWindow s bk =
    if (getBank s.journal bk).state = .exporting ∨ (getBank s.journal bk).state = .verified then
      setWanRights bk .read
        (updateRoleWindow bk.role (fun w => { w with writeProtect := (getBank s.journal bk).state.protects }) s)
    else updateRoleWindow bk.role (fun w => { w with writeProtect := (getBank s.journal bk).state.protects }) s := by
  unfold applyBankWindow
  dsimp only
  rw [setBankState_same]

theorem windows_applyBankWindow {s : State} (hl : TableLaws s) (bk : Bank) (k : Fin 16) :
    (applyBankWindow s bk).guard.windows[k] =
      if s.guard.windows[k].enabled = true ∧ s.guard.windows[k].role = bk.role then
        bankWindow (getBank s.journal bk).state s.guard.windows[k]
      else s.guard.windows[k] := by
  generalize hst : (getBank s.journal bk).state = st
  have happly := applyBankWindow_eq s bk
  rw [hst] at happly
  have hprotected := windows_updateRoleWindow hl bk.role_ne_plain (fun w => { w with writeProtect := st.protects }) k
  have hl' : TableLaws (updateRoleWindow bk.role (fun w => { w with writeProtect := st.protects }) s) :=
    tableLaws_updateRoleWindow hl bk.role_ne_plain fun _ => ⟨rfl, rfl, rfl, rfl, rfl⟩
  have hread := windows_updateRoleWindow hl' bk.role_ne_plain (fun w => { w with rights := w.rights.put .wan .read }) k
  rw [hprotected] at hread
  rw [happly]
  by_cases hexport : st = .exporting ∨ st = .verified
  · rw [if_pos hexport, setWanRights, hread]
    by_cases hk : s.guard.windows[k].enabled = true ∧ s.guard.windows[k].role = bk.role
    · rw [if_pos hk, if_pos hk, if_pos (by exact hk), bankWindow, if_pos hexport]
    · rw [if_neg hk, if_neg hk, if_neg hk]
  · rw [if_neg hexport, hprotected, bankWindow, if_neg hexport]

/-- A change of a role's window changes the window table alone. -/
theorem updateRoleWindow_same (r : Role) (f : Window → Window) (s : State) : updateRoleWindow r f s =
    s.setGuard { s.guard with windows := (updateRoleWindow r f s).guard.windows } := by
  cases h : roleIndex s.guard.windows r with
  | none =>
    rw [updateRoleWindow_of_none h]
    rfl
  | some i =>
    rw [updateRoleWindow_of_some h]
    rfl

theorem applyBankWindow_same (s : State) (bk : Bank) : applyBankWindow s bk =
    s.setGuard { s.guard with windows := (applyBankWindow s bk).guard.windows } := by
  rw [applyBankWindow_eq]
  split
  · rw [setWanRights, updateRoleWindow_same bk.role (fun w => { w with rights := w.rights.put .wan .read }),
      updateRoleWindow_same bk.role (fun w => { w with writeProtect := (getBank s.journal bk).state.protects }) s]
    rfl
  · exact updateRoleWindow_same bk.role _ s

theorem tableLaws_applyBankWindow {s : State} (hl : TableLaws s) (bk : Bank) : TableLaws (applyBankWindow s bk) := by
  refine tableLaws_of_sameShape (fun k => ?_) hl
  rw [windows_applyBankWindow hl]
  split
  · exact bankWindow_sameShape _ _
  · exact ⟨rfl, rfl, rfl, rfl, rfl⟩

/-- R24, R185: the applied entry, bank by bank. -/
theorem windowApplied_eq (j : JournalState) (w : Window) : windowApplied j w =
    if w.enabled = true ∧ w.role = .journalA then bankWindow j.bankA.state w
    else if w.enabled = true ∧ w.role = .journalB then bankWindow j.bankB.state w else w := by
  have hprotects : ∀ st : BankState, st.protects = decide (st ≠ .open ∧ st ≠ .closing) := fun st => by cases st <;> rfl
  unfold windowApplied contentStored bankWindow
  by_cases ha : w.enabled = true ∧ w.role = .journalA
  · rw [if_pos ha, if_pos ha, ← hprotects]
    exact if_congr (by simp [ha]) rfl rfl
  · rw [if_neg ha, if_neg ha]
    by_cases hb : w.enabled = true ∧ w.role = .journalB
    · rw [if_pos hb, if_pos hb, ← hprotects]
      exact if_congr (by simp [hb]) rfl rfl
    · rw [if_neg hb, if_neg hb]
      refine if_neg fun hc => ?_
      rcases hc with ⟨he, ⟨hr, -⟩ | ⟨hr, -⟩⟩
      · exact ha ⟨he, hr⟩
      · exact hb ⟨he, hr⟩

theorem rolePlace_of_sameShape {ws vs : Vector Window 16} (h : ∀ k : Fin 16, vs[k].SameShape ws[k]) (r : Role) :
    rolePlace vs r = rolePlace ws r := by
  have hindex : roleIndex vs r = roleIndex ws r := by
    unfold roleIndex
    congr 1
    funext k
    obtain ⟨he, _, _, _, hr⟩ := h k
    rw [he, hr]
  unfold rolePlace roleWindow
  rw [hindex]
  cases hk : roleIndex ws r with
  | none => rfl
  | some k =>
    obtain ⟨_, hb, hl, ho, _⟩ := h k
    show some (vs[k].place) = some (ws[k].place)
    unfold Window.place
    rw [hb, hl, ho]

section banked

variable {i : Image} (hl : tableLaws i.windows = true) (b : Bool) (u : State)

theorem imageBase_journal : (imageBase i b u).journal = { u.journal with chainSeed := i.chainSeed } := rfl

theorem imageBase_windows : (imageBase i b u).guard.windows = i.windows := by
  unfold imageBase
  cases b <;> rfl

/-- R24, R185: the window table that an application leaves. -/
def windowsBanked (i : Image) (b : Bool) (u : State) : Vector Window 16 := (imageBanked i b u).guard.windows

theorem imageBanked_same : imageBanked i b u =
    (imageBase i b u).setGuard { (imageBase i b u).guard with windows := windowsBanked i b u } := by
  have h := applyBankWindow_same (applyBankWindow (imageBase i b u) .a) .b
  rw [applyBankWindow_same (imageBase i b u) .a] at h
  unfold windowsBanked imageBanked
  rw [applyBankWindow_same (imageBase i b u) .a]
  exact h

include hl

theorem windowsBanked_get (k : Fin 16) : (windowsBanked i b u)[k] = windowApplied u.journal i.windows[k] := by
  have hbase : TableLaws (imageBase i b u) := by
    unfold TableLaws
    rw [imageBase_windows]
    exact hl
  have hjournal : (applyBankWindow (imageBase i b u) .a).journal = (imageBase i b u).journal := by
    rw [applyBankWindow_same]
    rfl
  have hfirst := windows_applyBankWindow hbase .a k
  have hsecond := windows_applyBankWindow (tableLaws_applyBankWindow hbase .a) .b k
  rw [imageBase_windows] at hfirst
  rw [hfirst, hjournal] at hsecond
  unfold windowsBanked imageBanked
  rw [hsecond, windowApplied_eq]
  by_cases ha : i.windows[k].enabled = true ∧ i.windows[k].role = .journalA
  · have hshape := bankWindow_sameShape (getBank (imageBase i b u).journal .a).state i.windows[k]
    rw [if_pos (show i.windows[k].enabled = true ∧ i.windows[k].role = Bank.a.role from ha), if_pos ha, if_neg]
    · rfl
    · rw [hshape.2.2.2.2, ha.2]
      simp [Bank.role]
  · rw [if_neg (show ¬(i.windows[k].enabled = true ∧ i.windows[k].role = Bank.a.role) from ha), if_neg ha]
    rfl

theorem windowsBanked_sameShape (k : Fin 16) : ((windowsBanked i b u)[k]).SameShape i.windows[k] := by
  rw [windowsBanked_get hl, windowApplied_eq]
  split
  · exact bankWindow_sameShape _ _
  · split
    · exact bankWindow_sameShape _ _
    · exact ⟨rfl, rfl, rfl, rfl, rfl⟩

theorem rolePlace_windowsBanked (r : Role) : rolePlace (windowsBanked i b u) r = rolePlace i.windows r :=
  rolePlace_of_sameShape (windowsBanked_sameShape hl b u) r

end banked

/-! ### The settings of an image (R188) -/

section settings

variable (i : Image) (a b : Bool) (u : State)

theorem imageSet_guard : (imageSet i a b u).guard = { applyLock b { u.guard with
    windows := i.windows, classMap := i.classMap, defaults := i.defaults, keys := some i.keys } with
      windows := windowsBanked i b u } := by
  rw [imageSet, imageBanked_same]
  cases a <;> rfl

theorem imageSet_mem : (imageSet i a b u).mem = { u.mem with size := i.size, fill := i.fill } := by
  rw [imageSet, imageBanked_same]
  cases a <;> rfl

theorem imageSet_journal : (imageSet i a b u).journal = { u.journal with chainSeed := i.chainSeed } := by
  rw [imageSet, imageBanked_same]
  cases a <;> rfl

theorem imageSet_retained : (imageSet i a b u).retained = { u.retained with
    recordA := rolePlace (windowsBanked i b u) .journalA, recordB := rolePlace (windowsBanked i b u) .journalB } := by
  rw [imageSet, imageBanked_same]
  cases a <;> rfl

theorem imageSet_label : (imageSet i a b u).label = { u.label with settings := i.rounds } := by
  rw [imageSet, imageBanked_same]
  cases a <;> rfl

theorem imageSet_reports : (imageSet i a b u).reports = { u.reports with threshold := i.threshold } := by
  rw [imageSet, imageBanked_same]
  cases a <;> rfl

theorem imageSet_price : (imageSet i a b u).price = { u.price with views := i.views } := by
  rw [imageSet, imageBanked_same]
  cases a <;> rfl

theorem imageSet_time : (imageSet i a b u).time =
    if a then { u.time with inForce := i.period, staged := none, schedule := i.schedule }
    else { u.time with staged := some i.period, schedule := i.schedule } := by
  rw [imageSet, imageBanked_same]
  cases a <;> rfl

theorem imageSet_guest : (imageSet i a b u).guest =
    if a then { u.guest with inForce := i.guest, staged := none } else { u.guest with staged := some i.guest } := by
  rw [imageSet, imageBanked_same]
  cases a <;> rfl

theorem imageSet_others : (imageSet i a b u).link = u.link ∧ (imageSet i a b u).decoder = u.decoder ∧
    (imageSet i a b u).day = u.day ∧ (imageSet i a b u).free = u.free ∧ (imageSet i a b u).pending = u.pending ∧
    (imageSet i a b u).loader = u.loader := by
  rw [imageSet, imageBanked_same]
  cases a <;> exact ⟨rfl, rfl, rfl, rfl, rfl, rfl⟩

end settings

/-! ### The owners of windows are told (R20) -/

theorem tellOwners_load (old : Vector Window 16) (s : State) : tellOwners old true s =
    if roleMoved old s.guard.windows .price = true then priceWindowChanged (tellOwners old false s)
    else tellOwners old false s := by
  simp only [tellOwners, true_and, Bool.false_eq_true, false_and, if_false]

/-- R51, R146: the owners of the two rings change indices and phases. -/
structure RingsTold (s s' : State) : Prop where
  side : WatchSide s s'
  settings : s'.label.settings = s.label.settings
  price : s'.price = s.price
  threshold : s'.reports.threshold = s.reports.threshold
  pending : s'.reports.pending = s.reports.pending

theorem ringsTold_tellOwners (old : Vector Window 16) (s : State) : RingsTold s (tellOwners old false s) := by
  refine ⟨watchSide_tellOwners old false s, ?_, ?_, ?_, ?_⟩
  all_goals
    simp only [tellOwners, Bool.false_eq_true, false_and, if_false]
    split <;> split <;> rfl

/-- R123: with no watch entry a changed PRICE window leaves nothing to do. -/
theorem priceWindowChanged_of_empty {s : State} (h : s.price.table = []) : priceWindowChanged s = s := by
  unfold priceWindowChanged
  split
  · rw [h]
    rfl
  · rfl

theorem ringsTold_of_kept {old : Vector Window 16} {s : State}
    (h : roleMoved old s.guard.windows .price = true → s.price.table = []) : RingsTold s (tellOwners old true s) := by
  have hrings := ringsTold_tellOwners old s
  rw [tellOwners_load]
  split
  · rename_i hmoved
    rw [priceWindowChanged_of_empty (by rw [hrings.price]; exact h hmoved)]
    exact hrings
  · exact hrings

/-! ### The application as a whole (R188) -/

theorem imageApplied_of_told {i : Image} (hl : tableLaws i.windows = true) (a b : Bool) (u : State) {x : State}
    (hx : WatchSide (imageSet i a b u) x) (hrounds : x.label.settings = i.rounds) (hviews : x.price.views = i.views)
    (hthreshold : x.reports.threshold = i.threshold) :
    ImageApplied i u ((evalIrq x).setLoader { (evalIrq x).loader with running := true }) := by
  have hsame := hx.same
  obtain ⟨hlink, hdecoder, hday, hfree, hpending, hloader⟩ := imageSet_others i a b u
  have hguard : x.guard = (imageSet i a b u).guard := hx.guard
  refine ⟨fun k => ?_, ?_, ?_, ?_, ?_, hrounds, hviews, hthreshold, ?_, rfl, ?_, ?_, ?_, ?_, ?_⟩
  · show x.guard.windows[k] = _
    rw [hguard, imageSet_guard]
    exact windowsBanked_get hl b u k
  · show x.guard = { u.guard with
      classMap := i.classMap, defaults := i.defaults, keys := some i.keys
      windows := x.guard.windows, lock := x.guard.lock, badKeys := x.guard.badKeys }
    rw [hguard, imageSet_guard]
    cases b <;> rfl
  · exact hx.mem.trans (imageSet_mem i a b u)
  · exact hx.journal.trans (imageSet_journal i a b u)
  · show x.time.schedule = _
    rw [hsame]
    show (imageSet i a b u).time.schedule = _
    rw [imageSet_time]
    cases a <;> rfl
  · show x.retained = _
    rw [hsame]
    show (imageSet i a b u).retained = _
    rw [imageSet_retained, rolePlace_windowsBanked hl, rolePlace_windowsBanked hl]
  · exact hx.link.trans hlink
  · show x.decoder = _
    rw [hsame]
    exact hdecoder
  · show x.day = _
    rw [hsame]
    exact hday
  · show x.free = _
    rw [hsame]
    exact hfree
  · show x.pending = _
    rw [hsame]
    exact hpending

end Sys2Proof.Machine
end

section
/-! PROOFS. The loads of an image that leave the watch table alone (R188, R192, R193). -/

namespace Sys2Proof.Machine

open Sys2Proof Sys2Proof.Safety

/-! ### The application by a load -/

theorem tableLaws_of_windowsOk {size : DramSize} {ws : Vector Window 16} (h : windowsOk size ws = true) :
    tableLaws ws = true := ((Bool.and_eq_true _ _).mp h).2

/-- R66, R165, R188: what a load by a running part, or from the bootstrap page, applies of an image. -/
structure ImageLoaded (i : Image) (fromEeprom : Bool) (u s : State) : Prop where
  applied : ImageApplied i u s
  lock : s.guard.lock = (applyLock fromEeprom u.guard).lock
  badKeys : s.guard.badKeys = (applyLock fromEeprom u.guard).badKeys
  time : s.time = { u.time with staged := some i.period, schedule := i.schedule }
  guest : s.guest = { u.guest with staged := some i.guest }
  price : s.price = { u.price with views := i.views }
  pending : s.reports.pending = u.reports.pending
  loader : s.loader = { u.loader with running := true }

theorem imageLoaded_applyImage {i : Image} (hl : tableLaws i.windows = true) (b : Bool) {u : State}
    (hkept : rolePlace i.windows .price ≠ rolePlace u.guard.windows .price → u.price.table = []) :
    ImageLoaded i b u (applyImage i false b u) := by
  have hwindows : (imageSet i false b u).guard.windows = windowsBanked i b u := by rw [imageSet_guard]
  obtain ⟨hside, hsettings, hprice, hthreshold, hpending⟩ :=
    ringsTold_of_kept (old := u.guard.windows) (s := imageSet i false b u) fun hmoved => by
      rw [roleMoved_iff, hwindows, rolePlace_windowsBanked hl] at hmoved
      rw [imageSet_price]
      exact hkept hmoved
  have hsame := hside.same
  rw [applyImage_eq]
  generalize tellOwners u.guard.windows true (imageSet i false b u) = x at *
  have hguard : x.guard = { applyLock b { u.guard with
      windows := i.windows, classMap := i.classMap, defaults := i.defaults, keys := some i.keys } with
        windows := windowsBanked i b u } := hside.guard.trans (imageSet_guard i false b u)
  rw [imageSet_label] at hsettings
  rw [imageSet_price] at hprice
  rw [imageSet_reports] at hthreshold hpending
  refine ⟨imageApplied_of_told hl false b u hside hsettings (by rw [hprice]) hthreshold, ?_, ?_, ?_, ?_, hprice, hpending, ?_⟩
  · show x.guard.lock = _
    rw [hguard]
    cases b <;> rfl
  · show x.guard.badKeys = _
    rw [hguard]
    cases b <;> rfl
  · show x.time = _
    rw [hsame]
    exact imageSet_time i false b u
  · exact hside.guest.trans (imageSet_guest i false b u)
  · show ({ x.loader with running := true } : LoaderState) = _
    rw [hside.loader, (imageSet_others i false b u).2.2.2.2.2]

/-! ### The report and the answer of a load -/

/-- What an application leaves is read from the configuration and the parts that it does not change. -/
theorem imageApplied_of_reported {i : Image} {u s : State} (h : ImageApplied i u s) (r : ReportState)
    (hr : r.threshold = s.reports.threshold) (l : LoaderState) (hrun : l.running = true) :
    ImageApplied i u ((s.setReports r).setLoader l) := by
  obtain ⟨hw, hg, hm, hj, hsch, hro, hv, ht, hp, _, hothers⟩ := h
  exact ⟨hw, hg, hm, hj, hsch, hro, hv, hr.trans ht, hp, hrun, hothers⟩

theorem withReport_threshold (b : ReportBody) (t : TimeState) (r : ReportState) :
    (withReport b t r).threshold = r.threshold := by
  unfold withReport
  split <;> rfl

theorem withReport_pending {t t' : TimeState} (h : SameClock t t') {r r' : ReportState} (hp : r.pending = r'.pending)
    (b : ReportBody) : (withReport b t r).pending = (withReport b t' r').pending := by
  obtain ⟨hs, hm, hc⟩ := h
  simp only [withReport, hp, hs, hm, hc]
  split <;> rfl

theorem reported_pending (b : ReportBody) (s : State) : (reported b s).reports.pending =
    (withReport b s.time s.reports).pending := by rw [reported_eq]; rfl

/-- R188: the START report of a load that applied an image. -/
theorem ImageLoaded.start {i : Image} {b : Bool} {u s : State} (h : ImageLoaded i b u s) (f : Nat) (l : LoaderState)
    (hrun : l.running = true) :
    let s' := (reported (.start .valid f) s).setLoader l
    ImageApplied i u s' ∧ s'.guard.lock = (applyLock b u.guard).lock ∧ s'.guard.badKeys = (applyLock b u.guard).badKeys ∧
      s'.time = { u.time with staged := some i.period, schedule := i.schedule } ∧
      s'.guest = { u.guest with staged := some i.guest } ∧ s'.price = { u.price with views := i.views } ∧
      s'.reports.pending = (reported (.start .valid f) u).reports.pending ∧ s'.loader = l := by
  obtain ⟨happlied, hlock, hbad, htime, hguest, hprice, hpending, hloader⟩ := h
  have hclock : SameClock s.time u.time := by
    rw [htime]
    exact ⟨rfl, rfl, rfl⟩
  rw [reported_eq]
  refine ⟨imageApplied_of_reported happlied _ (withReport_threshold _ _ _) l hrun, hlock, hbad, htime, hguest, hprice, ?_, rfl⟩
  rw [reported_pending]
  exact withReport_pending hclock hpending _

/-- R191: a load from the bootstrap page that is refused changes the loader alone. -/
theorem endBootstrap_of_bad (o : LoadOrigin) (b : Bool) (f : Nat) (s : State) :
    endBootstrap o b (.bad f) s = s.setLoader { s.loader with
      load := .idle, resultCount := (s.loader.resultCount + 1) % 65536
      result := some
        { code := o.code, cookie := o.cookie, count := (s.loader.resultCount + 1) % 65536, status := .refused
          refusal := some .configBad, outcome := some (.bad, f) } } := rfl

theorem endBootstrap_of_conflict {o : LoadOrigin} {b : Bool} {i : Image} {f : Nat} {s : State} (h : conflicts i s = true) :
    endBootstrap o b (.valid i f) s = s.setLoader { s.loader with
      load := .idle, resultCount := (s.loader.resultCount + 1) % 65536
      result := some
        { code := o.code, cookie := o.cookie, count := (s.loader.resultCount + 1) % 65536, status := .refused
          refusal := some .configConflict, outcome := some (.valid, f) } } := if_pos h

/-- R188, R191: with no request outstanding, and no watch entry, the image of a bootstrap load is applied, reported and
answered. -/
theorem endBootstrap_of_valid {o : LoadOrigin} {b : Bool} {i : Image} {f : Nat} {s : State} (h : conflicts i s = false)
    (hreq : s.link.requests = []) : endBootstrap o b (.valid i f) s =
      postResult o .done none (some (.valid, f))
        (reported (.start .valid f) (applyImage i false b (s.setLoader { s.loader with load := .idle }))) := by
  have hwaiters : bootstrapWaiters (s.setLoader { s.loader with load := .idle }) = [] := by
    simp only [bootstrapWaiters, State.setLoader_link, hreq, List.map_nil, List.filter_nil]
  have hnot : ¬conflicts i (s.setLoader { s.loader with load := .idle }) = true := Bool.eq_false_iff.mp h
  simp only [endBootstrap, if_neg hnot, hwaiters, List.foldl_nil]
  rfl

end Sys2Proof.Machine
end

section
/-! PROOFS. The load of an image from memory (R192) and the result line (R191). -/

namespace Sys2Proof.Machine

open Sys2Proof Sys2Proof.Safety

/-! ### The result line (section 12.4) -/

theorem resultLine_holds (r : BootResult) : HoldsFields (resultLine r) (resultFields r) := by
  have hpacked : HoldsFields (resultLine r) ((resultFields r).take 6 ++ (9, 3, 0) :: (resultFields r).drop 6) :=
    holdsFields_packLine (by simp [totalWidth])
  have hsplit : (resultFields r).take 6 ++ (resultFields r).drop 6 = resultFields r := List.take_append_drop 6 _
  rw [← hsplit]
  refine HoldsFields.of_zeros hpacked (fun g hg => ?_) (fun f hf => ?_)
  · exact List.mem_append.mpr ((List.mem_append.mp hg).imp_right (List.mem_cons_of_mem _))
  · rcases List.mem_append.mp hf with hf | hf
    · exact .inl (List.mem_append.mpr (.inl hf))
    · rcases List.mem_cons.mp hf with rfl | hf
      · exact .inr rfl
      · exact .inl (List.mem_append.mpr (.inr hf))

/-! ### The conflict test (R188) -/

theorem conflicts_iff {i : Image} {s : State} (hl : LawsHold i.windows) : conflicts i s = true ↔
    (s.day.phase ≠ .noDay ∨ s.journal.bankA.state ≠ .idle ∨ s.journal.bankB.state ≠ .idle) ∧
      ¬(PlaceIs i.windows .journalA s.retained.recordA ∧ PlaceIs i.windows .journalB s.retained.recordB) := by
  have hplaces : (rolePlace i.windows .journalA ≠ s.retained.recordA ∨ rolePlace i.windows .journalB ≠ s.retained.recordB) ↔
      ¬(PlaceIs i.windows .journalA s.retained.recordA ∧ PlaceIs i.windows .journalB s.retained.recordB) := by
    rw [← rolePlace_eq_iff hl (by simp), ← rolePlace_eq_iff hl (by simp), not_and_or]
  rw [← hplaces]
  simp only [conflicts, dayInProgress, Bool.and_eq_true, Bool.or_eq_true, decide_eq_true_eq, or_assoc]

/-! ### The lines of an image in order (R192) -/

theorem testBit_linesValue (ls : List Line) (j m : Nat) (hm : m < 512) :
    (linesValue ls).testBit (512 * j + m) = (ls.getD j 0).getLsbD m := by
  induction ls generalizing j with
  | nil => simp [linesValue]
  | cons l rest ih =>
    rw [linesValue, Nat.add_comm, Nat.testBit_two_pow_mul_add _ l.isLt]
    cases j with
    | zero => rw [if_pos (by omega), Nat.mul_zero, Nat.zero_add, List.getD_cons_zero, BitVec.testBit_toNat]
    | succ j =>
      rw [if_neg (by omega), List.getD_cons_succ, show 512 * (j + 1) + m - 512 = 512 * j + m by omega]
      exact ih j

theorem getByte_imageOfLines (ls : List Line) {j k : Nat} (hj : j < 32) (hk : k < 64) :
    getByte (imageOfLines ls) (64 * j + k) = getByte (ls.getD j 0) k := by
  refine BitVec.eq_of_getLsbD_eq fun m hm => ?_
  have hbit : 8 * (64 * j + k) + m = 512 * j + (8 * k + m) := by omega
  rw [getByte, getByte, BitVec.getLsbD_extractLsb', BitVec.getLsbD_extractLsb', imageOfLines, BitVec.getLsbD_ofNat, hbit,
    testBit_linesValue ls j _ (by omega), decide_eq_true (by omega : 512 * j + (8 * k + m) < 16384), Bool.true_and]

/-! ### The rows of a load from memory (R191, R192) -/

/-- R192: a check of the length in the header. -/
theorem lengthOk_iff {format len : Nat} : lengthOk format len = true ↔
    len % 64 = 0 ∧ 64 ≤ len ∧ len ≤ 2048 ∧ (format = 1 → 640 ≤ len) := by
  have hcases : (format ≠ 1 ∨ 640 ≤ len) ↔ (format = 1 → 640 ≤ len) := by
    rw [or_iff_not_imp_left, not_not]
  simp only [lengthOk, Bool.and_eq_true, Bool.or_eq_true, decide_eq_true_eq, and_assoc]
  exact and_congr Iff.rfl (and_congr Iff.rfl (and_congr Iff.rfl hcases))

/-- R192: the read of the next line of an image is issued. -/
def nextRead (next : Nat) (s : State) : State :=
  { s with
    loader := { s.loader with access := .imageRead }
    mem := { s.mem with slots := { s.mem.slots with configLoader := .waiting ⟨.read, next, 0, 0⟩ 0 } } }

theorem readNext_of_free {s : State} {o : LoadOrigin} {next : Nat} {ls : List Line} {e : Option Nat}
    (hload : s.loader.load = .readingMemory o next ls e) (hresult : s.loader.result = none)
    (haccess : s.loader.access = .idle) (hslot : s.mem.slots.configLoader = .empty) : readNext s = nextRead next s := by
  simp only [readNext, hload]
  rw [if_pos ⟨hresult, haccess, hslot⟩, ← hload]
  rfl

theorem readNext_of_busy {s : State}
    (h : (∀ o n ls e, s.loader.load ≠ .readingMemory o n ls e) ∨ s.loader.result ≠ none) : readNext s = s := by
  unfold readNext
  split
  · rename_i o n ls e hload
    have hbusy : ¬(s.loader.result = none ∧ s.loader.access = .idle ∧ s.mem.slots.configLoader = .empty) := fun hc =>
      h.elim (fun hno => hno o n ls e hload) fun hresult => hresult hc.1
    exact if_neg hbusy
  · rfl

theorem exec_resultLineIssue {s : State} {r : BootResult} (hr : s.loader.result = some r) (haccess : s.loader.access = .idle)
    (hslot : s.mem.slots.configLoader = .empty) : exec .resultLineIssue s = .next { s with
      loader := { s.loader with result := none, access := .resultWrite }
      mem := { s.mem with slots := { s.mem.slots with
        configLoader := .waiting ⟨.write, 61504, BitVec.allOnes 64, resultLine r⟩ 0 } } } := by
  show execResultLineIssue s = _
  simp only [execResultLineIssue, hr]
  exact if_pos (And.intro haccess hslot)

/-- The port and the loader once an access of the loader has completed. -/
def loaderFreed (s : State) : State := { s with mem := freedSlot .configLoader s.mem, loader := { s.loader with access := .idle } }

theorem exec_resultLineWritten {s : State} {a : Access} (ha : InsertedAtPort s .configLoader a)
    (haccess : s.loader.access = .resultWrite) : exec .resultLineWritten s = .next (readNext { loaderFreed s with
      mem := { freedSlot .configLoader s.mem with dram := Memory.writeLine s.mem.dram a.addr a.mask a.data } }) := by
  show Host.Outcome.next (completeResultLine false s) = _
  simp only [completeResultLine, grantedAccess_eq_some_iff.mpr ha, haccess, storeAccess]
  rfl

theorem completeImageRead_eq {s : State} {a : Access} {o : LoadOrigin} {next : Nat} {ls : List Line} {e : Option Nat}
    (ha : InsertedAtPort s .configLoader a) (haccess : s.loader.access = .imageRead)
    (hload : s.loader.load = .readingMemory o next ls e) (beyond : Bool) : completeImageRead beyond s =
      if beyond then endBootstrap o false (.bad (imageFormatOf (ls.headD (accessData beyond s.mem a)))) (loaderFreed s)
      else imageLine o next ls e (accessData beyond s.mem a) (loaderFreed s) := by
  simp only [completeImageRead, grantedAccess_eq_some_iff.mpr ha, haccess, hload]
  rfl

/-- R192: a line that makes the image bad, or the last one, ends the load; any other is followed by the next read. -/
theorem imageLine_of_bad {o : LoadOrigin} {next : Nat} {ls : List Line} {e : Option Nat} {l : Line} {s : State}
    (h : lengthOk (imageFormatOf ((ls ++ [l]).headD 0)) (e.getD (imageLength ((ls ++ [l]).headD 0))) = false) :
    imageLine o next ls e l s = endBootstrap o false (.bad (imageFormatOf ((ls ++ [l]).headD 0))) s := if_pos h

theorem imageLine_of_last {o : LoadOrigin} {next : Nat} {ls : List Line} {e : Option Nat} {l : Line} {s : State}
    (h : lengthOk (imageFormatOf ((ls ++ [l]).headD 0)) (e.getD (imageLength ((ls ++ [l]).headD 0))) = true)
    (hlast : e.getD (imageLength ((ls ++ [l]).headD 0)) ≤ (ls ++ [l]).length * 64) :
    imageLine o next ls e l s = endBootstrap o false (judgeImage (imageOfLines (ls ++ [l]))) s :=
  (if_neg (by rw [h]; simp)).trans (if_pos hlast)

theorem imageLine_of_more {o : LoadOrigin} {next : Nat} {ls : List Line} {e : Option Nat} {l : Line} {s : State}
    (h : lengthOk (imageFormatOf ((ls ++ [l]).headD 0)) (e.getD (imageLength ((ls ++ [l]).headD 0))) = true)
    (hmore : (ls ++ [l]).length * 64 < e.getD (imageLength ((ls ++ [l]).headD 0))) :
    imageLine o next ls e l s = readNext (s.setLoader { s.loader with
      load := .readingMemory o (next + 64) (ls ++ [l]) (some (e.getD (imageLength ((ls ++ [l]).headD 0)))) }) :=
  (if_neg (by rw [h]; simp)).trans (if_neg (Nat.not_le.mpr hmore))

/-- R191: the loader once the image of a bootstrap load has been applied. -/
def bootstrapAnswer (o : LoadOrigin) (f : Nat) (l : LoaderState) : LoaderState := { l with
  resultCount := (l.resultCount + 1) % 65536
  result := some
    { code := o.code, cookie := o.cookie, count := (l.resultCount + 1) % 65536, status := .done
      refusal := none, outcome := some (.valid, f) } }

/-- R188, R191: a bootstrap load that applies its image, in the words of the specification. -/
theorem endBootstrap_applied {o : LoadOrigin} {b : Bool} {i : Image} {f : Nat} {s : State} (hl : tableLaws i.windows = true)
    (hconf : conflicts i s = false) (hreq : s.link.requests = []) (htable : s.price.table = []) :
    ∃ s', endBootstrap o b (.valid i f) s = s' ∧ ImageApplied i (s.setLoader { s.loader with load := .idle }) s' ∧
      s'.guard.lock = (applyLock b s.guard).lock ∧ s'.guard.badKeys = (applyLock b s.guard).badKeys ∧
      s'.time = { s.time with staged := some i.period, schedule := i.schedule } ∧
      s'.guest = { s.guest with staged := some i.guest } ∧ s'.price = { s.price with views := i.views } ∧
      s'.reports.pending = (reported (.start .valid f) s).reports.pending ∧
      s'.loader = bootstrapAnswer o f { s.loader with running := true, load := .idle } := by
  generalize hu : s.setLoader { s.loader with load := .idle } = u
  have hloaded := imageLoaded_applyImage hl b (u := u) fun _ => hu ▸ htable
  have hstart := hloaded.start f (bootstrapAnswer o f (applyImage i false b u).loader) hloaded.applied.running
  have hpost : postResult o .done none (some (.valid, f)) (reported (.start .valid f) (applyImage i false b u)) =
      (reported (.start .valid f) (applyImage i false b u)).setLoader (bootstrapAnswer o f (applyImage i false b u).loader) := by
    have hloader : (reported (.start .valid f) (applyImage i false b u)).loader = (applyImage i false b u).loader :=
      by rw [reported_eq]; rfl
    rw [postResult, hloader]
    rfl
  obtain ⟨happlied, hlock, hbad, htime, hguest, hprice, hpending, hloader⟩ := hstart
  refine ⟨_, (endBootstrap_of_valid hconf hreq).trans ((congrArg (fun u => postResult o .done none (some (.valid, f))
    (reported (.start .valid f) (applyImage i false b u))) hu).trans hpost), happlied, ?_, ?_, ?_, ?_, ?_, ?_, ?_⟩
  · rw [hlock, ← hu]
    rfl
  · rw [hbad, ← hu]
    rfl
  · rw [htime, ← hu]
    rfl
  · rw [hguest, ← hu]
    rfl
  · rw [hprice, ← hu]
    rfl
  · rw [hpending, ← hu, reported_pending, reported_pending]
    rfl
  · rw [hloader, hloaded.loader, ← hu]
    rfl

/-- What an application leaves does not tell what the loader was. -/
theorem imageApplied_of_setLoader {i : Image} {u s : State} {l : LoaderState} (h : ImageApplied i (u.setLoader l) s) :
    ImageApplied i u s := by
  obtain ⟨hw, hg, hm, hj, hsch, hro, hv, ht, hp, hrun, hothers⟩ := h
  exact ⟨hw, hg, hm, hj, hsch, hro, hv, ht, hp, hrun, hothers⟩

/-- Settles O58: the result line and the image reads, each end of the load, and what an image's lines are. -/
theorem bootstrapLoadReadsAndAnswers : Obligations.BootstrapLoadReadsAndAnswers := by
  unfold Obligations.BootstrapLoadReadsAndAnswers
  intro ended reading
  refine ⟨fun s r hr haccess hslot => exec_resultLineIssue hr haccess hslot, fun s hnone => ?none,
    fun s a ha hkind haccess => ?written, fun s a o next ls e ha haccess hload => ?line,
    fun s a n o next ls e hport hhold hqueue hslot honly hbeyond haccess hload => ?beyond, resultLine_holds,
    fun ls j k hj hk => ?byte, fun i s hl => conflicts_iff hl⟩
  case none =>
    show execResultLineIssue s = _
    simp only [execResultLineIssue, hnone]
  case written =>
    intro written
    have hexec := exec_resultLineWritten ha haccess
    refine ⟨fun h => hexec.trans (congrArg Host.Outcome.next (readNext_of_busy h)), fun o next ls e hload hresult => ?_⟩
    exact hexec.trans (congrArg Host.Outcome.next (readNext_of_free (s := written) hload hresult rfl rfl))
  case line =>
    intro read image first length good done
    have hlength : e.getD (imageLength ((ls ++ [read]).headD 0)) = length := by
      simp only [length, first, image]
      cases e <;> rfl
    have hgood : lengthOk (imageFormatOf ((ls ++ [read]).headD 0)) length = true ↔ good := lengthOk_iff
    have hexec : exec .imageReadComplete s = .next (imageLine o next ls e read done) :=
      congrArg Host.Outcome.next (completeImageRead_eq ha haccess hload false)
    refine ⟨fun hbad => ?_, fun hok hmore hresult => ?_, fun f hok hlast hj => ?_, fun i f hok hlast hj hconf => ?_,
      fun i f hok hlast hj hconf hreq htable hround => ?_⟩
    · refine hexec.trans (congrArg Host.Outcome.next ((imageLine_of_bad ?_).trans (endBootstrap_of_bad o false _ done)))
      rw [hlength]
      exact Bool.eq_false_iff.mpr (mt hgood.mp hbad)
    · refine hexec.trans (congrArg Host.Outcome.next ((imageLine_of_more ?_ ?_).trans ?_))
      · rw [hlength]
        exact hgood.mpr hok
      · rw [hlength]
        exact hmore
      · rw [hlength]
        exact readNext_of_free (s := done.setLoader { done.loader with
          load := .readingMemory o (next + 64) image (some length) }) rfl hresult rfl rfl
    · have hend := imageLine_of_last (o := o) (next := next) (s := done) (by rw [hlength]; exact hgood.mpr hok)
        (by rw [hlength]; exact hlast)
      rw [hj, endBootstrap_of_bad] at hend
      exact hexec.trans (congrArg Host.Outcome.next hend)
    · have hend := imageLine_of_last (o := o) (next := next) (s := done) (by rw [hlength]; exact hgood.mpr hok)
        (by rw [hlength]; exact hlast)
      rw [hj, endBootstrap_of_conflict (by exact hconf)] at hend
      exact hexec.trans (congrArg Host.Outcome.next hend)
    · have hend := imageLine_of_last (o := o) (next := next) (s := done) (by rw [hlength]; exact hgood.mpr hok)
        (by rw [hlength]; exact hlast)
      obtain ⟨s', hs', hrest⟩ := endBootstrap_applied (o := o) (b := false) (f := f) (s := done)
        (tableLaws_of_windowsOk (Keeper.windowsOk_of_judgeImage hj)) (by exact hconf) (by exact hreq) (by exact htable)
      rw [hj, hs'] at hend
      obtain ⟨happlied, hlock, hbad, htime, hguest, hprice, hpending, hloader⟩ := hrest
      refine ⟨s', hexec.trans (congrArg Host.Outcome.next hend), imageApplied_of_setLoader happlied, hlock, hbad, htime,
        hguest, hprice, ?_, hloader⟩
      rw [hpending, reported_pending, reported_pending]
  case beyond =>
    have hnext : nextInserted s.mem = some (.configLoader, a) :=
      nextInserted_eq_some hslot fun x hx b m hw => honly x b m (by simpa using List.mem_takeWhile_imp hx) hw
    rw [execDramGrant_of_free hport hhold, grant_of_inserted hnext (.inl hqueue), grantInserted_of_beyond hbeyond]
    generalize hx : s.setMem { s.mem with
      port := .inserted .configLoader, slots := s.mem.slots.put .configLoader (.granted a)
      lastGranted := .configLoader } = x
    have hloader : x.loader = s.loader := hx ▸ rfl
    have hdone : completeBeyond .configLoader x = completeImageRead true x := by
      simp only [completeBeyond, hloader, haccess]
    rw [hdone, completeImageRead_eq (a := a) (hx ▸ ⟨rfl, rfl⟩) (hloader ▸ haccess) (hloader.symm ▸ hload), ← hx]
    rfl
  case byte =>
    rw [getByte_imageOfLines ls hj hk, List.getD_eq_getElem?_getD]
    cases ls[j]? with
    | none => simp [getByte]
    | some l => rfl

end Sys2Proof.Machine
end

section
/-! PROOFS. Which images are valid, and what they give (R187, section 12.6). -/

namespace Sys2Proof.Machine

open Sys2Proof Sys2Proof.Safety

/-! ### The codes of an image -/

theorem PriceView.ofCode_eq_some_iff {c : Nat} {x : PriceView} :
    PriceView.ofCode c = some x ↔ c = (match x with | .substituted => 0 | .raw => 1) := by
  constructor
  · intro h
    unfold PriceView.ofCode at h
    split at h <;> first | (obtain rfl := Option.some.inj h; rfl) | exact absurd h (by simp)
  · rintro rfl
    cases x <;> rfl

theorem CarryMode.ofCode_eq_some_iff {c : Nat} {x : CarryMode} : CarryMode.ofCode c = some x ↔ c = x.code := by
  constructor
  · intro h
    unfold CarryMode.ofCode at h
    split at h <;> first | (obtain rfl := Option.some.inj h; rfl) | exact absurd h (by simp)
  · rintro rfl
    cases x <;> rfl

theorem GuestMode.ofCode_eq_some_iff {c : Nat} {x : GuestMode} : GuestMode.ofCode c = some x ↔ c = x.code := by
  constructor
  · intro h
    unfold GuestMode.ofCode at h
    split at h <;> first | (obtain rfl := Option.some.inj h; rfl) | exact absurd h (by simp)
  · rintro rfl
    cases x <;> rfl

theorem RoundMode.ofCode_eq_some_iff {c : Nat} {x : RoundMode} :
    RoundMode.ofCode c = some x ↔ c = if x = .oneRound then 0 else 1 := by
  constructor
  · intro h
    unfold RoundMode.ofCode at h
    split at h <;> first | (obtain rfl := Option.some.inj h; rfl) | exact absurd h (by simp)
  · rintro rfl
    cases x <;> rfl

theorem RoundTrigger.ofCode_eq_some_iff {c : Nat} {x : RoundTrigger} :
    RoundTrigger.ofCode c = some x ↔ c = if x = .command then 0 else 1 := by
  constructor
  · intro h
    unfold RoundTrigger.ofCode at h
    split at h <;> first | (obtain rfl := Option.some.inj h; rfl) | exact absurd h (by simp)
  · rintro rfl
    cases x <;> rfl

theorem DramSize.ofCode_eq_some_iff {c : Nat} {x : DramSize} : DramSize.ofCode c = some x ↔ c = x.code := by
  constructor
  · intro h
    unfold DramSize.ofCode at h
    split at h <;> first | (obtain rfl := Option.some.inj h; rfl) | exact absurd h (by simp)
  · rintro rfl
    cases x <;> rfl

theorem readClass_eq_some_iff {c : Nat} {x : InitClass} :
    readClass true c = some x ↔ c = x.code ∨ (c = 0xFF ∧ x = .other) := by
  by_cases hc : c = 255
  · have hcode : x.code ≠ 255 := by cases x <;> simp [InitClass.code]
    simp [readClass, hc, Ne.symm hcode, eq_comm]
  · simp [readClass, hc, InitClass.ofCode_eq_some_iff]

/-! ### The sections of an image -/

section sections

variable {n : Nat} {b : BitVec n} {o : Nat}

theorem readViews_eq_some_iff {v : PerClass PriceView} : readViews b o = some v ↔
    ∀ c : InitClass, PriceView.ofCode (getField b (o + c.code) 1) = some (v.get c) := by
  obtain ⟨cpu, lan, guest, label, wan, other⟩ := v
  simp only [readViews, Option.bind_eq_bind, Option.pure_def, Option.bind_eq_some_iff, Option.some.injEq,
    PerClass.mk.injEq]
  constructor
  · rintro ⟨_, h1, _, h2, _, h3, _, h4, _, h5, _, h6, rfl, rfl, rfl, rfl, rfl, rfl⟩ c
    cases c <;> assumption
  · intro h
    exact ⟨_, h .cpu, _, h .lan, _, h .guest, _, h .label, _, h .wan, _, h .other, rfl, rfl, rfl, rfl, rfl, rfl⟩

theorem readSchedule_eq_some_iff {x : Schedule} : readSchedule b o = some x ↔
    x.closeAt = timeOf (getField b o 4) ∧ x.exportEnd = timeOf (getField b (o + 4) 4) ∧
      x.grace = min (getField b (o + 8) 2) 3600 ∧ getField b (o + 10) 1 = x.carry.code := by
  obtain ⟨closeAt, exportEnd, grace, mode⟩ := x
  simp only [readSchedule, Option.bind_eq_bind, Option.pure_def, Option.bind_eq_some_iff, Option.some.injEq,
    Schedule.mk.injEq, CarryMode.ofCode_eq_some_iff]
  constructor
  · rintro ⟨_, hcode, rfl, rfl, rfl, rfl⟩
    exact ⟨rfl, rfl, rfl, hcode⟩
  · rintro ⟨rfl, rfl, rfl, hcode⟩
    exact ⟨_, hcode, rfl, rfl, rfl, rfl⟩

theorem readGuest_eq_some_iff {x : GuestSettings} : readGuest b o = some x ↔
    getField b o 1 = x.mode.code ∧ x.fault = getField b (o + 1) 1 ∧ x.hard = getField b (o + 2) 2 ∧
      x.soft = min (getField b (o + 4) 2) (getField b (o + 2) 2) ∧ x.pace = min (getField b (o + 6) 2) 255 := by
  obtain ⟨mode, hard, soft, pace, fault⟩ := x
  simp only [readGuest, Option.bind_eq_bind, Option.pure_def, Option.bind_eq_some_iff, Option.some.injEq,
    GuestSettings.mk.injEq, GuestMode.ofCode_eq_some_iff]
  constructor
  · rintro ⟨_, hcode, rfl, rfl, rfl, rfl, rfl⟩
    exact ⟨hcode, rfl, rfl, rfl, rfl⟩
  · rintro ⟨hcode, rfl, rfl, rfl, rfl⟩
    exact ⟨_, hcode, rfl, rfl, rfl, rfl, rfl⟩

theorem readRounds_eq_some_iff {x : RoundSettings} : readRounds b o = some x ↔
    x.mask = b.extractLsb' (8 * o) 16 ∧ getField b (o + 2) 1 = (if x.mode = .oneRound then 0 else 1) ∧
      getField b (o + 3) 1 = (if x.trigger = .command then 0 else 1) ∧ x.timeout = max (getField b (o + 4) 1) 1 ∧
        x.limit = min (max (getField b (o + 5) 1) 1) 15 := by
  have hmask : BitVec.ofNat 16 (getField b o 2) = b.extractLsb' (8 * o) 16 := by
    show BitVec.ofNat 16 (b.extractLsb' (8 * o) 16).toNat = _
    rw [BitVec.ofNat_toNat, BitVec.setWidth_eq]
  obtain ⟨mask, mode, trigger, timeout, limit⟩ := x
  simp only [readRounds, Option.bind_eq_bind, Option.pure_def, Option.bind_eq_some_iff, Option.some.injEq,
    RoundSettings.mk.injEq, RoundMode.ofCode_eq_some_iff, RoundTrigger.ofCode_eq_some_iff, hmask]
  constructor
  · rintro ⟨_, hmode, _, htrigger, rfl, rfl, rfl, rfl, rfl⟩
    exact ⟨rfl, hmode, htrigger, rfl, rfl⟩
  · rintro ⟨rfl, hmode, htrigger, rfl, rfl⟩
    exact ⟨_, hmode, _, htrigger, rfl, rfl, rfl, rfl, rfl⟩

end sections

theorem section_eq_some_iff {α : Type} {b : ImageBits} {bit : Nat} {read : Option α} {factory x : α} :
    section_ b bit read factory = some x ↔ if (getByte b 15).getLsbD bit = true then read = some x else x = factory := by
  unfold section_
  split
  · exact Iff.rfl
  · exact ⟨fun h => (Option.some.inj h).symm, fun h => congrArg some h.symm⟩

theorem readWindows_eq_some_iff {b : ImageBits} {is : List (Fin 16)} (hnodup : is.Nodup) {v ws : Vector Window 16} :
    readWindows b is v = some ws ↔
      (∀ k ∈ is, readWindow b (128 + 32 * k.val) = some ws[k]) ∧ ∀ k, k ∉ is → ws[k] = v[k] := by
  induction is generalizing v with
  | nil =>
    simp only [readWindows, Option.some.injEq, List.not_mem_nil, false_implies, implies_true, not_false_eq_true, true_and,
      forall_const]
    exact ⟨fun h k => by rw [h], fun h => (vector_ext_fin h).symm⟩
  | cons i rest ih =>
    obtain ⟨hfresh, hrest⟩ := List.nodup_cons.mp hnodup
    simp only [readWindows, Option.bind_eq_some_iff, ih hrest, vput_get]
    constructor
    · rintro ⟨w, hw, hin, hout⟩
      have hi : ws[i] = w := by rw [hout i hfresh, if_pos rfl]
      refine ⟨fun k hk => ?_, fun k hk => ?_⟩
      · rcases List.mem_cons.mp hk with rfl | hk
        · rw [hi]
          exact hw
        · exact hin k hk
      · rw [hout k fun h => hk (List.mem_cons_of_mem i h), if_neg]
        rintro rfl
        exact hk List.mem_cons_self
    · rintro ⟨hin, hout⟩
      refine ⟨ws[i], hin i List.mem_cons_self, fun k hk => hin k (List.mem_cons_of_mem i hk), fun k hk => ?_⟩
      by_cases hik : i = k
      · rw [if_pos hik, hik]
      · rw [if_neg hik]
        exact hout k fun h => (List.mem_cons.mp h).elim (fun h => hik h.symm) hk

/-! ### Validity (R187) -/

theorem imageSum_eq (b : ImageBits) (n : Nat) :
    imageSum b n = (List.range n).foldl (fun a k => a + getWord b (4 * k)) 0 := by
  induction n with
  | zero => rfl
  | succ n ih => rw [imageSum, ih, List.range_succ, List.foldl_append, List.foldl_cons, List.foldl_nil]

theorem headerOk_iff {b : ImageBits} : headerOk b = true ↔ getField b 0 4 = 1 ∧
    (getField b 4 4 % 64 = 0 ∧ 640 ≤ getField b 4 4 ∧ getField b 4 4 ≤ 2048) ∧
      (List.range (getField b 4 4 / 4)).foldl (fun a k => a + getWord b (4 * k)) 0 = 0 := by
  simp only [headerOk, Bool.and_eq_true, lengthOk_iff, decide_eq_true_eq, imageSum_eq, and_assoc]
  show getField b 0 4 = 1 ∧ getField b 4 4 % 64 = 0 ∧ 64 ≤ getField b 4 4 ∧ getField b 4 4 ≤ 2048 ∧
    (getField b 0 4 = 1 → 640 ≤ getField b 4 4) ∧ _ ↔ _
  constructor
  · rintro ⟨hformat, hmod, -, hmax, hmin, hsum⟩
    exact ⟨hformat, hmod, hmin hformat, hmax, hsum⟩
  · rintro ⟨hformat, hmod, hmin, hmax, hsum⟩
    exact ⟨hformat, hmod, by omega, hmax, fun _ => hmin, hsum⟩

theorem windowsOk_iff {size : DramSize} {ws : Vector Window 16} : windowsOk size ws = true ↔
    (∀ k : Fin 16, ws[k].enabled = true → ¬FailsRange size ws[k]) ∧ LawsHold ws := by
  rw [windowsOk, Bool.and_eq_true, lawsHold_iff]
  refine and_congr_left fun _ => ?_
  simp only [List.all_eq_true, mem_sixteen, forall_const, Bool.or_eq_true, Bool.not_eq_true']
  refine forall_congr' fun k => ?_
  rw [← inRange_eq_false_iff, Bool.not_eq_false, or_iff_not_imp_left, Bool.not_eq_false]

/-- Section 12.6: the fields of an image are read when its codes are defined. -/
theorem readImage_eq_some_iff {b : ImageBits} {i : Image} : readImage b = some i ↔
    DramSize.ofCode (getField b 12 1) = some i.size ∧ readClassMap b 24 true = some i.classMap ∧
      section_ b 0 (readRights b 40) factoryDefaults = some i.defaults ∧
      section_ b 1 (readSchedule b 64) factorySchedule = some i.schedule ∧
      section_ b 2 (readGuest b 76) factoryGuest = some i.guest ∧ section_ b 3 (readRounds b 84) factoryRounds = some i.rounds ∧
      section_ b 4 (readViews b 46) factoryViews = some i.views ∧
      readWindows b sixteen (Vector.replicate 16 Window.disabled) = some i.windows ∧ i.fill = getByte b 13 ∧
      i.threshold = clampThreshold (getField b 14 1) ∧ i.keys = (getWord b 16, getWord b 20) ∧
      i.period = clampPeriod (getField b 52 2) (getField b 54 2) (getField b 56 1) (getField b 57 1) ∧
      i.chainSeed = getWord b 60 := by
  obtain ⟨size, fill, threshold, keys, classMap, defaults, views, period, chainSeed, schedule, guest, rounds, windows⟩ := i
  simp only [readImage, Option.bind_eq_bind, Option.pure_def, Option.bind_eq_some_iff, Option.some.injEq, Image.mk.injEq]
  constructor
  · rintro ⟨_, h1, _, h2, _, h3, _, h4, _, h5, _, h6, _, h7, _, h8, rfl, rfl, rfl, rfl, rfl, rfl, rfl, rfl, rfl, rfl, rfl, rfl,
      rfl⟩
    exact ⟨h1, h2, h3, h4, h5, h6, h7, h8, rfl, rfl, rfl, rfl, rfl⟩
  · rintro ⟨h1, h2, h3, h4, h5, h6, h7, h8, rfl, rfl, rfl, rfl, rfl⟩
    exact ⟨_, h1, _, h2, _, h3, _, h4, _, h5, _, h6, _, h7, _, h8, rfl, rfl, rfl, rfl, rfl, rfl, rfl, rfl, rfl, rfl, rfl, rfl,
      rfl⟩

theorem parseImage_eq_some_iff {b : ImageBits} {i : Image} : parseImage b = some i ↔ ImageHolds b i := by
  have hparse : parseImage b = some i ↔ headerOk b = true ∧ readImage b = some i ∧ windowsOk i.size i.windows = true := by
    unfold parseImage
    by_cases hh : headerOk b = true
    · rw [if_pos hh]
      simp only [Option.bind_eq_some_iff, hh, true_and]
      constructor
      · rintro ⟨x, hx, hok⟩
        by_cases hw : windowsOk x.size x.windows = true
        · rw [if_pos hw] at hok
          obtain rfl := Option.some.inj hok
          exact ⟨hx, hw⟩
        · rw [if_neg hw] at hok
          exact absurd hok (by simp)
      · rintro ⟨hx, hw⟩
        exact ⟨i, hx, if_pos hw⟩
    · rw [if_neg hh]
      simp [hh]
  have hsixteen : sixteen.Nodup := by decide
  rw [hparse, headerOk_iff, windowsOk_iff, readImage_eq_some_iff]
  simp only [DramSize.ofCode_eq_some_iff, readClassMap_eq_some_iff, readClass_eq_some_iff, section_eq_some_iff,
    ← rightsAt_iff, readSchedule_eq_some_iff, readGuest_eq_some_iff, readRounds_eq_some_iff, readViews_eq_some_iff,
    PriceView.ofCode_eq_some_iff, readWindows_eq_some_iff hsixteen, readWindow_eq_some_iff, mem_sixteen, forall_const,
    not_true_eq_false, false_implies, and_true]
  constructor
  · rintro ⟨⟨hformat, hlength, hsum⟩, ⟨hsize, hmap, hdefaults, hschedule, hguest, hrounds, hviews, hwindows, hfill, hthreshold,
      hkeys, hperiod, hseed⟩, hranges, hlaws⟩
    exact ⟨hformat, hlength, hsum, hsize, hfill, hthreshold, hkeys, hmap, hdefaults, hviews, hperiod, hseed, hschedule, hguest,
      hrounds, hwindows, hranges, hlaws⟩
  · rintro ⟨hformat, hlength, hsum, hsize, hfill, hthreshold, hkeys, hmap, hdefaults, hviews, hperiod, hseed, hschedule, hguest,
      hrounds, hwindows, hranges, hlaws⟩
    exact ⟨⟨hformat, hlength, hsum⟩, ⟨hsize, hmap, hdefaults, hschedule, hguest, hrounds, hviews, hwindows, hfill, hthreshold,
      hkeys, hperiod, hseed⟩, hranges, hlaws⟩

theorem judgeImage_eq_valid_iff {b : ImageBits} {i : Image} {f : Nat} :
    judgeImage b = .valid i f ↔ ImageHolds b i ∧ f = 1 := by
  rw [← parseImage_eq_some_iff]
  have hformat : ∀ x, parseImage b = some x → imageFormatOf b = 1 := fun x hx => (parseImage_eq_some_iff.mp hx).format
  unfold judgeImage
  cases hp : parseImage b with
  | none => simp
  | some x => simp [hformat x hp, eq_comm]

theorem judgeImage_eq_bad_iff {b : ImageBits} {f : Nat} :
    judgeImage b = .bad f ↔ (∀ i, ¬ImageHolds b i) ∧ f = getField b 0 4 := by
  simp only [← parseImage_eq_some_iff, ← Option.eq_none_iff_forall_ne_some]
  unfold judgeImage
  cases hp : parseImage b with
  | none => simp [imageFormatOf, eq_comm]
  | some x => simp

/-! ### The bytes of the EEPROM (R189) -/

theorem testBit_bytesValue {n : Nat} (bytes : List Byte) (j m : Nat) (hj : j < n) (hm : m < 8) :
    (bytesValue bytes n).testBit (8 * j + m) = (bytes.getD j 0xFF).getLsbD m := by
  induction n generalizing bytes j with
  | zero => omega
  | succ n ih =>
    have hstep : ∀ (x : Byte) (rest : List Byte), (x.toNat + 256 * bytesValue rest n).testBit (8 * j + m) =
        if j = 0 then x.getLsbD m else (bytesValue rest n).testBit (8 * (j - 1) + m) := fun x rest => by
      rw [Nat.add_comm, show 256 * bytesValue rest n = 2 ^ 8 * bytesValue rest n from rfl,
        Nat.testBit_two_pow_mul_add _ x.isLt]
      by_cases h0 : j = 0
      · rw [if_pos h0, if_pos (by omega), h0, Nat.mul_zero, Nat.zero_add, BitVec.testBit_toNat]
      · rw [if_neg h0, if_neg (by omega), show 8 * j + m - 8 = 8 * (j - 1) + m by omega]
    cases bytes with
    | nil =>
      have h255 := hstep 0xFF []
      rw [show bytesValue [] (n + 1) = (0xFF : Byte).toNat + 256 * bytesValue [] n from rfl, h255]
      by_cases h0 : j = 0
      · simp [h0]
      · rw [if_neg h0, ih [] (j - 1) (by omega)]
        simp
    | cons x rest =>
      rw [bytesValue, hstep]
      by_cases h0 : j = 0
      · rw [if_pos h0, h0, List.getD_cons_zero]
      · obtain ⟨k, rfl⟩ : ∃ k, j = k + 1 := ⟨j - 1, by omega⟩
        rw [if_neg h0, Nat.add_sub_cancel, ih rest k (by omega), List.getD_cons_succ]

theorem getByte_imageOfBytes (bytes : List Byte) {k : Nat} (hk : k < 2048) :
    getByte (imageOfBytes bytes) k = bytes.getD k 0xFF := by
  refine BitVec.eq_of_getLsbD_eq fun m hm => ?_
  rw [getByte, BitVec.getLsbD_extractLsb', imageOfBytes, BitVec.getLsbD_ofNat,
    testBit_bytesValue bytes k m (by exact hk) hm, decide_eq_true hm, decide_eq_true (by omega : 8 * k + m < 16384),
    Bool.true_and, Bool.true_and]

end Sys2Proof.Machine
end

section
/-! PROOFS. The load of an image from the EEPROM (R189, R193). -/

namespace Sys2Proof.Machine

open Sys2Proof Sys2Proof.Safety

theorem exec_eepromReadComplete {s : State} {o : LoadOrigin} (e : EepromRead) (h : s.loader.load = .readingEeprom o) :
    exec (.eepromReadComplete e) s =
      .next (if o.bootstrap then endBootstrap o true (judgeEeprom e) s else endReload (judgeEeprom e) s) := by
  show execEepromReadComplete e s = _
  simp only [execEepromReadComplete, h]

/-- R193: the load of a running part is over, its image not yet judged. -/
def loadIdle (s : State) : State := s.setLoader { s.loader with load := .idle }

theorem failsPriceTest_iff {i : Image} {s : State} : failsPriceTest i s = true ↔
    (s.price.table ≠ [] ∨ s.price.queue ≠ []) ∧ rolePlace i.windows .price ≠ rolePlace s.guard.windows .price := by
  rw [failsPriceTest, Bool.and_eq_true, roleMoved_iff, and_comm]
  refine and_congr_left fun _ => ?_
  simp [roleInUse]

/-- R193: an image that fails a test of a running part is reported as bad. -/
theorem endReload_of_barred {i : Image} {f : Nat} {s : State}
    (h : reloadBarred s = true ∨ conflicts i s = true ∨ failsPriceTest i s = true) :
    endReload (.valid i f) s = reported (.start .bad f) (loadIdle s) := by
  have hbarred : (reloadBarred (loadIdle s) || conflicts i (loadIdle s) || failsPriceTest i (loadIdle s)) = true := by
    simp only [Bool.or_eq_true, or_assoc]
    exact h
  exact if_pos hbarred

theorem endReload_of_admitted {i : Image} {f : Nat} {s : State} (hb : reloadBarred s = false) (hc : conflicts i s = false)
    (hp : failsPriceTest i s = false) :
    endReload (.valid i f) s = reported (.start .valid f) (applyImage i false true (loadIdle s)) := by
  have hadmitted : ¬(reloadBarred (loadIdle s) || conflicts i (loadIdle s) || failsPriceTest i (loadIdle s)) = true := by
    simp only [Bool.or_eq_true, or_assoc]
    exact fun h => h.elim (fun h => by simp [show reloadBarred (loadIdle s) = false from hb] at h) fun h =>
      h.elim (fun h => by simp [show conflicts i (loadIdle s) = false from hc] at h)
        fun h => by simp [show failsPriceTest i (loadIdle s) = false from hp] at h
  exact if_neg hadmitted

/-- Settles O59: the images and the bytes, and each end of a load by its origin and by what was found. -/
theorem eepromLoadAppliesValidImage : Obligations.EepromLoadAppliesValidImage := by
  unfold Obligations.EepromLoadAppliesValidImage
  intro idle applied
  refine ⟨fun b => ⟨fun i f => judgeImage_eq_valid_iff, fun f => judgeImage_eq_bad_iff⟩,
    fun bytes k hk => getByte_imageOfBytes bytes hk, ⟨rfl, fun bytes => rfl⟩, fun s o e hload hown => ?reload,
    fun s o e hload hown => ?bootstrap⟩
  case reload =>
    have hexec := exec_eepromReadComplete e hload
    rw [hown, if_neg (by simp)] at hexec
    refine ⟨fun hj => ?_, fun f hj => ?_, fun i f hj => ?valid⟩
    · rw [hexec, hj]
      rfl
    · rw [hexec, hj]
      rfl
    intro barred priceInUse
    refine ⟨fun hfails => ?_, fun hb hc hp => ?_⟩
    · rw [hexec, hj, endReload_of_barred (hfails.imp reloadBarred_iff.mpr (Or.imp id failsPriceTest_iff.mpr))]
      rfl
    · have hl : tableLaws i.windows = true := tableLaws_of_windowsOk (Keeper.windowsOk_of_judgeEeprom hj)
      have hfree : failsPriceTest i s = false := Bool.eq_false_iff.mpr (mt failsPriceTest_iff.mp hp)
      have hadmitted := endReload_of_admitted (f := f) (Bool.eq_false_iff.mpr (mt reloadBarred_iff.mp hb)) hc hfree
      have hloaded := imageLoaded_applyImage hl true (u := loadIdle s) fun hmoved => by
        by_contra htable
        exact hp ⟨.inl htable, hmoved⟩
      have hstart := hloaded.start f (applyImage i false true (loadIdle s)).loader hloaded.applied.running
      have hself : (reported (.start .valid f) (applyImage i false true (loadIdle s))).setLoader
          (applyImage i false true (loadIdle s)).loader =
            reported (.start .valid f) (applyImage i false true (loadIdle s)) := by
        rw [reported_eq]
        rfl
      rw [hself] at hstart
      obtain ⟨happlied, hlock, hbad, htime, hguest, hprice, hpending, hloader⟩ := hstart
      rw [hj, hadmitted] at hexec
      refine ⟨_, hexec, ⟨happlied, hlock, hbad, htime, hguest, hprice, ?_⟩, hloader.trans hloaded.loader⟩
      rw [hpending, reported_pending, reported_pending]
      rfl
  case bootstrap =>
    intro n answer
    have hexec := exec_eepromReadComplete e hload
    rw [hown, if_pos rfl] at hexec
    refine ⟨fun hj => ?_, fun f hj => ?_, fun i f hj hc => ?_, fun i f hj hc hreq htable => ?_⟩
    · rw [hexec, hj]
      rfl
    · rw [hexec, hj, endBootstrap_of_bad]
      rfl
    · rw [hexec, hj, endBootstrap_of_conflict hc]
      rfl
    · have hl : tableLaws i.windows = true := tableLaws_of_windowsOk (Keeper.windowsOk_of_judgeEeprom hj)
      obtain ⟨s', hs', happlied, hlock, hbad, htime, hguest, hprice, hpending, hloader⟩ :=
        endBootstrap_applied (o := o) (b := true) (f := f) hl hc hreq htable
      rw [hj, hs'] at hexec
      exact ⟨s', hexec, ⟨happlied, hlock, hbad, htime, hguest, hprice, hpending⟩, hloader⟩

end Sys2Proof.Machine
end

section
/-! PROOFS. The start-up (R189, R196): the parts it is made of, and what it reports. -/

namespace Sys2Proof.Machine

open Sys2Proof Sys2Proof.Safety

/-! ### The start-up in three parts -/

/-- R189, R196: the state before the image is judged. -/
def restoredBase (arrivals : List (Fin 64)) (s : State) : State :=
  if retainedValid s.retained then takeRetained s (startBase arrivals s) else startBase arrivals s

/-- R173, R196, R197: what follows the START report. -/
def startFinished (valid pfail : Bool) (s : State) : State :=
  startHold pfail (endTest (if valid then s else reported .retainLost s))

theorem startUp_eq {e : EepromRead} {arrivals : List (Fin 64)} {s : State} {r : ConfigResult} {f : Nat} {x : State}
    (h : startImage (judgeEeprom e) (restoredBase arrivals s) = (r, f, x)) (pfail : Bool) :
    startUp e pfail arrivals s = startFinished (retainedValid s.retained) pfail (reported (.start r f) x) := by
  unfold startUp
  dsimp only
  rw [← restoredBase, h]
  rfl

theorem retainedValid_iff {r : RetainedState} : retainedValid r = true ↔ r.lost = false ∧ r.checkAgrees = true := by
  simp [retainedValid]

theorem restoredBase_of_valid {arrivals : List (Fin 64)} {s : State} (h : retainedValid s.retained = true) :
    restoredBase arrivals s = takeRetained s (startBase arrivals s) := if_pos h

theorem restoredBase_of_lost {arrivals : List (Fin 64)} {s : State} (h : ¬retainedValid s.retained = true) :
    restoredBase arrivals s = startBase arrivals s := if_neg h

/-- R189: what a start-up puts at its start-up value whatever the retained store holds. -/
structure FreshBase (arrivals : List (Fin 64)) (s u : State) : Prop where
  link : u.link = { requests := [], completions := s.link.completions ++ arrivals.map (fun t => ⟨t, .retry⟩) }
  guard : u.guard = State.reset.guard
  mem : u.mem = { State.reset.mem with dram := s.mem.dram }
  decoder : u.decoder = State.reset.decoder
  time : u.time = State.reset.time
  label : u.label = State.reset.label
  guest : u.guest = State.reset.guest
  loader : u.loader = State.reset.loader
  reports : u.reports = { State.reset.reports with pending := [] }
  others : u.free = s.free ∧ u.pending = s.pending

theorem freshBase_restoredBase (arrivals : List (Fin 64)) (s : State) : FreshBase arrivals s (restoredBase arrivals s) := by
  unfold restoredBase
  split <;> exact ⟨rfl, rfl, rfl, rfl, rfl, rfl, rfl, rfl, rfl, rfl, rfl⟩

/-! ### The reports of a start-up (R48, R50) -/

/-- R48: the reports that have arisen, of which the queue holds the first 16. -/
def reportsArisen (r : ReportState) (arisen : List Report) : ReportState :=
  { r with pending := arisen.take 16, overflow := decide (16 < arisen.length) }

theorem withReport_reportsArisen (b : ReportBody) (t : TimeState) (r : ReportState) (arisen : List Report) :
    withReport b t (reportsArisen r arisen) = reportsArisen r (arisen ++ [⟨t.seconds, t.millis, t.clock, b⟩]) := by
  unfold withReport reportsArisen
  simp only [List.length_append, List.length_singleton, List.length_take]
  by_cases hroom : arisen.length < 16
  · rw [if_pos (by omega), List.take_of_length_le (by omega), List.take_of_length_le (by simp; omega),
      decide_eq_false (by omega), decide_eq_false (by omega)]
  · rw [if_neg (by omega), List.take_append_of_le_length (by omega), decide_eq_true (by omega)]

/-- The stamped report of a start-up (R50). -/
def startReport (b : ReportBody) : Report := ⟨0, 0, .unset, b⟩

theorem reported_reportsArisen {s : State} {r : ReportState} {arisen : List Report} (hr : s.reports = reportsArisen r arisen)
    (ht : SameClock s.time State.reset.time) (b : ReportBody) :
    reported b s = s.setReports (reportsArisen r (arisen ++ [startReport b])) := by
  obtain ⟨hs, hm, hc⟩ := ht
  rw [reported_eq, hr, withReport_reportsArisen, hs, hm, hc]
  rfl

theorem reportAll_reportsArisen (bs : List ReportBody) {s : State} {r : ReportState} {arisen : List Report}
    (hr : s.reports = reportsArisen r arisen) (ht : SameClock s.time State.reset.time) :
    reportAll bs s = s.setReports (reportsArisen r (arisen ++ bs.map startReport)) := by
  induction bs generalizing s arisen with
  | nil =>
    rw [List.map_nil, List.append_nil, ← hr]
    rfl
  | cons b bs ih =>
    show reportAll bs (reported b s) = _
    rw [reported_reportsArisen hr ht b, ih (s := s.setReports (reportsArisen r (arisen ++ [startReport b]))) rfl ht,
      List.append_assoc]
    rfl

/-! ### A start-up without an image -/

/-- R173: the day once the start-up has made the end test. -/
def dayFinished (s : State) : DayState :=
  { s.day with
    phase := if s.day.phase = .closing ∧ (s.day.grace = 0 ∨ openTills s = []) then .switching else s.day.phase }

theorem startFinished_eq (v p : Bool) (s : State) : startFinished v p s =
    ((if v then s else reported .retainLost s).setDay (dayFinished s)).setMem { s.mem with hold := p, selfRefresh := p } := by
  unfold startFinished startHold
  rw [endTest_eq]
  cases v with
  | true => rfl
  | false =>
    simp only [Bool.false_eq_true, if_false, reported_eq]
    rfl

/-- R48: the reports of a start-up that nothing else reports in. -/
def startReports (v : Bool) (b : ReportBody) : List Report :=
  startReport b :: if v then [] else [startReport .retainLost]

theorem reported_start (v : Bool) {x : State} {r : ReportState} {arisen : List Report} (hr : x.reports = reportsArisen r arisen)
    (ht : SameClock x.time State.reset.time) (b : ReportBody) :
    (if v then reported b x else reported .retainLost (reported b x)) =
      x.setReports (reportsArisen r (arisen ++ startReports v b)) := by
  rw [reported_reportsArisen hr ht b]
  cases v with
  | true => rfl
  | false =>
    rw [if_neg (by simp), reported_reportsArisen (s := x.setReports (reportsArisen r (arisen ++ [startReport b]))) rfl ht,
      List.append_assoc]
    rfl

/-- R189: a start-up, from the reports that the image's application has made. -/
theorem startFinished_start (v p : Bool) {x : State} {r : ReportState} {arisen : List Report}
    (hr : x.reports = reportsArisen r arisen) (ht : SameClock x.time State.reset.time) (b : ReportBody) :
    startFinished v p (reported b x) = ((x.setReports (reportsArisen r (arisen ++ startReports v b))).setDay
      (dayFinished x)).setMem { x.mem with hold := p, selfRefresh := p } := by
  have hday : dayFinished (reported b x) = dayFinished x := by
    rw [reported_eq]
    rfl
  rw [startFinished_eq, reported_start v hr ht b, hday, reported_mem]

theorem base_reports (arrivals : List (Fin 64)) (s : State) :
    (restoredBase arrivals s).reports = reportsArisen State.reset.reports [] := (freshBase_restoredBase arrivals s).reports

theorem base_clock (arrivals : List (Fin 64)) (s : State) : SameClock (restoredBase arrivals s).time State.reset.time := by
  rw [(freshBase_restoredBase arrivals s).time]
  exact ⟨rfl, rfl, rfl⟩

/-- The state that a start-up ends in when it applies no image. -/
def startUnconfigured (p : Bool) (arrivals : List (Fin 64)) (b : ReportBody) (s : State) : State :=
  (((restoredBase arrivals s).setReports
      (reportsArisen State.reset.reports (startReports (retainedValid s.retained) b))).setDay
    (dayFinished (restoredBase arrivals s))).setMem { (restoredBase arrivals s).mem with hold := p, selfRefresh := p }

/-- R189 step 3: an image that is absent, bad or in conflict is not applied. -/
theorem exec_startUp_unconfigured {e : EepromRead} {arrivals : List (Fin 64)} {s : State} {r : ConfigResult} {f : Nat}
    (h : startImage (judgeEeprom e) (restoredBase arrivals s) = (r, f, restoredBase arrivals s)) (p : Bool) :
    exec (.startUp e p arrivals) s = .next (startUnconfigured p arrivals (.start r f) s) := by
  refine congrArg Host.Outcome.next ((startUp_eq h p).trans ?_)
  rw [startFinished_start _ p (base_reports arrivals s) (base_clock arrivals s), List.nil_append]
  rfl

theorem exec_startUp_absent {e : EepromRead} (h : judgeEeprom e = .absent) (arrivals : List (Fin 64)) (s : State) (p : Bool) :
    exec (.startUp e p arrivals) s = .next (startUnconfigured p arrivals (.start .absent 0) s) :=
  exec_startUp_unconfigured (by rw [h]; rfl) p

end Sys2Proof.Machine
end

section
/-! PROOFS. What a start-up restores (R93, R132, R166, R196) and applies (R188, R123). -/

namespace Sys2Proof.Machine

open Sys2Proof Sys2Proof.Safety

/-! ### The retained state -/

/-- R196: the retained state of a start-up whose store is valid. -/
theorem startUnconfigured_restored {p : Bool} {arrivals : List (Fin 64)} {b : ReportBody} {s : State}
    (h : retainedValid s.retained = true) {u : State} (hu : startUnconfigured p arrivals b s = u) :
    u.retained = s.retained ∧ u.journal.contexts = s.retained.contexts ∧ u.journal.carried = s.journal.carried ∧
      u.journal.chainSeed = 0 ∧ u.journal.partWrite = .idle ∧
      (∀ bk : Bank, getBank u.journal bk = restoreBank (getBank s.journal bk) (getRetained s.retained bk)) ∧
      u.price = { State.reset.price with
        withdrawals := s.price.withdrawals, table := s.price.table.map restoreEntry } ∧
      u.day = dayFinished (takeRetained s (startBase arrivals s)) ∧
      u.reports = { State.reset.reports with pending := [startReport b] } := by
  rw [startUnconfigured, restoredBase_of_valid h, h] at hu
  subst hu
  refine ⟨rfl, rfl, rfl, rfl, rfl, fun bk => ?_, rfl, rfl, rfl⟩
  cases bk <;> rfl

theorem dayFinished_restored (arrivals : List (Fin 64)) (s : State) : dayFinished (takeRetained s (startBase arrivals s)) =
    { s.day with
      deferred := none, retryDue := false, ordered := false
      phase := if s.day.phase = .closing ∧ (s.day.grace = 0 ∨ ∀ t : Fin 32, s.retained.contexts[t].state = .idle) then
        .switching else s.day.phase } := by
  have htills : openTills (takeRetained s (startBase arrivals s)) = [] ↔
      ∀ t : Fin 32, s.retained.contexts[t].state = .idle :=
    suspendSet_eq_nil_iff (j := (takeRetained s (startBase arrivals s)).journal)
  simp only [dayFinished, htills]
  rfl

theorem startUnconfigured_lost {p : Bool} {arrivals : List (Fin 64)} {s : State} (h : ¬retainedValid s.retained = true)
    {u : State} (hu : startUnconfigured p arrivals (.start .absent 0) s = u) :
    u.journal = State.reset.journal ∧ u.price = State.reset.price ∧ u.day = State.reset.day ∧
      u.retained = State.reset.retained ∧ u.reports = State.reset.reports := by
  rw [startUnconfigured, restoredBase_of_lost h, Bool.eq_false_iff.mpr h] at hu
  subst hu
  refine ⟨rfl, rfl, ?_, rfl, rfl⟩
  rfl

/-! ### The conflict test at start-up -/

theorem dayFinished_phase {s : State} : (dayFinished s).phase ≠ .noDay ↔ s.day.phase ≠ .noDay := by
  simp only [dayFinished]
  split
  · rename_i h
    simp [h.1]
  · exact Iff.rfl

theorem conflicts_startUnconfigured (i : Image) (p : Bool) (arrivals : List (Fin 64)) (b : ReportBody) (s : State) :
    conflicts i (startUnconfigured p arrivals b s) = conflicts i (restoredBase arrivals s) := by
  have hday : dayInProgress (startUnconfigured p arrivals b s) = dayInProgress (restoredBase arrivals s) := by
    have hphase : decide ((startUnconfigured p arrivals b s).day.phase ≠ .noDay) =
        decide ((restoredBase arrivals s).day.phase ≠ .noDay) := decide_eq_decide.mpr dayFinished_phase
    rw [dayInProgress, dayInProgress, hphase]
    rfl
  rw [conflicts, conflicts, hday]
  rfl

/-! ### Watch entries outside the PRICE window (R123) -/

theorem leftOutside_of_sameShape {ws vs : Vector Window 16} (h : ∀ k : Fin 16, vs[k].SameShape ws[k])
    (table : List WatchEntry) : leftOutside vs table = leftOutside ws table := by
  unfold leftOutside
  refine List.filter_congr fun e _ => decide_eq_decide.mpr (exists_congr fun k => ?_)
  obtain ⟨he, hb, hl, ho, hr⟩ := h k
  rw [he, hb, hl, ho, hr]

theorem coversDram_iff_range {w : Window} {addr : Nat} : w.coversDram addr = true ↔
    ((w.base : Int) + w.offset) * 4096 ≤ addr ∧ (addr : Int) < ((w.limit : Int) + w.offset + 1) * 4096 := by
  rw [Window.coversDram_iff]
  omega

theorem leftOutside_of_window {ws : Vector Window 16} (hl : tableLaws ws = true) {w : Window}
    (hw : roleWindow ws .price = some w) (table : List WatchEntry) :
    leftOutside ws table = table.filter (fun e => !(w.coversDram e.line)) := by
  obtain ⟨j, hj, rfl⟩ := Option.map_eq_some_iff.mp hw
  obtain ⟨henabled, hrole⟩ := holder_of_roleIndex hj
  refine List.filter_congr fun e _ => ?_
  rw [Bool.eq_iff_iff, decide_eq_true_eq, Bool.not_eq_true', ← Bool.not_eq_true, coversDram_iff_range]
  constructor
  · rintro ⟨k, hk, hkrole, hout⟩
    rwa [role_unique hl (by simp) hk henabled hkrole hrole] at hout
  · exact fun hout => ⟨j, henabled, hrole, hout⟩

theorem leftOutside_of_no_window {ws : Vector Window 16} (hw : roleWindow ws .price = none) (table : List WatchEntry) :
    leftOutside ws table = [] := by
  refine List.filter_eq_nil_iff.mpr fun e _ => ?_
  rw [decide_eq_true_eq]
  rintro ⟨k, hk, hrole, -⟩
  exact roleWindow_eq_none_iff.mp hw k hk hrole

/-- R123: where no PRICE window was, the one that a load puts in place is told the entries that it leaves outside. -/
theorem tellOwners_price {old : Vector Window 16} {s : State} (hl : tableLaws s.guard.windows = true)
    (hnone : rolePlace old .price = none) (hrings : tellOwners old false s = s) :
    tellOwners old true s = (leftOutside s.guard.windows s.price.table).foldl dropOutside s := by
  rw [tellOwners_load, hrings]
  cases hw : roleWindow s.guard.windows .price with
  | none =>
    have hplace : rolePlace s.guard.windows .price = none := by rw [rolePlace, hw]; rfl
    rw [if_neg fun h => roleMoved_iff.mp h (hplace.trans hnone.symm), leftOutside_of_no_window hw]
    rfl
  | some w =>
    have hmoved : roleMoved old s.guard.windows .price = true := by
      rw [roleMoved_iff, hnone, rolePlace, hw]
      simp
    rw [if_pos hmoved, leftOutside_of_window hl hw]
    simp only [priceWindowChanged, hw]

/-- R130: the report of an entry that is left outside. -/
def outsideReport (e : WatchEntry) : ReportBody := .priceWithdrawn e.item e.oldPrice false

/-- R123: the Price Watch without the entries of a list. -/
def withoutEntries (gone : List WatchEntry) (p : PriceState) : PriceState := { p with
  table := p.table.filter (fun e => decide (∀ g ∈ gone, e.item ≠ g.item))
  withdrawals := p.withdrawals.filter (fun x => decide (∀ g ∈ gone, x ≠ g.item)) }

theorem withoutEntries_cons (g : WatchEntry) (gone : List WatchEntry) (p : PriceState) :
    withoutEntries gone (withoutEntries [g] p) = withoutEntries (g :: gone) p := by
  simp only [withoutEntries, List.filter_filter, List.forall_mem_cons, and_true, Bool.decide_and, List.not_mem_nil,
    false_implies, implies_true, Bool.and_comm]

theorem dropOutside_of_idle {s : State} (haccess : s.price.access = .idle) (hawaited : s.label.awaited = []) (e : WatchEntry) :
    dropOutside s e = reported (outsideReport e) (s.setPrice (withoutEntries [e] s.price)) := by
  have hgone : dropOutside s e = withdrawEntry e false s := by simp only [dropOutside, haccess]
  have hprice : withoutEntries [e] s.price = { s.price with
      table := s.price.table.filter (fun x => decide (x.item ≠ e.item))
      withdrawals := s.price.withdrawals.filter (fun i => decide (i ≠ e.item)) } := by
    simp only [withoutEntries, List.forall_mem_cons, List.not_mem_nil, false_implies, implies_true, and_true]
  rw [hgone, withdrawEntry, removeEntry_eq, leaveAwaited_of_not_mem (by rw [reported_label]; simp [hawaited]), hprice]
  rfl

/-- R123: the entries that are left outside leave one after the other, each with its report. -/
theorem foldl_dropOutside (gone : List WatchEntry) {s : State} (haccess : s.price.access = .idle)
    (hawaited : s.label.awaited = []) :
    gone.foldl dropOutside s = (reportAll (gone.map outsideReport) s).setPrice (withoutEntries gone s.price) := by
  induction gone generalizing s with
  | nil => simp [reportAll, withoutEntries, State.setPrice]
  | cons e gone ih =>
    rw [List.foldl_cons, dropOutside_of_idle haccess hawaited,
      ih (by rw [reported_price]; exact haccess) (by rw [reported_label]; exact hawaited), reported_price,
      reported_setPrice, reportAll_setPrice, State.setPrice_price, withoutEntries_cons]
    rfl

/-! ### The image that a start-up applies (R188, R189) -/

/-- The reports of a start-up that has put the threshold of an image in force. -/
def thresholdSet (i : Image) : ReportState := { State.reset.reports with threshold := i.threshold }

/-- R188, R123: the state of a start-up once its image is applied. -/
def startApplied (i : Image) (arrivals : List (Fin 64)) (s : State) : State :=
  let x := imageSet i true true (restoredBase arrivals s)
  let gone := leftOutside i.windows x.price.table
  ((x.setReports (reportsArisen (thresholdSet i) ((gone.map outsideReport).map startReport))).setPrice
    (withoutEntries gone x.price)).setLoader { x.loader with running := true }

section applied

variable {i : Image} (hl : tableLaws i.windows = true) (hthreshold : 1 ≤ i.threshold) (arrivals : List (Fin 64)) (s : State)

theorem rolePlace_reset (r : Role) : rolePlace State.reset.guard.windows r = none := by
  refine rolePlace_eq_none_iff.mpr fun k hk => ?_
  have hdisabled : State.reset.guard.windows[k] = Window.disabled := Vector.getElem_replicate k.isLt
  rw [hdisabled] at hk
  exact Bool.false_ne_true hk.1

include hthreshold in
/-- R51, R146: at the start-up both rings stand as a change of their window would leave them. -/
theorem tellOwners_fresh (old : Vector Window 16) : tellOwners old false (imageSet i true true (restoredBase arrivals s)) =
    imageSet i true true (restoredBase arrivals s) := by
  obtain ⟨-, -, -, -, -, hlabel, -, -, hreports, -⟩ := freshBase_restoredBase arrivals s
  have hr := imageSet_reports i true true (restoredBase arrivals s)
  have hlab := imageSet_label i true true (restoredBase arrivals s)
  rw [hreports] at hr
  rw [hlabel] at hlab
  generalize imageSet i true true (restoredBase arrivals s) = x at hr hlab
  have hrings : ({ x.reports with
      producer := 0, consumer := 0, phase := true, irq := false, placing := x.reports.placing.map (fun _ => ⟨false⟩) } :
        ReportState) = x.reports := by
    rw [hr]
    rfl
  have hqueue : ({ x.label with
      producer := 0, consumer := 0, phase := true, writing := x.label.writing.map (fun w => { w with inRing := false }) } :
        LabelState) = x.label := by
    rw [hlab]
    rfl
  rw [tellOwners_edit (.inr (by rw [hr]; exact hthreshold)), hrings, hqueue, ite_self, ite_self]

/-- R53: an empty ring asks for no interrupt. -/
theorem evalIrq_of_empty {s : State} (hp : s.reports.producer = 0) (hc : s.reports.consumer = 0)
    (ht : 1 ≤ s.reports.threshold) (hirq : s.reports.irq = false) : evalIrq s = s := by
  have hone := ringCapacity_ne_one s.guard.windows .report
  have hlevel : irqLevel s.reports.threshold s.reports.producer s.reports.consumer (ringCapacity s.guard.windows .report) =
      s.reports.irq := by
    rw [irqLevel_eq, hp, hc, hirq, Nat.zero_add, Nat.sub_zero, Nat.mod_self, Bool.and_eq_false_iff, decide_eq_false_iff_not,
      decide_eq_false_iff_not]
    omega
  rw [evalIrq, hlevel]
  rfl

include hl hthreshold in
theorem applyImage_start : ∃ z, WatchSide (imageSet i true true (restoredBase arrivals s)) z ∧
    applyImage i true true (restoredBase arrivals s) = (evalIrq z).setLoader { (evalIrq z).loader with running := true } ∧
    (evalIrq z).setLoader { (evalIrq z).loader with running := true } = startApplied i arrivals s := by
  have hguard : (restoredBase arrivals s).guard = State.reset.guard := (freshBase_restoredBase arrivals s).guard
  have htime := imageSet_time i true true (restoredBase arrivals s)
  have hreports := imageSet_reports i true true (restoredBase arrivals s)
  have hlabel := imageSet_label i true true (restoredBase arrivals s)
  have hprice := imageSet_price i true true (restoredBase arrivals s)
  have hwindows : (imageSet i true true (restoredBase arrivals s)).guard.windows = windowsBanked i true (restoredBase arrivals s) := by
    rw [imageSet_guard]
  have hside := watchSide_tellOwners (restoredBase arrivals s).guard.windows true
    (imageSet i true true (restoredBase arrivals s))
  have hshape := windowsBanked_sameShape hl true (restoredBase arrivals s)
  have htold := tellOwners_price (old := (restoredBase arrivals s).guard.windows)
    (s := imageSet i true true (restoredBase arrivals s)) (by rw [hwindows]; exact tableLaws_of_sameShape hshape hl)
    (by rw [hguard]; exact rolePlace_reset .price) (tellOwners_fresh hthreshold arrivals s _)
  refine ⟨_, hside, applyImage_eq i true true _, ?_⟩
  rw [htold, hwindows, leftOutside_of_sameShape hshape]
  have haccess : (restoredBase arrivals s).price.access = .idle := by
    unfold restoredBase
    split <;> rfl
  have hawaited : (restoredBase arrivals s).label.awaited = [] := by
    rw [(freshBase_restoredBase arrivals s).label]
    rfl
  rw [foldl_dropOutside _ (by rw [hprice]; exact haccess) (by rw [hlabel]; exact hawaited)]
  have hfresh : (imageSet i true true (restoredBase arrivals s)).reports = reportsArisen (thresholdSet i) [] := by
    rw [hreports, (freshBase_restoredBase arrivals s).reports]
    rfl
  have hclock : SameClock (imageSet i true true (restoredBase arrivals s)).time State.reset.time := by
    rw [htime, (freshBase_restoredBase arrivals s).time]
    exact ⟨rfl, rfl, rfl⟩
  rw [reportAll_reportsArisen _ hfresh hclock, List.nil_append, startApplied]
  dsimp only
  rw [evalIrq_of_empty]
  · rfl
  · rfl
  · rfl
  · exact hthreshold
  · rfl

include hl hthreshold in
/-- R188, R189: what the start-up leaves when it has applied its image. -/
theorem imageApplied_startApplied : ImageApplied i (restoredBase arrivals s) (startApplied i arrivals s) ∧
    applyImage i true true (restoredBase arrivals s) = startApplied i arrivals s := by
  obtain ⟨z, hside, happly, hz⟩ := applyImage_start hl hthreshold arrivals s
  have hreports : z.reports.threshold = (startApplied i arrivals s).reports.threshold := by rw [← hz]; rfl
  have hlabel : z.label = (startApplied i arrivals s).label := by rw [← hz]; rfl
  have hprice : z.price = (startApplied i arrivals s).price := by rw [← hz]; rfl
  refine ⟨?_, happly.trans hz⟩
  rw [← hz]
  refine imageApplied_of_told hl true true _ hside ?_ ?_ hreports
  · rw [hlabel]
    show (imageSet i true true (restoredBase arrivals s)).label.settings = _
    rw [imageSet_label]
  · rw [hprice]
    show (imageSet i true true (restoredBase arrivals s)).price.views = _
    rw [imageSet_price]

end applied

/-- The last part of a start-up keeps what the application left. -/
theorem imageApplied_finished {i : Image} {u a : State} (h : ImageApplied i u a) (p : Bool) (r r' : ReportState)
    (hr : r.threshold = i.threshold) :
    ImageApplied i (((u.setReports r').setDay (dayFinished u)).setMem { u.mem with hold := p, selfRefresh := p })
      (((a.setReports r).setDay (dayFinished a)).setMem { a.mem with hold := p, selfRefresh := p }) := by
  obtain ⟨hw, hg, hm, hj, hsch, hro, hv, ht, hp, hrun, hlink, hdecoder, hday, hfree, hpending⟩ := h
  have htills : openTills a = openTills u := by
    unfold openTills
    rw [hj]
  have hfinished : dayFinished a = dayFinished u := by simp only [dayFinished, hday, htills]
  have hmem : ({ a.mem with hold := p, selfRefresh := p } : MemState) =
      { u.mem with size := i.size, fill := i.fill, hold := p, selfRefresh := p } := by rw [hm]
  exact ⟨hw, hg, hmem, hj, hsch, hro, hv, hr, hp, hrun, hlink, hdecoder, hfinished, hfree, hpending⟩


/-- Settles O60: the retained state, the START report and the image, part by part. -/
theorem startUpRestoresOrClearsRetainedState : Obligations.StartUpRestoresOrClearsRetainedState := by
  unfold Obligations.StartUpRestoresOrClearsRetainedState
  refine ⟨fun s => rfl, fun s p arrivals => ?retained, fun s s₀ bytes p arrivals h₀ => ?image⟩
  case retained =>
    refine ⟨startUnconfigured p arrivals (.start .absent 0) s, exec_startUp_absent rfl arrivals s p, ?_⟩
    obtain ⟨hlink, hguard, hmem, hdecoder, htime, hlabel, hguest, hloader, -, hfree, hpending⟩ :=
      freshBase_restoredBase arrivals s
    refine ⟨hlink, hguard, ?_, hdecoder, htime, hlabel, hguest, hloader, hfree, hpending, fun hlost => ?_,
      fun hkept hagrees => ?_⟩
    · show ({ (restoredBase arrivals s).mem with hold := p, selfRefresh := p } : MemState) = _
      rw [hmem]
    · refine startUnconfigured_lost (fun hv => ?_) rfl
      obtain ⟨hkept, hagrees⟩ := retainedValid_iff.mp hv
      rcases hlost with h | h
      · simp [hkept] at h
      · simp [hagrees] at h
    · obtain ⟨h1, h2, h3, h4, h5, h6, h7, h8, h9⟩ :=
        startUnconfigured_restored (p := p) (arrivals := arrivals) (b := .start .absent 0)
          (retainedValid_iff.mpr ⟨hkept, hagrees⟩) rfl
      rw [dayFinished_restored] at h8
      exact ⟨h1, h2, h3, h4, h5, h6, h7, h8, h9⟩
  case image =>
    intro start
    obtain rfl := Host.Outcome.next.inj (h₀.symm.trans (exec_startUp_absent (e := .noAnswer) rfl arrivals s p))
    refine ⟨fun hj => ?_, fun f hj => ?_, fun i f hj hc => ?_⟩
    · exact exec_startUp_absent hj arrivals s p
    · have himage : startImage (judgeEeprom (.answers bytes)) (restoredBase arrivals s) =
          (.bad, f, restoredBase arrivals s) := by
        rcases hj with hj | ⟨i, hj, hc⟩
        · rw [hj]
          rfl
        · rw [conflicts_startUnconfigured] at hc
          rw [hj]
          exact if_pos hc
      rw [exec_startUp_unconfigured himage p]
      simp only [start]
      unfold startUnconfigured
      cases retainedValid s.retained <;> rfl
    · have hholds : ImageHolds (imageOfBytes bytes) i := by
        have hjudge : judgeEeprom (.answers bytes) =
            if imageFormatOf (imageOfBytes bytes) = 0xFFFFFFFF then .absent else judgeImage (imageOfBytes bytes) := rfl
        rw [hj] at hjudge
        split at hjudge
        · cases hjudge
        · exact (judgeImage_eq_valid_iff.mp hjudge.symm).1
      have hthreshold : 1 ≤ i.threshold := by
        rw [hholds.threshold]
        omega
      obtain ⟨happlied, happly⟩ := imageApplied_startApplied (lawsHold_iff.mp hholds.laws) hthreshold arrivals s
      have himage : startImage (judgeEeprom (.answers bytes)) (restoredBase arrivals s) =
          (.valid, f, startApplied i arrivals s) := by
        rw [conflicts_startUnconfigured] at hc
        rw [hj, ← happly]
        exact if_neg (by simp [hc])
      have htime := imageSet_time i true true (restoredBase arrivals s)
      have hprice := imageSet_price i true true (restoredBase arrivals s)
      have hclock : SameClock (startApplied i arrivals s).time State.reset.time := by
        show SameClock (imageSet i true true (restoredBase arrivals s)).time _
        rw [htime, (freshBase_restoredBase arrivals s).time]
        exact ⟨rfl, rfl, rfl⟩
      have hexec : exec (.startUp (.answers bytes) p arrivals) s = _ := congrArg Host.Outcome.next
        ((startUp_eq himage p).trans (startFinished_start (retainedValid s.retained) p rfl hclock (.start .valid f)))
      refine ⟨_, hexec, imageApplied_finished happlied p _ _ rfl, ?_, ?_, htime, ?_, ?_, ?_, ?_, ?_⟩
      · show (imageSet i true true (restoredBase arrivals s)).guard.lock = _
        rw [imageSet_guard]
        rfl
      · show (imageSet i true true (restoredBase arrivals s)).guard.badKeys = _
        rw [imageSet_guard]
        rfl
      · exact imageSet_guest i true true (restoredBase arrivals s)
      · exact imageSet_label i true true (restoredBase arrivals s)
      · show ({ (imageSet i true true (restoredBase arrivals s)).loader with running := true } : LoaderState) = _
        rw [(imageSet_others i true true (restoredBase arrivals s)).2.2.2.2.2]
        rfl
      · show withoutEntries (leftOutside i.windows (imageSet i true true (restoredBase arrivals s)).price.table)
          (imageSet i true true (restoredBase arrivals s)).price = _
        rw [hprice]
        rfl
      · have harisen : ((leftOutside i.windows (imageSet i true true (restoredBase arrivals s)).price.table).map
            outsideReport).map startReport ++ startReports (retainedValid s.retained) (.start .valid f) =
              (leftOutside i.windows (restoredBase arrivals s).price.table).map
                (fun e => ⟨0, 0, .unset, .priceWithdrawn e.item e.oldPrice false⟩) ++ start .valid f := by
          have htail : startReports (retainedValid s.retained) (.start .valid f) = start .valid f := by
            simp only [start]
            unfold startUnconfigured
            cases retainedValid s.retained <;> rfl
          rw [hprice, List.map_map, htail]
          rfl
        show reportsArisen (thresholdSet i) (_ ++ _) = _
        rw [harisen]
        rfl

end Sys2Proof.Machine
end

section
/-! PROOFS. What keeps the queues of lines within their bounds (R1, R2, R6, R7, R12, R112), in the form the operations of the
request path keep it: the bounds that follow from the tracking of lines are proved from it once, and an operation beside the
request path keeps all of it. -/

namespace Sys2Proof.Machine

open Sys2Proof Sys2Proof.Safety

/-! ### The changes beside the request path -/

theorem updateRoleWindow_log (r : Role) (f : Window → Window) (s : State) :
    (updateRoleWindow r f s).guard.log = s.guard.log := by
  unfold updateRoleWindow
  split <;> rfl

theorem aside_setBankState (bk : Bank) (st : BankState) (s : State) : Aside s (setBankState bk st s) :=
  .of_eq (by simp) (by simp) (by simp) (by simp)
    (by unfold setBankState; rw [updateRoleWindow_log]; cases bk <;> exact id) (by simp)

theorem aside_setWanRights (bk : Bank) (r : Rights) (s : State) : Aside s (setWanRights bk r s) :=
  .of_eq (by simp) (by simp) (by simp) (by simp) (by unfold setWanRights; rw [updateRoleWindow_log]; exact id) (by simp)

theorem aside_placeWindow (i : Fin 16) (w : Window) (s : State) : Aside s (placeWindow i w s) := by
  unfold placeWindow
  refine Aside.trans ?_ (.of_watchSide (watchSide_tellOwners _ _ _))
  split <;> exact .of_eq rfl rfl rfl rfl id rfl

theorem aside_applyBankWindow (s : State) (bk : Bank) : Aside s (applyBankWindow s bk) := by
  unfold applyBankWindow
  dsimp only
  split
  · exact (aside_setBankState bk _ s).trans (aside_setWanRights bk _ _)
  · exact aside_setBankState bk _ s

theorem aside_imageBase (i : Image) (b : Bool) (s : State) : Aside s (imageBase i b s) := by
  have hguard : Aside s (s.setGuard (applyLock b { s.guard with
      windows := i.windows, classMap := i.classMap, defaults := i.defaults, keys := some i.keys })) :=
    .of_eq rfl rfl rfl rfl (by cases b <;> exact id) rfl
  have hsizes : ∀ u : State, Aside u ((u.setMem { u.mem with size := i.size, fill := i.fill }).setJournal
      { u.journal with chainSeed := i.chainSeed }) := fun _ => ⟨rfl, rfl, rfl, id, rfl, rfl, id, id, id, id⟩
  exact hguard.trans (hsizes _)

theorem aside_imageSet (i : Image) (a b : Bool) (s : State) : Aside s (imageSet i a b s) := by
  have htimed : ∀ u, Aside u (applyTimed i a (recordWindows u)) := fun u => by cases a <;> exact .of_eq rfl rfl rfl rfl id rfl
  have hset : ∀ u : State, Aside u ((u.setLabel { u.label with settings := i.rounds }).setReports
      { (u.setLabel { u.label with settings := i.rounds }).reports with threshold := i.threshold }) :=
    fun u => .of_watchSide ((watchSide_setLabel u _).trans (watchSide_setReports id))
  unfold imageSet
  exact (((((aside_imageBase i b s).trans (aside_applyBankWindow _ _)).trans (aside_applyBankWindow _ _)).trans
    (htimed _)).trans (hset _)).trans (.of_watchSide (watchSide_setPrice rfl (.refl _)))

theorem aside_applyImage (i : Image) (a b : Bool) (s : State) : Aside s (applyImage i a b s) := by
  rw [applyImage_eq]
  exact ((aside_imageSet i a b s).trans (.of_watchSide
    ((watchSide_tellOwners s.guard.windows true _).trans (watchSide_evalIrq _)))).trans (.of_eq rfl rfl rfl rfl id rfl)

theorem aside_logRefusal (e : GuardEntry) (s : State) : Aside s (logRefusal e s) := by
  have hlog : ∀ (es : List GuardEntry), (s.guard.log.length ≤ 8 → es.length ≤ 8) →
      Aside s (s.setGuard { s.guard with log := es }) := fun es h => .of_eq rfl rfl rfl rfl h rfl
  unfold logRefusal
  split
  · rename_i n rest hrest
    split
    · exact hlog _ (by simp [hrest])
    · exact (hlog _ (fun _ => List.length_take_le _ _)).trans (.of_watchSide (watchSide_arise _ _))
  · exact (hlog [e] (by simp)).trans (.of_watchSide (watchSide_arise _ _))

/-- A completion sent leaves the requests outstanding. -/
theorem aside_sendCompletion (c : Completion) (s : State) : Aside s (sendCompletion c s) :=
  ⟨rfl, rfl, rfl, id, rfl, rfl, id, id, id, id⟩

/-- What a property says that every operation beside the request path keeps. -/
theorem sideKeeper_of_aside {P : State → Prop} (h : ∀ {s s'}, Aside s s' → P s → P s') : SideKeeper P where
  aside := fun _ ha hp => h ha hp
  bankState := fun hp => h (aside_setBankState _ _ _) hp
  rights := fun hp => h (aside_setWanRights _ _ _) hp
  place := fun _ hp => h (aside_placeWindow _ _ _) hp
  image := fun _ hp => h (aside_applyImage _ _ _ _) hp

/-! ### The lines that are held or handed over -/

/-- R112: the lines of requests that the capture queue holds. -/
def heldRefs (q : List CaptureLine) : List LineRef :=
  (q.filter (fun c => decide (c.stage ≠ .released))).filterMap (fun c => c.owner)

/-- R12: the lines of requests that were handed to the Memory Port. -/
def handedRefs (m : MemState) : List LineRef := (passedLines m).filterMap (fun p => p.owner)

/-- A line of a request that is handed over or held. -/
def Referenced (s : State) (o : LineRef) : Prop := o ∈ handedRefs s.mem ∨ o ∈ heldRefs s.price.queue

theorem mem_heldRefs {q : List CaptureLine} {o : LineRef} :
    o ∈ heldRefs q ↔ ∃ c ∈ q, c.stage ≠ .released ∧ c.owner = some o := by
  simp [heldRefs, and_assoc]

theorem mem_handedRefs {m : MemState} {o : LineRef} : o ∈ handedRefs m ↔ ∃ p ∈ passedLines m, p.owner = some o := by
  simp [handedRefs]

/-- R2: with distinct transaction numbers a number has one entry. -/
theorem request_unique {s : State} (hd : TxnsDistinct s) {r q : Request} (hr : r ∈ s.link.requests)
    (hq : q ∈ s.link.requests) (h : r.txn = q.txn) : r = q := List.inj_on_of_nodup_map hd hr hq h

theorem findRequest_mem {s : State} {t : Fin 64} {r : Request} (h : findRequest s t = some r) :
    r ∈ s.link.requests ∧ r.txn = t := ⟨List.mem_of_find?_eq_some h, findRequest_txn h⟩

theorem lineAt_unique {s : State} (hd : TxnsDistinct s) {o : LineRef} {x y : LineStage} (hx : LineAt s o x)
    (hy : LineAt s o y) : x = y := by
  obtain ⟨r, hr, hrt, l, hl, _, rfl⟩ := hx
  obtain ⟨q, hq, hqt, m, hm, _, rfl⟩ := hy
  obtain rfl := request_unique hd hr hq (hrt.trans hqt.symm)
  rw [hl] at hm
  rw [Option.some.inj hm]

/-! ### The invariant -/

/-- What every step keeps (R1, R2, R26, R48, R123), without the bounds that the tracking of lines implies. -/
structure Tracked (s : State) : Prop where
  requests : s.link.requests.length ≤ 32
  log : s.guard.log.length ≤ 8
  reports : s.reports.pending.length ≤ 16
  table : s.price.table.length ≤ 256
  slots : ∀ src, CountBounded (s.mem.slots.get src)
  txns : TxnsDistinct s
  items : ItemsDistinct s
  lines : LinesTracked s

/-- R1: every line of every outstanding request. -/
def lineRefs (rs : List Request) : List LineRef :=
  rs.flatMap (fun r => (List.range r.lines.length).map (fun k => ⟨r.txn, k⟩))

theorem length_lineRefs (rs : List Request) : (lineRefs rs).length = (rs.map (fun r => r.lines.length)).sum := by
  simp [lineRefs, List.length_flatMap]

theorem mem_lineRefs_of_lineAt {s : State} {o : LineRef} {st : LineStage} (h : LineAt s o st) : o ∈ lineRefs s.link.requests := by
  obtain ⟨r, hr, ht, l, hl, _⟩ := h
  have hk : o.idx < r.lines.length := (List.getElem?_eq_some_iff.mp hl).1
  exact List.mem_flatMap.mpr ⟨r, hr, List.mem_map.mpr ⟨o.idx, List.mem_range.mpr hk, by rw [ht]⟩⟩

/-- R1, R12: the lines handed over are at most the lines of the outstanding requests. -/
theorem length_handed_le {s : State} (h : LinesTracked s) :
    (handedRefs s.mem).length ≤ (s.link.requests.map (fun r => r.lines.length)).sum := by
  rw [← length_lineRefs]
  refine (List.subperm_of_subset h.handedOnce fun o ho => ?_).length_le
  obtain ⟨p, hp, hpo⟩ := mem_handedRefs.mp ho
  exact mem_lineRefs_of_lineAt (h.handed p hp o hpo)

theorem length_le_owned_add (ps : List PassedLine) :
    (ps.filter (fun p => decide (p.kind = .write))).length ≤ (ps.filterMap (fun p => p.owner)).length +
      (ps.filter (fun p => decide (p.kind = .write ∧ p.owner = none))).length := by
  induction ps with
  | nil => simp
  | cons p ps ih =>
    simp only [List.filter_cons, List.filterMap_cons]
    cases hp : p.owner <;> by_cases hk : p.kind = .write <;> simp [hk] <;> simp at ih <;> omega

/-- R1: the write lines that a link reset would leave in the queue and at the port are counted. -/
theorem length_writes_le {s : State} (h : LinesTracked s) :
    ((passedLines s.mem).filter (fun p => decide (p.kind = .write))).length ≤ 128 := by
  have hsplit := length_le_owned_add (passedLines s.mem)
  have hhanded := length_handed_le h
  have hcounted := h.counted
  unfold handedRefs at hhanded
  omega

theorem queue_sublist_passedLines (m : MemState) : m.queue.Sublist (passedLines m) := by
  unfold passedLines
  split
  · exact List.sublist_cons_self _ _
  · exact .refl _

theorem length_queue_le_add {ps : List PassedLine} (h : ∀ p ∈ ps, p.owner = none → p.kind = .write) :
    ps.length ≤ (ps.filterMap (fun p => p.owner)).length +
      (ps.filter (fun p => decide (p.kind = .write ∧ p.owner = none))).length := by
  induction ps with
  | nil => simp
  | cons p ps ih =>
    have ih := ih fun q hq => h q (List.mem_cons_of_mem p hq)
    have hhead := h p List.mem_cons_self
    simp only [List.filter_cons, List.filterMap_cons]
    cases hp : p.owner with
    | none => simp [hhead hp] ; simp at ih; omega
    | some o => simp ; simp at ih; omega

/-- R12: at most 128 lines wait in the passed-line queue. -/
theorem length_queue_le {s : State} (h : LinesTracked s) : s.mem.queue.length ≤ 128 := by
  have hsub := queue_sublist_passedLines s.mem
  have hsplit := length_queue_le_add h.orphans
  have howned := (hsub.filterMap (fun p => p.owner)).length_le
  have horphans := (hsub.filter (fun p => decide (p.kind = .write ∧ p.owner = none))).length_le
  have hhanded := length_handed_le h
  have hcounted := h.counted
  unfold handedRefs at hhanded
  omega

theorem Tracked.bounded {s : State} (h : Tracked s) : Bounded s := by
  have hcaptures := h.lines.capturePlaces
  have hdeferrals := h.lines.deferralPlaces
  exact ⟨h.requests, h.log, h.reports, h.table, by omega, by omega, length_queue_le h.lines, h.slots⟩

theorem tracked_iff {s : State} : Tracked s ↔ Bounded s ∧ TxnsDistinct s ∧ ItemsDistinct s ∧ LinesTracked s := by
  constructor
  · exact fun h => ⟨h.bounded, h.txns, h.items, h.lines⟩
  · rintro ⟨⟨hrequests, hlog, hreports, htable, _, _, _, hslots⟩, htxns, hitems, hlines⟩
    exact ⟨hrequests, hlog, hreports, htable, hslots, htxns, hitems, hlines⟩

/-! ### Operations beside the request path -/

theorem lineAt_of_requests {s s' : State} (h : s'.link.requests = s.link.requests) {o : LineRef} {st : LineStage}
    (hl : LineAt s o st) : LineAt s' o st := by
  unfold LineAt
  rw [h]
  exact hl

theorem Tracked.aside {s s' : State} (ha : Aside s s') (h : Tracked s) : Tracked s' where
  requests := by rw [ha.requests]; exact h.requests
  log := ha.log h.log
  reports := ha.reports h.reports
  table := ha.table h.table
  slots := ha.slots h.slots
  txns := by unfold TxnsDistinct; rw [ha.requests]; exact h.txns
  items := ha.items h.items
  lines :=
    { counted := by rw [ha.requests, ha.passed]; exact h.lines.counted
      orphans := by rw [ha.queue]; exact h.lines.orphans
      handed := by rw [ha.passed]; exact fun p hp o ho => lineAt_of_requests ha.requests (h.lines.handed p hp o ho)
      handedOnce := by rw [ha.passed]; exact h.lines.handedOnce
      awaiting := by rw [ha.requests]; exact h.lines.awaiting
      captures := by rw [ha.requests]; exact h.lines.captures
      capturePlaces := by rw [ha.captures, ha.requests]; exact h.lines.capturePlaces
      deferralPlaces := by rw [ha.deferred, ha.requests]; exact h.lines.deferralPlaces
      held := by
        rw [ha.captures]
        intro c hc hs
        obtain ⟨o, ho, hl⟩ := h.lines.held c hc hs
        exact ⟨o, ho, lineAt_of_requests ha.requests hl⟩
      heldOnce := by rw [ha.captures]; exact h.lines.heldOnce }

theorem Tracked.watchSide {s s' : State} (hw : WatchSide s s') (h : Tracked s) : Tracked s' := h.aside (.of_watchSide hw)

/-- The invariant with an entry table that stays is kept beside the request path. -/
theorem sideKeeper_tracked (rs : List Request) : SideKeeper (fun s => Tracked s ∧ s.link.requests = rs) :=
  sideKeeper_of_aside fun ha h => ⟨h.1.aside ha, ha.requests.trans h.2⟩

/-! ### Fewer lines -/

/-- Lines leave the port or its queue. -/
theorem Tracked.setMem {s : State} {x : MemState} (h : Tracked s) (hp : (passedLines x).Sublist (passedLines s.mem))
    (hq : x.queue.Sublist s.mem.queue) (hs : ∀ src, CountBounded (x.slots.get src)) : Tracked (s.setMem x) where
  requests := h.requests
  log := h.log
  reports := h.reports
  table := h.table
  slots := hs
  txns := h.txns
  items := h.items
  lines :=
    { counted := by
        have hle := (hp.filter (fun p => decide (p.kind = .write ∧ p.owner = none))).length_le
        have hcounted := h.lines.counted
        simp only [State.setMem_link, State.setMem_mem]
        omega
      orphans := fun p hm => h.lines.orphans p (hq.subset hm)
      handed := fun p hm o ho => h.lines.handed p (hp.subset hm) o ho
      handedOnce := (hp.filterMap _).nodup h.lines.handedOnce
      awaiting := h.lines.awaiting
      captures := h.lines.captures
      capturePlaces := h.lines.capturePlaces
      deferralPlaces := h.lines.deferralPlaces
      held := h.lines.held
      heldOnce := h.lines.heldOnce }

/-- Lines leave the capture queue, or pass to another stage in it. -/
theorem Tracked.setCaptures {s : State} {x : PriceState} (h : Tracked s) (ht : x.table = s.price.table)
    (hlen : x.queue.length ≤ s.price.queue.length)
    (hheld : ∀ c ∈ x.queue, c.stage ≠ .released → ∃ d ∈ s.price.queue, d.stage ≠ .released ∧ d.owner = c.owner)
    (honce : (heldRefs x.queue).Sublist (heldRefs s.price.queue)) : Tracked (s.setPrice x) where
  requests := h.requests
  log := h.log
  reports := h.reports
  table := by rw [State.setPrice_price, ht]; exact h.table
  slots := h.slots
  txns := h.txns
  items := by unfold ItemsDistinct; rw [State.setPrice_price, ht]; exact h.items
  lines :=
    { counted := h.lines.counted
      orphans := h.lines.orphans
      handed := h.lines.handed
      handedOnce := h.lines.handedOnce
      awaiting := h.lines.awaiting
      captures := h.lines.captures
      capturePlaces := by
        have hplaces := h.lines.capturePlaces
        simp only [State.setPrice_link, State.setPrice_price]
        omega
      deferralPlaces := h.lines.deferralPlaces
      held := fun c hc hs => by
        obtain ⟨d, hd, hds, hdo⟩ := hheld c hc hs
        obtain ⟨o, ho, hl⟩ := h.lines.held d hd hds
        exact ⟨o, hdo ▸ ho, hl⟩
      heldOnce := honce.nodup h.lines.heldOnce }

/-- A change of the Guest Budget that leaves the deferral places within their number. -/
theorem Tracked.setGuest {s : State} {x : GuestState} (h : Tracked s)
    (hq : x.queue.length + (s.link.requests.filter (fun r => r.deferralReserved)).length ≤ 16) : Tracked (s.setGuest x) where
  requests := h.requests
  log := h.log
  reports := h.reports
  table := h.table
  slots := h.slots
  txns := h.txns
  items := h.items
  lines := { h.lines with deferralPlaces := hq }

/-- A change of the Guest Budget whose deferral queue is no longer than before. -/
theorem Tracked.setGuest_of_le {s : State} {x : GuestState} (h : Tracked s) (hq : x.queue.length ≤ s.guest.queue.length) :
    Tracked (s.setGuest x) := h.setGuest (by have := h.lines.deferralPlaces; omega)

end Sys2Proof.Machine
end

section
/-! PROOFS. The tracking of lines under the operations on one entry of the outstanding-request table: an entry is changed or
removed, a line reaches its outcome (R3, R10) or is handed to the Memory Port (R12). -/

namespace Sys2Proof.Machine

open Sys2Proof Sys2Proof.Safety

/-! ### One entry changed -/

/-- What a changed entry may differ in: its lines that are handed over or held, and still PENDING, keep their stage. -/
structure Follows (s : State) (r r' : Request) : Prop where
  txn : r'.txn = r.txn
  size : r'.lines.length = r.lines.length
  awaiting : r'.progress ≠ .active → ∀ l ∈ r'.lines, l.stage = .awaitsTurn
  captures : r'.progress ≠ .queued → capturesDue r' ≤ r'.captureReserved
  stages : ∀ k, Referenced s ⟨r.txn, k⟩ → ∀ l, r.lines[k]? = some l → l.outcome = .pending →
    ∃ l', r'.lines[k]? = some l' ∧ l'.outcome = .pending ∧ l'.stage = l.stage

theorem sum_map_le_of_replaced {rs : List Request} {t : Fin 64} {f : Request → Request} {g : Request → Nat} {c : Nat}
    (hd : (rs.map (fun r => r.txn)).Nodup) (hg : ∀ r ∈ rs, r.txn = t → g (f r) ≤ g r + c) :
    ((rs.map (fun r => if r.txn = t then f r else r)).map g).sum ≤ (rs.map g).sum + c := by
  induction rs with
  | nil => simp
  | cons r rs ih =>
    obtain ⟨hr, hrs⟩ := List.nodup_cons.mp hd
    have hhead := hg r List.mem_cons_self
    by_cases ht : r.txn = t
    · have hrest : rs.map (fun r => if r.txn = t then f r else r) = rs.map id :=
        List.map_congr_left fun q hq => if_neg fun h => hr (List.mem_map.mpr ⟨q, hq, h.trans ht.symm⟩)
      have hle := hhead ht
      simp only [List.map_cons, hrest, List.map_id, List.sum_cons, if_pos ht]
      omega
    · have hle := ih hrs fun q hq => hg q (List.mem_cons_of_mem r hq)
      simp only [List.map_cons, List.sum_cons, if_neg ht]
      omega

theorem length_filter_eq_sum {α : Type} (p : α → Bool) (xs : List α) :
    (xs.filter p).length = (xs.map (fun x => (p x).toNat)).sum := by
  induction xs with
  | nil => rfl
  | cons x xs ih => cases hp : p x <;> simp [hp, ih, Nat.add_comm]

theorem lineAt_updateRequest {s : State} {t : Fin 64} {f : Request → Request} {o : LineRef} {st : LineStage}
    (hl : LineAt s o st) (htxn : ∀ r ∈ s.link.requests, r.txn = t → (f r).txn = r.txn)
    (hstage : o.txn = t → ∀ r ∈ s.link.requests, r.txn = t → ∀ l, r.lines[o.idx]? = some l → l.outcome = .pending →
      l.stage = st → ∃ l', (f r).lines[o.idx]? = some l' ∧ l'.outcome = .pending ∧ l'.stage = st) :
    LineAt (updateRequest t f s) o st := by
  obtain ⟨r, hr, hrt, l, hl, hp, hs⟩ := hl
  refine ⟨_, List.mem_map.mpr ⟨r, hr, rfl⟩, ?_⟩
  by_cases ht : r.txn = t
  · rw [if_pos ht]
    exact ⟨(htxn r hr ht).trans hrt, hstage (hrt.symm.trans ht) r hr ht l hl hp hs⟩
  · rw [if_neg ht]
    exact ⟨hrt, l, hl, hp, hs⟩

theorem forall_mem_updateRequest {s : State} {t : Fin 64} {f : Request → Request} {p : Request → Prop}
    (h : ∀ r ∈ s.link.requests, p r) (hf : ∀ r ∈ s.link.requests, r.txn = t → p (f r)) :
    ∀ r ∈ (updateRequest t f s).link.requests, p r := by
  intro r hr
  obtain ⟨q, hq, rfl⟩ := List.mem_map.mp hr
  split
  · rename_i ht
    exact hf q hq ht
  · exact h q hq

theorem forall_entry_updateRequest {s : State} {t : Fin 64} {f : Request → Request} {p : Request → Prop}
    (hf : ∀ r ∈ s.link.requests, r.txn = t → p (f r)) : ∀ r ∈ (updateRequest t f s).link.requests, r.txn = t → p r := by
  intro r hr ht
  obtain ⟨q, hq, rfl⟩ := List.mem_map.mp hr
  by_cases hqt : q.txn = t
  · rw [if_pos hqt]
    exact hf q hq hqt
  · rw [if_neg hqt] at ht
    exact absurd ht hqt

/-- R1, R6: an entry is changed, within the places that are free. -/
theorem Tracked.updateRequest_of_places {s : State} {t : Fin 64} {f : Request → Request} {c d : Nat} (h : Tracked s)
    (hf : ∀ r ∈ s.link.requests, r.txn = t → Follows s r (f r))
    (hc : ∀ r ∈ s.link.requests, r.txn = t → (f r).captureReserved ≤ r.captureReserved + c) (hcp : capturePlaces s + c ≤ 4)
    (hd : ∀ r ∈ s.link.requests, r.txn = t → (f r).deferralReserved.toNat ≤ r.deferralReserved.toNat + d)
    (hdp : deferralPlaces s + d ≤ 16) : Tracked (updateRequest t f s) := by
  have hline : ∀ {o st}, LineAt s o st → Referenced s o → LineAt (updateRequest t f s) o st := fun {o st} hl href =>
    lineAt_updateRequest hl (fun r hr ht => (hf r hr ht).txn) fun hot r hr ht l hl hp hs => by
      have ho : o = ⟨r.txn, o.idx⟩ := by rw [ht, ← hot]
      obtain ⟨l', hl', hp', hs'⟩ := (hf r hr ht).stages o.idx (ho ▸ href) l hl hp
      exact ⟨l', hl', hp', hs'.trans hs⟩
  exact
  { requests := by rw [show (updateRequest t f s).link.requests.length = s.link.requests.length from List.length_map _]; exact h.requests
    log := h.log
    reports := h.reports
    table := h.table
    slots := h.slots
    txns := by
      have htxns : (updateRequest t f s).link.requests.map (fun r => r.txn) = s.link.requests.map (fun r => r.txn) := by
        simp only [updateRequest, State.setLink_link, List.map_map]
        refine List.map_congr_left fun r hr => ?_
        simp only [Function.comp_apply]
        split
        · rename_i ht
          exact (hf r hr ht).txn
        · rfl
      unfold TxnsDistinct
      rw [htxns]
      exact h.txns
    items := h.items
    lines :=
      { counted := by
          have hle := sum_map_le_of_replaced (f := f) (g := fun r => r.lines.length) (c := 0) h.txns
            fun r hr ht => ((hf r hr ht).size).le
          have hcounted := h.lines.counted
          exact (Nat.add_le_add_right hle _).trans hcounted
        orphans := h.lines.orphans
        handed := fun p hp o ho => hline (h.lines.handed p hp o ho) (.inl (mem_handedRefs.mpr ⟨p, hp, ho⟩))
        handedOnce := h.lines.handedOnce
        awaiting := forall_mem_updateRequest h.lines.awaiting fun r hr ht => (hf r hr ht).awaiting
        captures := forall_mem_updateRequest h.lines.captures fun r hr ht => (hf r hr ht).captures
        capturePlaces := by
          have hle := sum_map_le_of_replaced (f := f) (g := fun r => r.captureReserved) h.txns hc
          exact (Nat.add_le_add_left hle s.price.queue.length).trans (by unfold Machine.capturePlaces at hcp; omega)
        deferralPlaces := by
          have hle := sum_map_le_of_replaced (f := f) (g := fun r => r.deferralReserved.toNat) h.txns hd
          unfold Machine.deferralPlaces at hdp
          rw [length_filter_eq_sum] at hdp ⊢
          exact (Nat.add_le_add_left hle s.guest.queue.length).trans (by omega)
        held := fun c hc hs => by
          obtain ⟨o, ho, hl⟩ := h.lines.held c hc hs
          exact ⟨o, ho, hline hl (.inr (mem_heldRefs.mpr ⟨c, hc, hs, ho⟩))⟩
        heldOnce := h.lines.heldOnce } }

/-- An entry is changed that reserves no more than it did. -/
theorem Tracked.updateRequest {s : State} {t : Fin 64} {f : Request → Request} (h : Tracked s)
    (hf : ∀ r ∈ s.link.requests, r.txn = t → Follows s r (f r))
    (hc : ∀ r ∈ s.link.requests, r.txn = t → (f r).captureReserved ≤ r.captureReserved)
    (hd : ∀ r ∈ s.link.requests, r.txn = t → (f r).deferralReserved.toNat ≤ r.deferralReserved.toNat) :
    Tracked (updateRequest t f s) :=
  h.updateRequest_of_places (c := 0) (d := 0) hf hc h.lines.capturePlaces hd h.lines.deferralPlaces

/-- An entry whose lines, progress and places stay follows from itself. -/
theorem Tracked.follows_of_same_lines {s : State} (h : Tracked s) {r r' : Request} (hr : r ∈ s.link.requests)
    (htxn : r'.txn = r.txn) (hlines : r'.lines = r.lines) (hkind : r'.kind = r.kind) (hcls : r'.cls = r.cls)
    (hactive : r'.progress ≠ .active → r.progress ≠ .active) (hqueued : r'.progress ≠ .queued → r.progress ≠ .queued)
    (hreserved : r'.captureReserved = r.captureReserved) : Follows s r r' where
  txn := htxn
  size := by rw [hlines]
  awaiting := fun hp => by rw [hlines]; exact h.lines.awaiting r hr (hactive hp)
  captures := fun hp => by
    have hdue := h.lines.captures r hr (hqueued hp)
    rw [hreserved]
    unfold capturesDue handlerOf at *
    rw [hlines, hkind, hcls]
    exact hdue
  stages := fun _ _ l hl hp => ⟨l, by rw [hlines]; exact hl, hp, rfl⟩

/-- R2: a started request becomes ACTIVE. -/
theorem Tracked.activate {s : State} {t : Fin 64} (h : Tracked s)
    (hstarted : ∀ r ∈ s.link.requests, r.txn = t → r.progress ≠ .queued) : Tracked (activate t s) :=
  h.updateRequest
    (fun _ hr ht => h.follows_of_same_lines hr rfl rfl rfl rfl (fun hp => absurd rfl hp) (fun _ => hstarted _ hr ht) rfl)
    (fun _ _ _ => le_rfl) (fun _ _ _ => le_rfl)

/-- R158: the place reserved in the deferral queue is released. -/
theorem Tracked.releasePlace {s : State} (h : Tracked s) (t : Fin 64) :
    Tracked (Machine.updateRequest t (fun r => { r with deferralReserved := false }) s) :=
  h.updateRequest (fun _ hr _ => h.follows_of_same_lines hr rfl rfl rfl rfl id id rfl)
    (fun _ _ _ => le_rfl) (fun _ _ _ => Nat.zero_le _)

/-! ### One line changed -/

/-- R6: whether a line of a request has yet to enter the capture queue. -/
def dueLine (r : Request) (l : ReqLine) : Bool :=
  decide (l.outcome = .pending ∧ l.stage = .awaitsTurn) && decide (handlerOf true r l = some .capture)

theorem capturesDue_eq (r : Request) : capturesDue r = (r.lines.filter (dueLine r)).length := rfl

theorem length_filter_modify_le {α : Type} {p : α → Bool} {g : α → α} {xs : List α} {k : Nat}
    (h : ∀ x, xs[k]? = some x → p (g x) = true → p x = true) :
    ((xs.modify k g).filter p).length ≤ (xs.filter p).length := by
  induction xs generalizing k with
  | nil => simp
  | cons x xs ih =>
    cases k with
    | zero =>
      have hx := h x rfl
      simp only [List.modify_zero_cons, List.filter_cons]
      cases hg : p (g x) <;> cases hp : p x <;> simp_all
    | succ k =>
      have hle := ih (k := k) fun y hy => h y (by simpa using hy)
      simp only [List.modify_succ_cons, List.filter_cons]
      split <;> simp <;> omega

/-- A line is changed that is neither handed over nor held, in a request that is ACTIVE or in a way that keeps the stage. -/
theorem Tracked.follows_onLine {s : State} (h : Tracked s) {r : Request} (hr : r ∈ s.link.requests) {k : Nat}
    {g : ReqLine → ReqLine} (hfree : ¬Referenced s ⟨r.txn, k⟩ ∨ ∀ l, (g l).outcome = l.outcome ∧ (g l).stage = l.stage)
    (hactive : r.progress = .active ∨ ∀ l, (g l).stage = l.stage)
    (hdue : ∀ l, r.lines[k]? = some l → dueLine r (g l) = true → dueLine r l = true) : Follows s r (r.onLine k g) where
  txn := rfl
  size := List.length_modify ..
  awaiting := fun hp l hl => by
    rcases hactive with hactive | hstage
    · exact absurd hactive hp
    · obtain ⟨j, hj⟩ := List.mem_iff_getElem?.mp hl
      have hj : (r.lines.modify k g)[j]? = some l := hj
      rw [List.getElem?_modify] at hj
      obtain ⟨m, hm, rfl⟩ := Option.map_eq_some_iff.mp hj
      have hawaits := h.lines.awaiting r hr hp m (List.mem_of_getElem? hm)
      split
      · exact (hstage m).trans hawaits
      · exact hawaits
  captures := fun hp => (length_filter_modify_le hdue).trans (h.lines.captures r hr hp)
  stages := fun j href l hl hp => by
    refine ⟨_, (List.getElem?_modify ..).trans (by rw [hl]; rfl), ?_⟩
    by_cases hj : k = j
    · rcases hfree with hfree | hsame
      · exact absurd (hj ▸ href) hfree
      · simp only [if_pos hj]
        exact ⟨(hsame l).1.trans hp, (hsame l).2⟩
    · simp [if_neg hj, hp]

theorem Tracked.updateLine {s : State} (h : Tracked s) {t : Fin 64} {k : Nat} {g : ReqLine → ReqLine}
    (hfree : ¬Referenced s ⟨t, k⟩ ∨ ∀ l, (g l).outcome = l.outcome ∧ (g l).stage = l.stage)
    (hactive : (∀ r ∈ s.link.requests, r.txn = t → r.progress = .active) ∨ ∀ l, (g l).stage = l.stage)
    (hdue : ∀ r ∈ s.link.requests, r.txn = t → ∀ l, r.lines[k]? = some l → dueLine r (g l) = true → dueLine r l = true) :
    Tracked (updateLine t k g s) :=
  h.updateRequest
    (fun r hr ht => h.follows_onLine hr (by rw [ht]; exact hfree) (hactive.imp_left fun ha => ha r hr ht) (hdue r hr ht))
    (fun _ _ _ => le_rfl) (fun _ _ _ => le_rfl)

/-! ### An entry removed -/

/-- R2, R17: an entry none of whose lines is handed over or held is removed. -/
theorem Tracked.removeRequest {s : State} {t : Fin 64} (h : Tracked s) (hfree : ∀ o, Referenced s o → o.txn ≠ t) :
    Tracked (removeRequest t s) := by
  have hsub : (Machine.removeRequest t s).link.requests.Sublist s.link.requests := List.filter_sublist
  have hline : ∀ {o st}, LineAt s o st → Referenced s o → LineAt (Machine.removeRequest t s) o st :=
    fun {o st} ⟨r, hr, hrt, hl⟩ href =>
      ⟨r, List.mem_filter.mpr ⟨hr, decide_eq_true (hrt ▸ hfree o href)⟩, hrt, hl⟩
  have hsum : ∀ g : Request → Nat, ((Machine.removeRequest t s).link.requests.map g).sum ≤ (s.link.requests.map g).sum :=
    fun g => (hsub.map g).sum_le_sum fun _ _ => Nat.zero_le _
  exact
  { requests := hsub.length_le.trans h.requests
    log := h.log
    reports := h.reports
    table := h.table
    slots := h.slots
    txns := (hsub.map _).nodup h.txns
    items := h.items
    lines :=
      { counted := (Nat.add_le_add_right (hsum _) _).trans h.lines.counted
        orphans := h.lines.orphans
        handed := fun p hp o ho => hline (h.lines.handed p hp o ho) (.inl (mem_handedRefs.mpr ⟨p, hp, ho⟩))
        handedOnce := h.lines.handedOnce
        awaiting := fun r hr => h.lines.awaiting r (hsub.subset hr)
        captures := fun r hr => h.lines.captures r (hsub.subset hr)
        capturePlaces := (Nat.add_le_add_left (hsum _) _).trans h.lines.capturePlaces
        deferralPlaces := (Nat.add_le_add_left (hsub.filter _).length_le _).trans h.lines.deferralPlaces
        held := fun c hc hs => by
          obtain ⟨o, ho, hl⟩ := h.lines.held c hc hs
          exact ⟨o, ho, hline hl (.inr (mem_heldRefs.mpr ⟨c, hc, hs, ho⟩))⟩
        heldOnce := h.lines.heldOnce } }

/-- A line that is handed over or held is PENDING, at the stage that says so. -/
theorem Tracked.lineAt_of_referenced {s : State} (h : Tracked s) {o : LineRef} (href : Referenced s o) :
    LineAt s o .handed ∨ LineAt s o .held := by
  rcases href with ho | ho
  · obtain ⟨p, hp, hpo⟩ := mem_handedRefs.mp ho
    exact .inl (h.lines.handed p hp o hpo)
  · obtain ⟨c, hc, hs, hco⟩ := mem_heldRefs.mp ho
    obtain ⟨o', ho', hl⟩ := h.lines.held c hc hs
    obtain rfl := Option.some.inj (hco.symm.trans ho')
    exact .inr hl

/-- A line at an earlier stage is neither handed over nor held. -/
theorem Tracked.not_referenced {s : State} (h : Tracked s) {o : LineRef} {st : LineStage} (hl : LineAt s o st)
    (hhanded : st ≠ .handed) (hheld : st ≠ .held) : ¬Referenced s o := fun href => by
  rcases h.lineAt_of_referenced href with hr | hr
  · exact hhanded (lineAt_unique h.txns hl hr)
  · exact hheld (lineAt_unique h.txns hl hr)

/-- R7: a line past its turn is a line of an ACTIVE request. -/
theorem Tracked.active_of_lineAt {s : State} (h : Tracked s) {o : LineRef} {st : LineStage} (hl : LineAt s o st)
    (hst : st ≠ .awaitsTurn) {r : Request} (hr : r ∈ s.link.requests) (ht : r.txn = o.txn) : r.progress = .active := by
  obtain ⟨q, hq, hqt, l, hl, _, rfl⟩ := hl
  obtain rfl := request_unique h.txns hr hq (ht.trans hqt.symm)
  by_contra hp
  exact hst (h.lines.awaiting r hr hp l (List.mem_of_getElem? hl))

/-! ### A line reaches its outcome (R3, R10) -/

theorem Tracked.sendIfComplete {s : State} {t : Fin 64} (h : Tracked s) : Tracked (sendIfComplete t s) := by
  unfold Machine.sendIfComplete
  split
  · rename_i r hr
    obtain ⟨hmem, ht⟩ := findRequest_mem hr
    split
    · rename_i hall
      refine (h.removeRequest fun o href hot => ?_).aside (aside_sendCompletion _ _)
      have hpending : ∃ st, LineAt s o st := (h.lineAt_of_referenced href).elim (⟨_, ·⟩) (⟨_, ·⟩)
      obtain ⟨st, q, hq, hqt, l, hl, hp, _⟩ := hpending
      obtain rfl := request_unique h.txns hmem hq (ht.trans (hot.symm.trans hqt.symm))
      have hdone := List.all_eq_true.mp hall l (List.mem_of_getElem? hl)
      exact absurd hp (of_decide_eq_true hdone)
    · exact h
  · exact h

theorem Tracked.setOutcome {s : State} {t : Fin 64} {k : Nat} {o : LineOutcome} {d : Line} (h : Tracked s)
    (hfree : ¬Referenced s ⟨t, k⟩) (ho : o ≠ .pending) : Tracked (setOutcome t k o d s) := by
  refine Tracked.sendIfComplete (h.updateLine (.inl hfree) (.inr fun _ => rfl) fun r _ _ l _ hd => ?_)
  simp [dueLine, ho] at hd

theorem Tracked.recordLine {s : State} {t : Fin 64} {k : Nat} {c : Cause} (h : Tracked s)
    (hfree : ¬Referenced s ⟨t, k⟩) : Tracked (recordLine t k c s) := by
  unfold Machine.recordLine
  split
  · exact h
  · split
    · exact h
    · exact (h.setOutcome hfree (by split <;> simp)).aside (aside_logRefusal _ _)

/-! ### A line is handed over (R12) -/

/-- R12: a passed line of a request whose line stands as handed over joins the port or its queue. -/
theorem Tracked.enqueue {s : State} {p : PassedLine} {o : LineRef} (h : Tracked s) (ho : p.owner = some o)
    (hl : LineAt s o .handed) (hnew : o ∉ handedRefs s.mem) : Tracked (enqueue p s) := by
  have hjoin : ∀ x : MemState, passedLines x = passedLines s.mem ++ [p] → (∀ q ∈ x.queue, q ∈ s.mem.queue ∨ q = p) →
      x.slots = s.mem.slots → Tracked (s.setMem x) := fun x hpassed hqueue hslots =>
    { requests := h.requests
      log := h.log
      reports := h.reports
      table := h.table
      slots := by rw [State.setMem_mem, hslots]; exact h.slots
      txns := h.txns
      items := h.items
      lines :=
        { counted := by
            have hcounted := h.lines.counted
            rw [State.setMem_mem, hpassed, List.filter_append]
            simpa [ho] using hcounted
          orphans := fun q hq hqo => by
            rcases hqueue q hq with hq | rfl
            · exact h.lines.orphans q hq hqo
            · rw [ho] at hqo
              simp at hqo
          handed := fun q hq o' hqo => by
            rw [State.setMem_mem, hpassed, List.mem_append, List.mem_singleton] at hq
            rcases hq with hq | rfl
            · exact h.lines.handed q hq o' hqo
            · obtain rfl := Option.some.inj (ho.symm.trans hqo)
              exact hl
          handedOnce := by
            rw [State.setMem_mem, hpassed, List.filterMap_append]
            refine List.nodup_append.mpr ⟨h.lines.handedOnce, by simp [ho], ?_⟩
            rintro a ha b hb rfl
            simp only [List.filterMap_cons, ho, List.filterMap_nil, List.mem_singleton] at hb
            exact hnew (hb ▸ ha)
          awaiting := h.lines.awaiting
          captures := h.lines.captures
          capturePlaces := h.lines.capturePlaces
          deferralPlaces := h.lines.deferralPlaces
          held := h.lines.held
          heldOnce := h.lines.heldOnce } }
  unfold Machine.enqueue
  split
  · rename_i hidle
    refine hjoin _ ?_ (fun q hq => .inl hq) rfl
    simp [passedLines, hidle.1, hidle.2.1]
  · refine hjoin _ ?_ (fun q hq => ?_) rfl
    · unfold passedLines
      cases s.mem.port <;> rfl
    · simpa using hq

theorem lineAt_updateLine_same {s : State} {t : Fin 64} {k : Nat} {g : ReqLine → ReqLine} {st st' : LineStage}
    (hl : LineAt s ⟨t, k⟩ st)
    (hg : ∀ l : ReqLine, l.outcome = .pending → l.stage = st → (g l).outcome = .pending ∧ (g l).stage = st') :
    LineAt (updateLine t k g s) ⟨t, k⟩ st' := by
  obtain ⟨r, hr, hrt, l, hl, hp, hs⟩ := hl
  refine ⟨r.onLine k g, List.mem_map.mpr ⟨r, hr, if_pos hrt⟩, hrt, g l, ?_, hg l hp hs⟩
  exact (List.getElem?_modify ..).trans (by rw [hl]; simp)

theorem lineAt_updateLine_other {s : State} {t : Fin 64} {k : Nat} {g : ReqLine → ReqLine} {o : LineRef} {st : LineStage}
    (hl : LineAt s o st) (hne : o ≠ ⟨t, k⟩) : LineAt (updateLine t k g s) o st :=
  lineAt_updateRequest hl (fun _ _ _ => rfl) fun hot r _ _ l hl hp hs => by
    have hk : k ≠ o.idx := fun hk => hne (by rw [hk, ← hot])
    exact ⟨l, (List.getElem?_modify ..).trans (by rw [hl]; simp [if_neg hk]), hp, hs⟩

/-- R12: a PENDING line of an ACTIVE request, not yet handed over and not held, is handed to the Memory Port. -/
theorem Tracked.handLine {s : State} {t : Fin 64} {k : Nat} {c : Option EntryCommit} {b : Bool} {st : LineStage}
    (h : Tracked s) (hl : LineAt s ⟨t, k⟩ st) (hfree : ¬Referenced s ⟨t, k⟩)
    (hactive : ∀ r ∈ s.link.requests, r.txn = t → r.progress = .active) : Tracked (handLine t k c b s) := by
  have hupdated : Tracked (Machine.updateLine t k (fun l => { l with stage := .handed }) s) :=
    h.updateLine (.inl hfree) (.inl hactive) fun r _ _ l _ hd => by simp [dueLine] at hd
  unfold Machine.handLine
  split
  · exact h
  · split
    · exact h
    · split
      · exact hupdated.enqueue rfl (lineAt_updateLine_same hl fun _ hp _ => ⟨hp, rfl⟩) (fun ho => hfree (.inl ho))
      · exact h

theorem lineAt_handLine_other {s : State} {t : Fin 64} {k : Nat} {c : Option EntryCommit} {b : Bool} {o : LineRef}
    {st : LineStage} (hl : LineAt s o st) (hne : o ≠ ⟨t, k⟩) : LineAt (handLine t k c b s) o st := by
  unfold Machine.handLine
  split
  · exact hl
  · split
    · exact hl
    · split
      · exact lineAt_of_requests (congrArg _ (enqueue_link _ _)) (lineAt_updateLine_other hl hne)
      · exact hl

end Sys2Proof.Machine
end

section
/-! PROOFS. The tracking of lines under the operations of the Guest Budget (R10, R155 to R162): refusals change outcomes
alone (`Refuses`), a served request hands its waiting lines over, and a deferred one takes the place reserved for it. -/

namespace Sys2Proof.Machine

open Sys2Proof Sys2Proof.Safety

/-! ### Refusals change outcomes alone -/

/-- An entry without the outcomes of its lines and the data delivered for them. -/
def Request.undecided (r : Request) : Request :=
  { r with lines := r.lines.map (fun l => { l with outcome := .pending, delivered := 0 }) }

/-- From `s` to `s'` requests were completed and lines reached their outcomes; the DRAM port, its queue and the Price Watch
stay. -/
structure Refuses (s s' : State) : Prop where
  mem : s'.mem = s.mem
  price : s'.price = s.price
  entries : ∀ r' ∈ s'.link.requests, ∃ r ∈ s.link.requests, r'.undecided = r.undecided

theorem Refuses.refl (s : State) : Refuses s s := ⟨rfl, rfl, fun r hr => ⟨r, hr, rfl⟩⟩

theorem Refuses.trans {a b c : State} (h : Refuses a b) (g : Refuses b c) : Refuses a c where
  mem := g.mem.trans h.mem
  price := g.price.trans h.price
  entries := fun r hr => by
    obtain ⟨q, hq, hrq⟩ := g.entries r hr
    obtain ⟨p, hp, hqp⟩ := h.entries q hq
    exact ⟨p, hp, hrq.trans hqp⟩

theorem Refuses.foldl {α : Type} {f : State → α → State} (hf : ∀ s x, Refuses s (f s x)) (xs : List α) (s : State) :
    Refuses s (xs.foldl f s) := by
  induction xs generalizing s with
  | nil => exact .refl s
  | cons x xs ih => exact (hf s x).trans (ih (f s x))

theorem Refuses.ite {c : Prop} [Decidable c] {s a b : State} (h : Refuses s a) (g : Refuses s b) :
    Refuses s (if c then a else b) := by
  split
  · exact h
  · exact g

/-- Where the DRAM port, the Price Watch and the outstanding requests stay. -/
theorem Refuses.of_eq {s s' : State} (hm : s'.mem = s.mem) (hp : s'.price = s.price)
    (hl : s'.link.requests = s.link.requests) : Refuses s s' := ⟨hm, hp, fun r hr => ⟨r, hl ▸ hr, rfl⟩⟩

/-- What two entries that differ in outcomes alone have in common. -/
theorem undecided_eq {r r' : Request} (h : r'.undecided = r.undecided) :
    r'.txn = r.txn ∧ r'.cls = r.cls ∧ r'.progress = r.progress ∧ r'.deferralReserved = r.deferralReserved ∧
      ∀ (k : Nat) (l' : ReqLine), r'.lines[k]? = some l' →
        ∃ l : ReqLine, r.lines[k]? = some l ∧ l'.stage = l.stage ∧ l'.verdict = l.verdict := by
  simp only [Request.undecided, Request.mk.injEq] at h
  obtain ⟨htxn, _, _, hcls, _, hprogress, hlines, _, hdeferral⟩ := h
  refine ⟨htxn, hcls, hprogress, hdeferral, fun k l' hl' => ?_⟩
  have hk := congrArg (fun ls : List ReqLine => ls[k]?) hlines
  simp only [List.getElem?_map, hl', Option.map_some] at hk
  obtain ⟨l, hl, hll⟩ := Option.map_eq_some_iff.mp hk.symm
  simp only [ReqLine.mk.injEq] at hll
  exact ⟨l, hl, hll.2.2.2.2.1.symm, hll.2.2.2.1.symm⟩

theorem Refuses.referenced {s s' : State} (h : Refuses s s') {o : LineRef} : Referenced s' o ↔ Referenced s o := by
  unfold Referenced
  rw [h.mem, h.price]

theorem refuses_setOutcome (t : Fin 64) (k : Nat) (o : LineOutcome) (d : Line) (s : State) :
    Refuses s (setOutcome t k o d s) := by
  have hupdated : Refuses s (updateLine t k (fun l => { l with outcome := o, delivered := d }) s) :=
    ⟨rfl, rfl, forall_mem_updateRequest (fun r hr => ⟨r, hr, rfl⟩) fun r hr _ => ⟨r, hr, by
      simp only [Request.undecided, Request.onLine, Request.mk.injEq, true_and, and_true]
      refine List.ext_getElem? fun j => ?_
      simp only [List.getElem?_map, List.getElem?_modify]
      cases r.lines[j]? with
      | none => rfl
      | some l =>
        simp only [Option.map_eq_map, Option.map_some]
        split <;> rfl⟩⟩
  refine hupdated.trans ?_
  unfold setOutcome sendIfComplete
  split
  · split
    · exact ⟨rfl, rfl, fun r hr => ⟨r, List.mem_of_mem_filter hr, rfl⟩⟩
    · exact .refl _
  · exact .refl _

theorem refuses_logRefusal (e : GuardEntry) (s : State) : Refuses s (logRefusal e s) := .of_eq (by simp) (by simp) (by simp)

theorem refuses_recordLine (t : Fin 64) (k : Nat) (c : Cause) (s : State) : Refuses s (recordLine t k c s) := by
  unfold recordLine
  split
  · exact .refl s
  · split
    · exact .refl s
    · exact (refuses_setOutcome _ _ _ _ s).trans (refuses_logRefusal _ _)

theorem refuses_refuseWaiting (t : Fin 64) (s : State) : Refuses s (refuseWaiting t s) :=
  Refuses.foldl (fun s k => refuses_recordLine t k .guestLatch s) _ s

theorem refuses_setLatch (c : LatchCause) (s : State) : Refuses s (setLatch c s) := by
  unfold setLatch
  exact Refuses.trans (.of_eq (by simp) (by simp) (by simp))
    (Refuses.foldl (fun s (e : Deferred) => refuses_refuseWaiting e.txn s) _ _)

theorem refuses_setGuest (s : State) (x : GuestState) : Refuses s (s.setGuest x) := .of_eq rfl rfl rfl

theorem refuses_countViolation (s : State) : Refuses s (countViolation s) :=
  .ite ((refuses_setGuest s _).trans (refuses_setLatch _ _)) (refuses_setGuest s _)

theorem refuses_recordRefusal (t : Fin 64) (k : Nat) (c : Cause) (s : State) : Refuses s (recordRefusal t k c s) :=
  .ite ((refuses_recordLine t k c s).trans (refuses_countViolation _)) (refuses_recordLine t k c s)

/-! ### The waiting lines of a request (R9) -/

theorem mem_waitingFrom {n k : Nat} {ls : List ReqLine} (h : k ∈ waitingFrom n ls) :
    n ≤ k ∧ ∃ l, ls[k - n]? = some l ∧ l.waits = true := by
  induction ls generalizing n with
  | nil => simp [waitingFrom] at h
  | cons x rest ih =>
    have hrest : k ∈ waitingFrom (n + 1) rest → n ≤ k ∧ ∃ l, (x :: rest)[k - n]? = some l ∧ l.waits = true := fun h => by
      obtain ⟨hle, l, hl, hw⟩ := ih h
      refine ⟨by omega, l, ?_, hw⟩
      rw [show k - n = (k - (n + 1)) + 1 by omega, List.getElem?_cons_succ]
      exact hl
    unfold waitingFrom at h
    split at h
    · rename_i hx
      rcases List.mem_cons.mp h with rfl | h
      · exact ⟨le_rfl, x, by simp, hx⟩
      · exact hrest h
    · exact hrest h

theorem nodup_waitingFrom (n : Nat) (ls : List ReqLine) : (waitingFrom n ls).Nodup := by
  induction ls generalizing n with
  | nil => exact List.nodup_nil
  | cons x rest ih =>
    unfold waitingFrom
    split
    · refine List.nodup_cons.mpr ⟨fun h => ?_, ih (n + 1)⟩
      have := (mem_waitingFrom h).1
      omega
    · exact ih (n + 1)

theorem nodup_waitingLines (t : Fin 64) (s : State) : (waitingLines t s).Nodup := by
  unfold waitingLines
  split
  · exact nodup_waitingFrom 0 _
  · exact List.nodup_nil

/-- R9: a waiting line is PENDING and waits for stage 5. -/
theorem lineAt_of_mem_waitingLines {t : Fin 64} {k : Nat} {s : State} (h : k ∈ waitingLines t s) :
    LineAt s ⟨t, k⟩ .awaitsGuest := by
  unfold waitingLines at h
  split at h
  · rename_i r hr
    obtain ⟨hmem, ht⟩ := findRequest_mem hr
    obtain ⟨_, l, hl, hw⟩ := mem_waitingFrom h
    simp only [ReqLine.waits, Bool.and_eq_true, decide_eq_true_eq] at hw
    exact ⟨r, hmem, ht, l, hl, hw.1, hw.2⟩
  · simp at h

theorem Tracked.not_referenced_of_waiting {t : Fin 64} {k : Nat} {s : State} (h : Tracked s) (hk : k ∈ waitingLines t s) :
    ¬Referenced s ⟨t, k⟩ := h.not_referenced (lineAt_of_mem_waitingLines hk) (by simp) (by simp)

/-! ### The latch and the violation count (R161, R162) -/

theorem Tracked.recordLines {t : Fin 64} {c : Cause} (ks : List Nat) {s : State} (h : Tracked s)
    (hfree : ∀ k ∈ ks, ¬Referenced s ⟨t, k⟩) : Tracked (ks.foldl (fun s k => Machine.recordLine t k c s) s) := by
  induction ks generalizing s with
  | nil => exact h
  | cons k ks ih =>
    refine ih (h.recordLine (hfree k List.mem_cons_self)) fun j hj => ?_
    rw [(refuses_recordLine t k c s).referenced]
    exact hfree j (List.mem_cons_of_mem k hj)

theorem Tracked.refuseWaiting (t : Fin 64) {s : State} (h : Tracked s) : Tracked (refuseWaiting t s) :=
  h.recordLines _ fun _ hk => h.not_referenced_of_waiting hk

theorem Tracked.foldl {α : Type} {f : State → α → State} (hf : ∀ s x, Tracked s → Tracked (f s x)) (xs : List α)
    {s : State} (h : Tracked s) : Tracked (xs.foldl f s) := by
  induction xs generalizing s with
  | nil => exact h
  | cons x xs ih => exact ih (hf s x h)

theorem Tracked.arise (b : ReportBody) {s : State} (h : Tracked s) : Tracked (arise b s) := h.watchSide (watchSide_arise b s)

theorem Tracked.setLatch (c : LatchCause) {s : State} (h : Tracked s) : Tracked (setLatch c s) :=
  Tracked.foldl (fun _ e hs => hs.refuseWaiting e.txn) _
    (((h.setGuest_of_le (x := { s.guest with latch := some c }) le_rfl).arise _).setGuest_of_le (Nat.zero_le _))

theorem Tracked.ite {c : Prop} [Decidable c] {a b : State} (h : Tracked a) (g : Tracked b) :
    Tracked (if c then a else b) := by
  split
  · exact h
  · exact g

theorem Tracked.countViolation {s : State} (h : Tracked s) : Tracked (countViolation s) := by
  have hcounted := h.setGuest_of_le (x := { s.guest with violations := min (s.guest.violations + 1) Config.guestTop }) le_rfl
  exact .ite (hcounted.setLatch _) hcounted

theorem Tracked.recordRefusal {t : Fin 64} {k : Nat} {c : Cause} {s : State} (h : Tracked s)
    (hfree : ¬Referenced s ⟨t, k⟩) : Tracked (recordRefusal t k c s) :=
  .ite (h.recordLine hfree).countViolation (h.recordLine hfree)

/-! ### Serving and deferring (R154, R155, R158) -/

theorem Tracked.handLines {t : Fin 64} {ks : List Nat} (hd : ks.Nodup) {s : State} (h : Tracked s)
    (hl : ∀ k ∈ ks, LineAt s ⟨t, k⟩ .awaitsGuest) :
    Tracked (ks.foldl (fun s k => Machine.handLine t k none false s) s) := by
  induction ks generalizing s with
  | nil => exact h
  | cons k ks ih =>
    obtain ⟨hk, hks⟩ := List.nodup_cons.mp hd
    have hline := hl k List.mem_cons_self
    refine ih hks (h.handLine hline (h.not_referenced hline (by simp) (by simp))
      fun r hr ht => h.active_of_lineAt hline (by simp) hr ht) fun j hj => ?_
    refine lineAt_handLine_other (hl j (List.mem_cons_of_mem k hj)) fun hjk => hk ?_
    obtain rfl : j = k := congrArg LineRef.idx hjk
    exact hj

theorem Tracked.serveGuest (t : Fin 64) {s : State} (h : Tracked s) : Tracked (serveGuest t s) :=
  ((h.handLines (nodup_waitingLines t s) fun _ hk => lineAt_of_mem_waitingLines hk).releasePlace t).setGuest_of_le le_rfl

theorem Tracked.latchGuest (t : Fin 64) {s : State} (h : Tracked s) : Tracked (latchGuest t s) :=
  (h.releasePlace t).refuseWaiting t

theorem length_filter_lt_of_released {rs : List Request} {r : Request} (hr : r ∈ rs) (hres : r.deferralReserved = true) :
    ((rs.map (fun q => if q.txn = r.txn then { q with deferralReserved := false } else q)).filter
      (fun q => q.deferralReserved)).length < (rs.filter (fun q => q.deferralReserved)).length := by
  rw [length_filter_eq_sum, length_filter_eq_sum, List.map_map]
  refine List.sum_lt_sum _ _ (fun q _ => ?_) ⟨r, hr, by simp [hres]⟩
  simp only [Function.comp_apply]
  split <;> simp

/-- R158: a request for which a place is reserved joins the deferral queue. -/
theorem Tracked.deferGuest {t : Fin 64} (tag : Fin 16) (n : Nat) (c : DeferCond) {s : State} (h : Tracked s)
    (hres : ∃ r ∈ s.link.requests, r.txn = t ∧ r.deferralReserved = true) : Tracked (deferGuest t tag n c s) := by
  obtain ⟨r, hr, rfl, hres⟩ := hres
  refine (h.releasePlace r.txn).setGuest ?_
  have hlt := length_filter_lt_of_released hr hres
  have hplaces := h.lines.deferralPlaces
  simp only [Machine.updateRequest, State.setLink_link, State.setLink_guest, List.length_append, List.length_singleton]
  omega

theorem Tracked.popDeferred {s : State} (h : Tracked s) : Tracked (popDeferred s) := h.setGuest_of_le (by simp)

theorem Tracked.keepDeferred (n : Nat) (c : DeferCond) {s : State} (h : Tracked s) : Tracked (keepDeferred n c s) := by
  unfold Machine.keepDeferred
  split
  · rename_i e rest hq
    exact h.setGuest_of_le (by simp [hq])
  · exact h

/-! ### Re-judgement and release (R159) -/

/-- A line, if it is there, has had its turn, and is neither handed over nor held. -/
def HadTurn (t : Fin 64) (k : Nat) (s : State) : Prop :=
  ¬Referenced s ⟨t, k⟩ ∧ ∀ r ∈ s.link.requests, r.txn = t → ∀ l, r.lines[k]? = some l → l.stage ≠ .awaitsTurn

theorem Tracked.hadTurn {t : Fin 64} {k : Nat} {s : State} (h : Tracked s) (hk : k ∈ waitingLines t s) : HadTurn t k s := by
  refine ⟨h.not_referenced_of_waiting hk, fun r hr ht l hl => ?_⟩
  obtain ⟨q, hq, hqt, m, hm, _, hstage⟩ := lineAt_of_mem_waitingLines hk
  obtain rfl := request_unique h.txns hr hq (ht.trans hqt.symm)
  obtain rfl := Option.some.inj (hl.symm.trans hm)
  rw [hstage]
  simp

theorem HadTurn.of_refuses {t : Fin 64} {k : Nat} {s s' : State} (h : HadTurn t k s) (g : Refuses s s') : HadTurn t k s' := by
  refine ⟨by rw [g.referenced]; exact h.1, fun r' hr' ht l' hl' => ?_⟩
  obtain ⟨r, hr, hrr⟩ := g.entries r' hr'
  obtain ⟨htxn, _, _, _, hlines⟩ := undecided_eq hrr
  obtain ⟨l, hl, hstage, _⟩ := hlines k l' hl'
  rw [hstage]
  exact h.2 r hr (htxn.symm.trans ht) l hl

theorem HadTurn.updateLine {t t' : Fin 64} {k k' : Nat} {g : ReqLine → ReqLine} {s : State} (h : HadTurn t k s)
    (hg : ∀ l, (g l).stage = l.stage) : HadTurn t k (updateLine t' k' g s) := by
  refine ⟨h.1, forall_mem_updateRequest h.2 fun r hr _ ht l hl => ?_⟩
  have hl : (r.lines.modify k' g)[k]? = some l := hl
  rw [List.getElem?_modify] at hl
  obtain ⟨m, hm, rfl⟩ := Option.map_eq_some_iff.mp hl
  have hstage := h.2 r hr ht m hm
  split
  · rw [hg]
    exact hstage
  · exact hstage

/-- R159: re-judging one waiting line. -/
theorem Tracked.rejudgeLine {t : Fin 64} (cls : InitClass) (kind : AccessKind) {k : Nat} {s : State} (h : Tracked s)
    (hk : HadTurn t k s) :
    Tracked (rejudgeLine t cls kind k s) ∧ ∀ j, HadTurn t j s → HadTurn t j (rejudgeLine t cls kind k s) := by
  unfold Machine.rejudgeLine
  split
  · split
    · rename_i l _
      have hjudged : Tracked (Machine.updateLine t k (fun x =>
          { x with verdict := some (judgeLine s.guard s.mem.size cls kind l.bus) }) s) :=
        h.updateLine (.inr fun _ => ⟨rfl, rfl⟩) (.inr fun _ => rfl) fun r hr ht l hl hd => by
          simp [dueLine, hk.2 r hr ht l hl] at hd
      have hkept : ∀ j, HadTurn t j s → HadTurn t j (Machine.updateLine t k (fun x =>
          { x with verdict := some (judgeLine s.guard s.mem.size cls kind l.bus) }) s) :=
        fun _ hj => hj.updateLine fun _ => rfl
      dsimp only
      split
      · exact ⟨hjudged.recordRefusal (hkept k hk).1, fun j hj => (hkept j hj).of_refuses (refuses_recordRefusal _ _ _ _)⟩
      · exact ⟨hjudged, hkept⟩
    · exact ⟨h, fun _ hj => hj⟩
  · exact ⟨h, fun _ hj => hj⟩

theorem Tracked.rejudgeLines {t : Fin 64} (cls : InitClass) (kind : AccessKind) (ks : List Nat) {s : State} (h : Tracked s)
    (hk : ∀ k ∈ ks, HadTurn t k s) : Tracked (ks.foldl (fun s k => Machine.rejudgeLine t cls kind k s) s) := by
  induction ks generalizing s with
  | nil => exact h
  | cons k ks ih =>
    obtain ⟨hjudged, hkept⟩ := h.rejudgeLine cls kind (hk k List.mem_cons_self)
    exact ih hjudged fun j hj => hkept j (hk j (List.mem_cons_of_mem k hj))

theorem Tracked.rejudgeBudget (t : Fin 64) (n : Nat) {s : State} (h : Tracked s) : Tracked (rejudgeBudget t n s) := by
  have hserved : Tracked (Machine.popDeferred (Machine.serveGuest t s)) := (h.serveGuest t).popDeferred
  unfold Machine.rejudgeBudget
  dsimp only
  split
  · exact h.popDeferred.latchGuest t
  · split
    · exact hserved
    · split
      · exact h.keepDeferred _ _
      · split
        · exact h.keepDeferred _ _
        · exact hserved
    · split
      · exact h.setLatch _
      · split
        · exact h.keepDeferred _ _
        · exact hserved

theorem Tracked.rejudgeHead (e : Deferred) {s : State} (h : Tracked s) : Tracked (rejudgeHead e s) := by
  unfold Machine.rejudgeHead
  split
  · exact h.popDeferred
  · rename_i r _
    have hlines := h.rejudgeLines r.cls r.kind _ fun k hk => h.hadTurn (t := e.txn) hk
    dsimp only
    split
    · split
      · exact hlines.popDeferred
      · exact hlines.rejudgeBudget _ _
    · exact hlines

theorem Tracked.release (b : Bool) (n : Nat) {s : State} (h : Tracked s) : Tracked (release b n s) := by
  induction n generalizing s with
  | zero => exact h
  | succ n ih =>
    unfold Machine.release
    split
    · exact h
    · rename_i e rest _
      have hhead := h.rejudgeHead e
      dsimp only
      split
      · exact h
      · split
        · exact ih hhead
        · exact hhead

theorem Tracked.pacingCheck {s : State} (h : Tracked s) : Tracked (pacingCheck s) := by
  unfold Machine.pacingCheck
  split
  · exact h.release _ _
  · exact h

theorem Tracked.guestBoundary {s : State} (h : Tracked s) : Tracked (guestBoundary s) :=
  (h.setGuest_of_le (x := { s.guest with usage := 0, inForce := s.guest.staged.getD s.guest.inForce, staged := none, violations := 0 })
    le_rfl).release _ _

/-- R155: the judgement of a request for which a place in the deferral queue is reserved. -/
theorem Tracked.judgeGuest {t : Fin 64} (tag : Fin 16) {s : State} (h : Tracked s)
    (hres : ∃ r ∈ s.link.requests, r.txn = t ∧ r.deferralReserved = true) : Tracked (judgeGuest t tag s) := by
  have hdeferred : ∀ n c, Tracked (Machine.deferGuest t tag n c s) := fun n c => h.deferGuest tag n c hres
  have hsoft : ∀ (c d : Prop) [Decidable c] [Decidable d] (n : Nat), Tracked (if c then
      (if d then releaseAll false (Machine.deferGuest t tag n .pace s) else Machine.deferGuest t tag n .pace s)
      else Machine.serveGuest t s) := fun c d _ _ n => by
    split
    · split
      · exact (hdeferred n .pace).release _ _
      · exact hdeferred n .pace
    · exact h.serveGuest t
  unfold Machine.judgeGuest
  dsimp only
  split
  · exact h.latchGuest t
  · split
    · exact hdeferred _ _
    · split
      · exact h.serveGuest t
      · split
        · exact hdeferred _ _
        · exact hsoft _ _ _
      · split
        · exact (h.setLatch _).latchGuest t
        · exact hsoft _ _ _

end Sys2Proof.Machine
end

section
/-! PROOFS. The tracking of lines under the rows of the Link Port and of the stage-4 handlers (R1, R5 to R9): a request is
taken, starts, and its lines take effect in line order. -/

namespace Sys2Proof.Machine

open Sys2Proof Sys2Proof.Safety

/-! ### The lines of a request take effect (R7, R9) -/

/-- R6, R9: a started request, which has a place reserved in the deferral queue if it is a guest's with a passing line. -/
def Ready (t : Fin 64) (s : State) : Prop :=
  ∀ r ∈ s.link.requests, r.txn = t → r.progress ≠ .queued ∧
    (r.cls = .guest → r.deferralReserved = true ∨ ∀ l ∈ r.lines, l.passes = false ∧ l.stage ≠ .awaitsGuest)

theorem Ready.of_refuses {t : Fin 64} {s s' : State} (h : Ready t s) (g : Refuses s s') : Ready t s' := by
  intro r' hr' ht
  obtain ⟨r, hr, hrr⟩ := g.entries r' hr'
  obtain ⟨htxn, hcls, hprogress, hdeferral, hlines⟩ := undecided_eq hrr
  obtain ⟨hstarted, hplace⟩ := h r hr (htxn.symm.trans ht)
  refine ⟨by rw [hprogress]; exact hstarted, fun hguest => ?_⟩
  refine (hplace (hcls.symm.trans hguest)).imp (fun hres => by rw [hdeferral]; exact hres) fun hnone l' hl' => ?_
  obtain ⟨k, hk⟩ := List.mem_iff_getElem?.mp hl'
  obtain ⟨l, hl, hstage, hverdict⟩ := hlines k l' hk
  rw [show l'.passes = l.passes by unfold ReqLine.passes; rw [hverdict], hstage]
  exact hnone l (List.mem_of_getElem? hl)

theorem Ready.activate {t : Fin 64} {s : State} (h : Ready t s) : Ready t (activate t s) :=
  forall_mem_updateRequest h fun r hr ht _ => ⟨by simp, (h r hr ht).2⟩

theorem Ready.of_requests {t : Fin 64} {s s' : State} (h : Ready t s) (e : s'.link.requests = s.link.requests) :
    Ready t s' := by
  unfold Ready
  rw [e]
  exact h

/-- Where each guest entry of the number has its place, a line may change in any way. -/
theorem Ready.updateLine {t t' : Fin 64} {k : Nat} {g : ReqLine → ReqLine} {s : State} (h : Ready t s)
    (hres : ∀ r ∈ s.link.requests, r.txn = t → r.cls = .guest → r.deferralReserved = true) :
    Ready t (updateLine t' k g s) :=
  forall_mem_updateRequest h fun r hr _ ht => ⟨(h r hr ht).1, fun hguest => .inl (hres r hr ht hguest)⟩

theorem handLine_requests (t : Fin 64) (k : Nat) (c : Option EntryCommit) (b : Bool) (s : State) :
    (handLine t k c b s).link.requests = s.link.requests ∨
      (handLine t k c b s).link.requests =
        (updateLine t k (fun l => { l with stage := .handed }) s).link.requests := by
  unfold handLine
  split
  · exact .inl rfl
  · split
    · exact .inl rfl
    · split
      · exact .inr (congrArg _ (enqueue_link _ _))
      · exact .inl rfl

theorem Ready.handLine {t t' : Fin 64} {k : Nat} {c : Option EntryCommit} {b : Bool} {s : State} (h : Ready t s)
    (hres : ∀ r ∈ s.link.requests, r.txn = t → r.cls = .guest → r.deferralReserved = true) :
    Ready t (handLine t' k c b s) := by
  rcases handLine_requests t' k c b s with e | e
  · exact h.of_requests e
  · exact (h.updateLine hres).of_requests e

theorem lineAt_activate {t : Fin 64} {s : State} {o : LineRef} {st : LineStage} (hl : LineAt s o st) :
    LineAt (activate t s) o st :=
  lineAt_updateRequest hl (fun _ _ _ => rfl) fun _ _ _ _ l hl hp hs => ⟨l, hl, hp, hs⟩

theorem activate_active (t : Fin 64) (s : State) : ∀ r ∈ (activate t s).link.requests, r.txn = t → r.progress = .active :=
  forall_entry_updateRequest fun _ _ _ => rfl

theorem lineAt_of_nextTurn {t : Fin 64} {s : State} {r : Request} {k : Nat} {l : ReqLine} (hr : findRequest s t = some r)
    (hk : nextTurn 0 r.lines = some (k, l)) : LineAt s ⟨t, k⟩ .awaitsTurn := by
  obtain ⟨hmem, ht⟩ := findRequest_mem hr
  obtain ⟨_, hl, hp, hs⟩ := nextTurn_spec hk
  exact ⟨r, hmem, ht, l, hl, hp, hs⟩

theorem Tracked.guestStage {t : Fin 64} {s : State} (h : Tracked s) (hready : Ready t s) : Tracked (guestStage t s) := by
  unfold Machine.guestStage
  split
  · rename_i r hr
    obtain ⟨hmem, ht⟩ := findRequest_mem hr
    split
    · rename_i hguest
      refine h.judgeGuest r.tag ⟨r, hmem, ht, ((hready r hmem ht).2 hguest.1).resolve_right fun hnone => ?_⟩
      obtain ⟨k, hk⟩ := List.exists_mem_of_ne_nil _ hguest.2
      obtain ⟨q, hq, hqt, l, hl, _, hstage⟩ := lineAt_of_mem_waitingLines hk
      obtain rfl := request_unique h.txns hmem hq (ht.trans hqt.symm)
      exact (hnone l (List.mem_of_getElem? hl)).2 hstage
    · exact h
  · exact h

/-- R7: the lines of a started request take effect. -/
theorem Tracked.runLines {t : Fin 64} (n : Nat) {s : State} (h : Tracked s) (hready : Ready t s) :
    Tracked (runLines t n s) := by
  induction n generalizing s with
  | zero => exact h
  | succ n ih =>
    have hactive := h.activate fun r hr ht => (hready r hr ht).1
    unfold Machine.runLines
    split
    · exact h
    · rename_i r hr
      obtain ⟨hmem, ht⟩ := findRequest_mem hr
      split
      · exact h.guestStage hready
      · rename_i k l hturn
        have hline := lineAt_activate (t := t) (lineAt_of_nextTurn hr hturn)
        have hfree := hactive.not_referenced hline (by simp) (by simp)
        obtain ⟨_, hl, _⟩ := nextTurn_spec hturn
        split
        · exact h
        · exact ih (hactive.recordRefusal hfree) (hready.activate.of_refuses (refuses_recordRefusal _ _ _ _))
        · rename_i hverdict
          have hpasses : l.passes = true := by unfold ReqLine.passes; rw [hverdict]
          split
          · exact h
          · split
            · rename_i hguest
              have hres : ∀ q ∈ (Machine.activate t s).link.requests, q.txn = t → q.cls = .guest → q.deferralReserved = true :=
                forall_entry_updateRequest fun q hq hqt hg => ((hready q hq hqt).2 hg).resolve_right fun hnone => by
                  obtain rfl := request_unique h.txns hmem hq (ht.trans hqt.symm)
                  exact absurd hpasses (by rw [(hnone l (List.mem_of_getElem? hl)).1]; simp)
              refine ih (hactive.updateLine (.inl hfree) (.inl (activate_active t s)) fun _ _ _ _ _ hd => ?_)
                (hready.activate.updateLine hres)
              simp [dueLine] at hd
            · rename_i hguest
              refine ih (hactive.handLine hline hfree (activate_active t s)) (hready.activate.handLine ?_)
              refine forall_entry_updateRequest fun q hq hqt hg => ?_
              obtain rfl := request_unique h.txns hmem hq (ht.trans hqt.symm)
              exact absurd hg hguest

/-! ### A line at its turn that a stage-4 handler receives (R8) -/

/-- Line `k` of the started request `t`, which is not a guest's, is at its turn. -/
structure Turn (t : Fin 64) (k : Nat) (s : State) : Prop where
  line : LineAt s ⟨t, k⟩ .awaitsTurn
  entry : ∀ r ∈ s.link.requests, r.txn = t → r.progress ≠ .queued ∧ r.cls ≠ .guest

theorem turn_of_turnLine {t : Fin 64} {s : State} {r : Request} {k : Nat} {l : ReqLine} {x : Handler} (h : Tracked s)
    (e : turnLine t s = some (r, k, l, x)) : Turn t k s := by
  obtain ⟨hr, hstarted, _, _, hhandler⟩ := turnLine_spec e
  obtain ⟨hmem, ht⟩ := findRequest_mem hr
  obtain ⟨_, hcls, _⟩ := handlerOf_spec hhandler
  refine ⟨?_, fun q hq hqt => ?_⟩
  · unfold turnLine at e
    rw [hr] at e
    simp only [if_neg hstarted] at e
    split at e
    · simp at e
    · rename_i k' l' hturn
      obtain ⟨_, _, hx⟩ := Option.map_eq_some_iff.mp e
      simp only [Prod.mk.injEq, true_and] at hx
      obtain ⟨rfl, _⟩ := hx
      exact lineAt_of_nextTurn hr hturn
  · obtain rfl := request_unique h.txns hmem hq (ht.trans hqt.symm)
    exact ⟨hstarted, by rcases hcls with hc | hc <;> simp [hc]⟩

theorem Turn.of_requests {t : Fin 64} {k : Nat} {s s' : State} (h : Turn t k s) (e : s'.link.requests = s.link.requests) :
    Turn t k s' := ⟨lineAt_of_requests e h.line, by rw [e]; exact h.entry⟩

theorem Turn.activate {t : Fin 64} {k : Nat} {s : State} (h : Turn t k s) : Turn t k (activate t s) :=
  ⟨lineAt_activate h.line, forall_mem_updateRequest h.entry fun r hr ht _ => ⟨by simp, (h.entry r hr ht).2⟩⟩

theorem Turn.ready {t : Fin 64} {k : Nat} {s : State} (h : Turn t k s) : Ready t s :=
  fun r hr ht => ⟨(h.entry r hr ht).1, fun hg => absurd hg (h.entry r hr ht).2⟩

theorem Turn.not_guest {t : Fin 64} {k : Nat} {s : State} (h : Turn t k s) :
    ∀ r ∈ s.link.requests, r.txn = t → r.cls = .guest → r.deferralReserved = true :=
  fun r hr ht hg => absurd hg (h.entry r hr ht).2

theorem Turn.not_referenced {t : Fin 64} {k : Nat} {s : State} (h : Turn t k s) (hs : Tracked s) : ¬Referenced s ⟨t, k⟩ :=
  hs.not_referenced h.line (by simp) (by simp)

theorem Turn.tracked_activate {t : Fin 64} {k : Nat} {s : State} (h : Turn t k s) (hs : Tracked s) : Tracked (Machine.activate t s) :=
  hs.activate fun r hr ht => (h.entry r hr ht).1

/-- R8: a handler passes the line it received. -/
theorem Turn.handed {t : Fin 64} {k : Nat} {c : Option EntryCommit} {s : State} (h : Turn t k s) (hs : Tracked s)
    (hactive : ∀ r ∈ s.link.requests, r.txn = t → r.progress = .active) :
    Tracked (runRequest t (handLine t k c false s)) :=
  Tracked.runLines 5 (hs.handLine h.line (h.not_referenced hs) hactive) (h.ready.handLine h.not_guest)

theorem Turn.passTurn {t : Fin 64} {k : Nat} {s : State} (h : Turn t k s) (hs : Tracked s) : Tracked (passTurn t k s) :=
  h.activate.handed (h.tracked_activate hs) (activate_active t s)

/-- R8, R40, R191: a control record or a bootstrap command is taken. -/
theorem Tracked.takeRecord {t : Fin 64} {test : Nat → Bool} {control boot : Line → State → State} {s : State}
    (hcontrol : SideKeeper.RecordKeeps control) (hboot : SideKeeper.RecordKeeps boot) (h : Tracked s) :
    Tracked (takeRecord t test control boot s) := by
  have hkept : ∀ {f : Line → State → State} {r k l x d}, SideKeeper.RecordKeeps f → turnLine t s = some (r, k, l, x) →
      Tracked (Machine.passTurn t k (f d (Machine.activate t s))) := fun hf e => by
    have hturn := turn_of_turnLine h e
    obtain ⟨htracked, hrequests⟩ := hf (sideKeeper_tracked _) _ _ ⟨hturn.tracked_activate h, rfl⟩
    exact (hturn.activate.of_requests hrequests).passTurn htracked
  unfold Machine.takeRecord
  split
  · rename_i e
    exact .ite (hkept hcontrol e) h
  · rename_i e
    exact .ite (hkept hboot e) h
  · exact h

end Sys2Proof.Machine
end

section
/-! PROOFS. The tracking of lines under the rows that bring a request in, start it, and hold, take or refuse the line at its
turn (R1, R5, R6, R72, R112, R148). -/

namespace Sys2Proof.Machine

open Sys2Proof Sys2Proof.Safety

/-! ### A request arrives and starts (R1, R5, R6) -/

theorem passedLines_of_idle {m : MemState} (h : m.port = .idle) : passedLines m = m.queue := by
  unfold passedLines
  rw [h]

theorem passedLines_of_passed {m : MemState} {p : PassedLine} (h : m.port = .passed p) : passedLines m = p :: m.queue := by
  unfold passedLines
  rw [h]

theorem countedLines_eq (s : State) : countedLines s = (s.link.requests.map (fun r => r.lines.length)).sum +
    ((passedLines s.mem).filter (fun p => decide (p.kind = .write ∧ p.owner = none))).length := by
  have horphan : (fun p : PassedLine => decide (p.kind = .write ∧ p.owner = none)) = PassedLine.isOrphan := by
    funext p
    simp [PassedLine.isOrphan]
  rw [horphan]
  unfold countedLines
  cases hport : s.mem.port with
  | idle => rw [passedLines_of_idle hport]; rfl
  | inserted src => rw [passedLines_of_inserted hport]; rfl
  | passed p =>
    rw [passedLines_of_passed hport]
    cases hp : p.isOrphan with
    | false => simp [hp]
    | true =>
      simp only [hp, if_true, List.filter_cons_of_pos, List.length_cons]
      omega

theorem formLines_awaits (addrs : List Nat) (ws : List WriteLine) : ∀ l ∈ formLines addrs ws, l.stage = .awaitsTurn := by
  induction addrs generalizing ws with
  | nil => simp [formLines]
  | cons a rest ih => exact List.forall_mem_cons.mpr ⟨rfl, ih _⟩

theorem length_formLines (addrs : List Nat) (ws : List WriteLine) : (formLines addrs ws).length = addrs.length := by
  induction addrs generalizing ws with
  | nil => rfl
  | cons a rest ih => exact congrArg Nat.succ (ih _)

theorem length_lineAddrs (first n : Nat) : (lineAddrs first n).length = n := by
  induction n generalizing first with
  | zero => rfl
  | succ n ih => exact congrArg Nat.succ (ih _)

theorem lineAt_append {s : State} {o : LineRef} {st : LineStage} (hl : LineAt s o st) (rs : List Request) :
    LineAt (s.setLink { s.link with requests := s.link.requests ++ rs }) o st := by
  obtain ⟨r, hr, hx⟩ := hl
  exact ⟨r, List.mem_append_left _ hr, hx⟩

/-- R1: a request that is not answered RETRY joins the table as QUEUED. -/
theorem Tracked.request {x : LinkRequest} {s : State} (h : Tracked s) (hx : answersRetry x s = false) :
    Tracked (s.setLink { s.link with requests := s.link.requests ++ [formRequest x] }) := by
  simp only [answersRetry, Bool.or_eq_false_iff, decide_eq_false_iff_not, Option.isSome_eq_false_iff, Option.isNone_iff_eq_none,
    not_le, not_lt, countedLines_eq] at hx
  obtain ⟨⟨⟨_, hroom⟩, hnew⟩, hlines⟩ := hx
  have hlength : (formRequest x).lines.length = x.count.val + 1 := by
    simp only [formRequest, length_formLines, length_lineAddrs]
  have hsum : ∀ g : Request → Nat, ((s.link.requests ++ [formRequest x]).map g).sum =
      (s.link.requests.map g).sum + g (formRequest x) := fun g => by simp
  exact
  { requests := by
      simp only [State.setLink_link, List.length_append, List.length_singleton, Config.maxRequests] at hroom ⊢
      omega
    log := h.log
    reports := h.reports
    table := h.table
    slots := h.slots
    txns := by
      simp only [TxnsDistinct, State.setLink_link, List.map_append, List.map_cons, List.map_nil]
      refine List.nodup_append.mpr ⟨h.txns, by simp, ?_⟩
      rintro a ha b hb rfl
      obtain ⟨r, hr, hra⟩ := List.mem_map.mp ha
      simp only [findRequest, List.find?_eq_none, decide_eq_true_eq] at hnew
      exact hnew r hr (hra.trans (List.mem_singleton.mp hb))
    items := h.items
    lines :=
      { counted := by
          simp only [State.setLink_link, State.setLink_mem, hsum, hlength, Config.maxLines] at hlines ⊢
          omega
        orphans := h.lines.orphans
        handed := fun p hp o ho => lineAt_append (h.lines.handed p hp o ho) _
        handedOnce := h.lines.handedOnce
        awaiting := List.forall_mem_append.mpr ⟨h.lines.awaiting,
          List.forall_mem_singleton.mpr fun _ => formLines_awaits _ _⟩
        captures := List.forall_mem_append.mpr ⟨h.lines.captures,
          List.forall_mem_singleton.mpr fun hq => absurd rfl hq⟩
        capturePlaces := by
          have hplaces := h.lines.capturePlaces
          simp only [State.setLink_link, State.setLink_price, hsum]
          exact hplaces
        deferralPlaces := by
          have hplaces := h.lines.deferralPlaces
          simp only [State.setLink_link, State.setLink_guest, List.filter_append]
          simpa [formRequest] using hplaces
        held := fun c hc hs => by
          obtain ⟨o, ho, hl⟩ := h.lines.held c hc hs
          exact ⟨o, ho, lineAt_append hl _⟩
        heldOnce := h.lines.heldOnce } }

theorem Tracked.answerRetry {t : Fin 64} {s : State} (h : Tracked s)
    (hidle : ∀ r ∈ s.link.requests, r.txn = t → r.progress ≠ .active) : Tracked (answerRetry t s) := by
  refine (h.removeRequest fun o href hot => ?_).aside (aside_sendCompletion _ _)
  have hactive : ∀ {st}, LineAt s o st → st ≠ .awaitsTurn → False := fun hl hst => by
    obtain ⟨r, hr, hrt, _⟩ := id hl
    exact hidle r hr (hrt.trans hot) (h.active_of_lineAt hl hst hr hrt)
  rcases h.lineAt_of_referenced href with hl | hl
  · exact hactive hl (by simp)
  · exact hactive hl (by simp)

/-- R6: the entry of a request that starts. -/
def started (s : State) (r : Request) : Request :=
  { judgeRequest s r with
    progress := .judged, captureReserved := captureNeed (judgeRequest s r), deferralReserved := deferralNeed (judgeRequest s r) }

theorem capturesDue_started_le (s : State) (r : Request) : capturesDue (started s r) ≤ (started s r).captureReserved := by
  refine (List.monotone_filter_right _ fun l hl => ?_).length_le
  simp only [Bool.and_eq_true] at hl
  exact hl.2

theorem Tracked.follows_started {s : State} (h : Tracked s) {r : Request} (hr : r ∈ s.link.requests)
    (hqueued : r.progress = .queued) : Follows s r (started s r) where
  txn := rfl
  size := List.length_map ..
  awaiting := fun _ l hl => by
    obtain ⟨m, hm, rfl⟩ := List.mem_map.mp hl
    exact h.lines.awaiting r hr (by simp [hqueued]) m hm
  captures := fun _ => capturesDue_started_le s r
  stages := fun k _ l hl hp =>
    ⟨{ l with verdict := some (judgeLine s.guard s.mem.size s.guard.classMap[r.tag] r.kind l.bus) },
      (List.getElem?_map ..).trans (by rw [hl]; rfl), hp, rfl⟩

/-- R6: a guest request that starts has a place reserved, unless none of its lines passes. -/
theorem Tracked.started_has_place {s : State} (h : Tracked s) {r : Request} (hr : r ∈ s.link.requests)
    (hqueued : r.progress = .queued) (hguest : (started s r).cls = .guest) : (started s r).deferralReserved = true ∨
      ∀ l ∈ (started s r).lines, l.passes = false ∧ l.stage ≠ .awaitsGuest := by
  have hawaits := (h.follows_started hr hqueued).awaiting (by simp [started])
  by_cases hany : (started s r).lines.any ReqLine.passes = true
  · have hcls : (judgeRequest s r).cls = .guest := hguest
    exact .inl (by simp only [started, deferralNeed, hcls, decide_true, Bool.true_and]; exact hany)
  · rw [List.any_eq_true] at hany
    refine .inr fun l hl => ⟨by simpa using fun hp => hany ⟨l, hl, hp⟩, ?_⟩
    rw [hawaits l hl]
    simp

theorem Tracked.requestStart {t : Fin 64} {s s' : State} (e : execRequestStart t s = .next s') (h : Tracked s) :
    Tracked s' := by
  unfold execRequestStart at e
  split at e
  · obtain rfl := Host.Outcome.next.inj e
    exact h
  · rename_i r hr
    obtain ⟨hmem, ht⟩ := findRequest_mem hr
    have honly : ∀ q ∈ s.link.requests, q.txn = t → q = r := fun q hq hqt => request_unique h.txns hq hmem (hqt.trans ht.symm)
    split at e
    · rename_i hstart
      dsimp only at e
      split at e <;> obtain rfl := Host.Outcome.next.inj e
      · exact h.answerRetry fun q hq hqt => by rw [honly q hq hqt, hstart.1]; simp
      · rename_i hplaces
        obtain ⟨hcapture, hdefer⟩ := not_or.mp hplaces
        simp only [Config.captureSize, not_lt] at hcapture
        have hdeferral : deferralPlaces s + (started s r).deferralReserved.toNat ≤ 16 := by
          have hle := h.lines.deferralPlaces
          simp only [Config.deferralSize, not_and, not_le] at hdefer
          cases hneed : (started s r).deferralReserved with
          | false => exact hle
          | true => exact hdefer hneed
        have hplaced : Tracked (Machine.updateRequest t (fun _ => started s r) s) :=
          h.updateRequest_of_places (fun q hq hqt => by rw [honly q hq hqt]; exact h.follows_started hmem hstart.1)
            (fun _ _ _ => Nat.le_add_left _ _) hcapture (fun _ _ _ => Nat.le_add_left _ _) hdeferral
        exact hplaced.runLines 5 (forall_entry_updateRequest fun _ _ _ =>
          ⟨by simp [started], fun hguest => h.started_has_place hmem hstart.1 hguest⟩)
    · obtain rfl := Host.Outcome.next.inj e
      exact h

end Sys2Proof.Machine
end

section
/-! PROOFS. The tracking of lines under the rows that take the line at its turn (R72, R75, R112, R148), and under the
completion of a capture read (R115, R118, R120). -/

namespace Sys2Proof.Machine

open Sys2Proof Sys2Proof.Safety

/-! ### A journal entry and an acknowledgement -/

/-- The line at its turn with other data. -/
theorem Turn.withData {t : Fin 64} {k : Nat} {s : State} (h : Turn t k s) (d : Line) :
    Turn t k (updateLine t k (fun l => { l with data := d }) s) :=
  ⟨lineAt_updateLine_same h.line fun _ hp hs => ⟨hp, hs⟩, forall_entry_updateRequest fun r hr ht => h.entry r hr ht⟩

theorem SideKeeper.acceptEntry {P : State → Prop} (K : SideKeeper P) {bk : Bank} {till : Fin 32} {l : Line} {e : EntryFields}
    {s : State} (hp : P s) : P (acceptEntry bk till l e s).2.2 :=
  K.setBank (by cases bk <;> rfl) (K.setJournal (s := s) (fun bk => by cases bk <;> rfl) hp)

theorem Tracked.passEntry {t : Fin 64} {k : Nat} {filled : Line} {c : EntryCommit} {s : State} (h : Tracked s)
    (hturn : Turn t k s) (hactive : ∀ r ∈ s.link.requests, r.txn = t → r.progress = .active) :
    Tracked (passEntry t k filled c s) := by
  obtain ⟨htested, hrequests⟩ : Tracked (if (getBank s.journal c.bank).state = .closing then endTest s else s) ∧
      (if (getBank s.journal c.bank).state = .closing then endTest s else s).link.requests = s.link.requests :=
    SideKeeper.ite (P := fun u => Tracked u ∧ u.link.requests = s.link.requests)
      ((sideKeeper_tracked s.link.requests).endTest ⟨h, rfl⟩) ⟨h, rfl⟩
  unfold Machine.passEntry
  dsimp only
  generalize (if (getBank s.journal c.bank).state = .closing then endTest s else s) = u at htested hrequests ⊢
  have hactive : ∀ r ∈ u.link.requests, r.txn = t → r.progress = .active := by rw [hrequests]; exact hactive
  have hfilled : Tracked (Machine.updateLine t k (fun l => { l with data := filled }) u) :=
    htested.updateLine (.inr fun _ => ⟨rfl, rfl⟩) (.inr fun _ => rfl) fun _ _ _ _ _ hd => hd
  exact ((hturn.of_requests hrequests).withData filled).handed hfilled (forall_entry_updateRequest hactive)

theorem Tracked.refuseEntry {t : Fin 64} {k : Nat} {bk : Bank} {c : Cause} {s : State} (h : Tracked s)
    (hturn : Turn t k s) : Tracked (runRequest t (refuseEntry t k bk c s)) := by
  obtain ⟨hmarked, hrequests⟩ : Tracked (if c = .bankFull then markFull bk s else s) ∧
      (if c = .bankFull then markFull bk s else s).link.requests = s.link.requests :=
    SideKeeper.ite (P := fun u => Tracked u ∧ u.link.requests = s.link.requests)
      (SideKeeper.ite (P := fun u => Tracked u ∧ u.link.requests = s.link.requests) ⟨h, rfl⟩
        ((sideKeeper_tracked s.link.requests).arise ((sideKeeper_tracked s.link.requests).setBank rfl ⟨h, rfl⟩)))
      ⟨h, rfl⟩
  have hturn := hturn.of_requests hrequests
  exact Tracked.runLines 5 (hmarked.recordRefusal (hturn.not_referenced hmarked))
    (hturn.ready.of_refuses (refuses_recordRefusal _ _ _ _))

theorem Tracked.journalEntry {t : Fin 64} {s s' : State} (e : execJournalEntry t s = .next s') (h : Tracked s) :
    Tracked s' := by
  unfold execJournalEntry at e
  split at e
  · rename_i r k l bk hline
    have hturn := turn_of_turnLine h hline
    have hactive := hturn.tracked_activate h
    split at e
    · dsimp only at e
      split at e <;> obtain rfl := Host.Outcome.next.inj e
      · rename_i till _ _
        obtain ⟨haccepted, hrequests⟩ :=
          (sideKeeper_tracked (Machine.activate t s).link.requests).acceptEntry (bk := bk) (till := till) (l := l.data)
            (e := readEntry l.data) ⟨hactive, rfl⟩
        exact haccepted.passEntry (hturn.activate.of_requests hrequests) (by rw [hrequests]; exact activate_active t s)
      · exact hactive.refuseEntry hturn.activate
      · exact hactive
    · obtain rfl := Host.Outcome.next.inj e
      exact h
  · obtain rfl := Host.Outcome.next.inj e
    exact h

theorem Tracked.acknowledgement {t : Fin 64} {s s' : State} (e : execAcknowledgement t s = .next s') (h : Tracked s) :
    Tracked s' := by
  unfold execAcknowledgement at e
  split at e <;> obtain rfl := Host.Outcome.next.inj e
  · rename_i r k l hline
    have hturn := turn_of_turnLine h hline
    have htaken := watchSide_takeAck (readAck l.data) (Machine.activate t s)
    exact (hturn.activate.of_requests (congrArg _ htaken.link)).passTurn ((hturn.tracked_activate h).watchSide htaken)
  · exact h

/-! ### A price line is held (R112) -/

theorem filter_modify_lt {α : Type} {p : α → Bool} {g : α → α} {xs : List α} {k : Nat} {x : α} (hx : xs[k]? = some x)
    (hp : p x = true) (hg : p (g x) = false) : ((xs.modify k g).filter p).length < (xs.filter p).length := by
  induction xs generalizing k with
  | nil => simp at hx
  | cons y ys ih =>
    cases k with
    | zero =>
      obtain rfl : y = x := by simpa using hx
      simp [hp, hg]
    | succ k =>
      have hlt := ih (k := k) (by simpa using hx)
      simp only [List.modify_succ_cons, List.filter_cons]
      split <;> simp <;> omega

/-- R112: the entry of a request whose line `k` is held; one place reserved for a capture is used. -/
def lineHeld (k : Nat) (r : Request) : Request :=
  Request.onLine k (fun l => { l with stage := .held }) { r with captureReserved := r.captureReserved - 1 }

theorem handlerOf_capture_running {b : Bool} {r : Request} {l : ReqLine} (h : handlerOf b r l = some .capture) :
    handlerOf true r l = some .capture := by
  unfold handlerOf at *
  split at h
  · split at h <;> simp_all
  · simp at h

/-- A line joins the capture queue in the state WAITING. -/
theorem Tracked.hold {t : Fin 64} {k addr : Nat} {d : Line} {s : State} (h : Tracked s) (hl : LineAt s ⟨t, k⟩ .held)
    (hnew : (⟨t, k⟩ : LineRef) ∉ heldRefs s.price.queue) (hplace : capturePlaces s + 1 ≤ 4) :
    Tracked (s.setPrice { s.price with queue := s.price.queue ++ [⟨some ⟨t, k⟩, addr, d, .waiting⟩] }) where
  requests := h.requests
  log := h.log
  reports := h.reports
  table := h.table
  slots := h.slots
  txns := h.txns
  items := h.items
  lines :=
    { h.lines with
      capturePlaces := by
        unfold Machine.capturePlaces at hplace
        simp only [State.setPrice_link, State.setPrice_price, List.length_append, List.length_singleton]
        omega
      held := List.forall_mem_append.mpr ⟨h.lines.held, List.forall_mem_singleton.mpr fun _ => ⟨⟨t, k⟩, rfl, hl⟩⟩
      heldOnce := by
        have hrefs : heldRefs (s.price.queue ++ [⟨some ⟨t, k⟩, addr, d, .waiting⟩]) = heldRefs s.price.queue ++ [⟨t, k⟩] := by
          simp [heldRefs]
        change (heldRefs _).Nodup
        rw [State.setPrice_price, hrefs]
        refine List.nodup_append.mpr ⟨h.lines.heldOnce, by simp, ?_⟩
        rintro a ha b hb rfl
        exact hnew (List.mem_singleton.mp hb ▸ ha) }

theorem capturesDue_lineHeld_lt {k : Nat} {r : Request} {l : ReqLine} (hl : r.lines[k]? = some l)
    (hdue : dueLine r l = true) : capturesDue (lineHeld k r) < capturesDue r :=
  filter_modify_lt (p := dueLine r) hl hdue (by simp [dueLine])

/-- R112: the line at its turn leaves the lines that have yet to enter the capture queue, and its place is free. -/
theorem Tracked.lineHeld {t : Fin 64} {k : Nat} {s : State} (h : Tracked s) (hturn : Turn t k s)
    (hactive : ∀ r ∈ s.link.requests, r.txn = t → r.progress = .active)
    (hdue : ∀ r ∈ s.link.requests, r.txn = t → ∃ l, r.lines[k]? = some l ∧ dueLine r l = true) :
    Tracked (Machine.updateRequest t (Machine.lineHeld k) s) ∧
      capturePlaces (Machine.updateRequest t (Machine.lineHeld k) s) + 1 ≤ 4 := by
  have hplace : ∀ r ∈ s.link.requests, r.txn = t → capturesDue (Machine.lineHeld k r) < capturesDue r ∧
      capturesDue r ≤ r.captureReserved := fun r hr ht => by
    obtain ⟨l, hl, hd⟩ := hdue r hr ht
    exact ⟨capturesDue_lineHeld_lt hl hd, h.lines.captures r hr (hturn.entry r hr ht).1⟩
  refine ⟨h.updateRequest (fun r hr ht => ?_) (fun _ _ _ => Nat.sub_le _ _) (fun _ _ _ => le_rfl), ?_⟩
  · have hline := h.follows_onLine (g := fun l => { l with stage := .held }) hr (.inl (ht ▸ hturn.not_referenced h))
      (.inl (hactive r hr ht)) (fun l _ hd => by simp [dueLine] at hd)
    exact
    { txn := rfl
      size := hline.size
      awaiting := hline.awaiting
      captures := fun _ => by
        obtain ⟨hlt, hle⟩ := hplace r hr ht
        change _ ≤ r.captureReserved - 1
        omega
      stages := hline.stages }
  · obtain ⟨r, hr, ht, _⟩ := hturn.line
    have hlt : ((Machine.updateRequest t (Machine.lineHeld k) s).link.requests.map (fun q => q.captureReserved)).sum <
        (s.link.requests.map (fun q => q.captureReserved)).sum := by
      simp only [Machine.updateRequest, State.setLink_link, List.map_map]
      refine List.sum_lt_sum _ _ (fun q _ => ?_) ⟨r, hr, ?_⟩
      · simp only [Function.comp_apply]
        split
        · exact Nat.sub_le _ _
        · exact le_rfl
      · obtain ⟨hlt, hle⟩ := hplace r hr ht
        simp only [Function.comp_apply, if_pos ht]
        change r.captureReserved - 1 < _
        omega
    have hplaces := h.lines.capturePlaces
    change s.price.queue.length + _ + 1 ≤ 4
    omega

theorem lineAt_lineHeld {t : Fin 64} {k : Nat} {s : State} (hl : LineAt s ⟨t, k⟩ .awaitsTurn) :
    LineAt (updateRequest t (lineHeld k) s) ⟨t, k⟩ .held := by
  obtain ⟨r, hr, ht, l, hl, hp, _⟩ := hl
  refine ⟨lineHeld k r, List.mem_map.mpr ⟨r, hr, if_pos ht⟩, ht, { l with stage := .held }, ?_, hp, rfl⟩
  exact (List.getElem?_modify ..).trans (by rw [show r.lines[k]? = some l from hl]; simp)

theorem Tracked.priceWriteCapture {t : Fin 64} {s s' : State} (e : execPriceWriteCapture t s = .next s') (h : Tracked s) :
    Tracked s' := by
  unfold execPriceWriteCapture at e
  split at e
  · rename_i r k l hline
    obtain ⟨hr, _, hl, hp, hhandler⟩ := turnLine_spec hline
    obtain ⟨hmem, ht⟩ := findRequest_mem hr
    have hturn := (turn_of_turnLine h hline).activate
    have hactive := (turn_of_turnLine h hline).tracked_activate h
    have hfree := hturn.not_referenced hactive
    have hstage : l.stage = .awaitsTurn := by
      obtain ⟨q, hq, hqt, m, hm, _, hm'⟩ := (turn_of_turnLine h hline).line
      obtain rfl := request_unique h.txns hmem hq (ht.trans hqt.symm)
      obtain rfl := Option.some.inj (hl.symm.trans hm)
      exact hm'
    split at e <;> obtain rfl := Host.Outcome.next.inj e
    · rename_i addr _ _ _ _
      have hdue : ∀ q ∈ (Machine.activate t s).link.requests, q.txn = t →
          ∃ x, q.lines[k]? = some x ∧ dueLine q x = true :=
        forall_entry_updateRequest fun q hq hqt => by
          obtain rfl := request_unique h.txns hmem hq (ht.trans hqt.symm)
          have hl_due : dueLine r l = true := by simp [dueLine, hp, hstage, handlerOf_capture_running hhandler]
          exact ⟨l, hl, hl_due⟩
      obtain ⟨hheld, hplace⟩ := hactive.lineHeld hturn (activate_active t s) hdue
      exact Tracked.runLines 5 (hheld.hold (lineAt_lineHeld hturn.line) (fun ho => hfree (.inr ho)) hplace)
        (forall_entry_updateRequest fun q hq hqt => by
          obtain ⟨hstarted, hguest⟩ := hturn.entry q hq hqt
          exact ⟨hstarted, fun hg => absurd hg hguest⟩)
    · exact h
  · obtain rfl := Host.Outcome.next.inj e
    exact h

end Sys2Proof.Machine
end

section
/-! PROOFS. The tracking of lines under the capture queue's rows and the DRAM port's (R12, R15, R114 to R120): a held line is
let go or discarded, a passed line is granted, and its write or read completes. -/

namespace Sys2Proof.Machine

open Sys2Proof Sys2Proof.Safety

theorem sideKeeper_trackedAlone : SideKeeper Tracked := sideKeeper_of_aside fun ha h => h.aside ha

theorem sideKeeper_asideFrom (s : State) : SideKeeper (Aside s) := sideKeeper_of_aside fun ha h => h.trans ha

theorem Aside.referenced {s s' : State} (h : Aside s s') {o : LineRef} : Referenced s' o ↔ Referenced s o := by
  unfold Referenced handedRefs
  rw [h.passed, h.captures]

/-! ### A held line is let go or discarded (R118, R120) -/

theorem eq_of_nodup_filterMap {α β : Type} {f : α → Option β} {xs : List α} (hn : (xs.filterMap f).Nodup) {x y : α} {b : β}
    (hx : x ∈ xs) (hy : y ∈ xs) (hxb : f x = some b) (hyb : f y = some b) : x = y := by
  induction xs with
  | nil => simp at hx
  | cons a rest ih =>
    have hmem : ∀ {z : α}, z ∈ rest → f z = some b → b ∈ rest.filterMap f := fun hz hzb => List.mem_filterMap.mpr ⟨_, hz, hzb⟩
    cases ha : f a with
    | none =>
      rw [List.filterMap_cons_none ha] at hn
      rcases List.mem_cons.mp hx with rfl | hx
      · simp [ha] at hxb
      · rcases List.mem_cons.mp hy with rfl | hy
        · simp [ha] at hyb
        · exact ih hn hx hy
    | some c =>
      rw [List.filterMap_cons_some ha, List.nodup_cons] at hn
      rcases List.mem_cons.mp hx with rfl | hx' <;> rcases List.mem_cons.mp hy with rfl | hy'
      · rfl
      · obtain rfl := Option.some.inj (ha.symm.trans hxb)
        exact absurd (hmem hy' hyb) hn.1
      · obtain rfl := Option.some.inj (ha.symm.trans hyb)
        exact absurd (hmem hx' hxb) hn.1
      · exact ih hn.2 hx' hy'

/-- The capture queue once its READING line has left it or is RELEASED. -/
structure LeftReading (q q' : List CaptureLine) : Prop where
  length : q'.length ≤ q.length
  lines : ∀ c ∈ q', c.stage ≠ .released → c ∈ q ∧ c.stage ≠ .reading
  refs : (heldRefs q').Sublist (heldRefs q)

theorem leftReading_filter (q : List CaptureLine) : LeftReading q (q.filter (fun d => decide (d.stage ≠ .reading))) where
  length := List.length_filter_le _ _
  lines := fun c hc _ => by simpa using hc
  refs := (List.filter_sublist.filter _).filterMap _

theorem heldRefs_markReleased (q : List CaptureLine) :
    heldRefs (markReleased q) = heldRefs (q.filter (fun d => decide (d.stage ≠ .reading))) := by
  induction q with
  | nil => rfl
  | cons c rest ih =>
    simp only [heldRefs, markReleased, List.map_cons, List.filter_cons] at ih ⊢
    by_cases hr : c.stage = .reading
    · simpa [hr] using ih
    · by_cases hs : c.stage = .released
      · simpa [hs] using ih
      · cases ho : c.owner <;> simpa [hr, hs, ho] using ih

theorem leftReading_markReleased (q : List CaptureLine) : LeftReading q (markReleased q) where
  length := (List.length_map _).le
  lines := fun c hc hs => by
    obtain ⟨d, hd, rfl⟩ := List.mem_map.mp hc
    split at hs
    · exact absurd rfl hs
    · rename_i hr
      rw [if_neg hr]
      exact ⟨hd, hr⟩
  refs := heldRefs_markReleased q ▸ (leftReading_filter q).refs

theorem Tracked.leaveReading {s : State} {x : PriceState} (h : Tracked s) (ht : x.table = s.price.table)
    (hq : LeftReading s.price.queue x.queue) : Tracked (s.setPrice x) :=
  h.setCaptures ht hq.length (fun c hc hs => ⟨c, (hq.lines c hc hs).1, hs, rfl⟩) hq.refs

/-- R112: once the READING line has left, its line of a request is neither held nor handed over. -/
theorem Tracked.freed_of_leftReading {s : State} {x : PriceState} (h : Tracked s) (hq : LeftReading s.price.queue x.queue)
    {c : CaptureLine} (hc : c ∈ s.price.queue) (hreading : c.stage = .reading) {o : LineRef} (ho : c.owner = some o) :
    LineAt (s.setPrice x) o .held ∧ ¬Referenced (s.setPrice x) o := by
  have hs : c.stage ≠ .released := by simp [hreading]
  obtain ⟨o', ho', hl⟩ := h.lines.held c hc hs
  obtain rfl := Option.some.inj (ho.symm.trans ho')
  refine ⟨hl, fun href => ?_⟩
  rcases href with hhanded | hheld
  · obtain ⟨p, hp, hpo⟩ := mem_handedRefs.mp hhanded
    exact absurd (lineAt_unique h.txns hl (h.lines.handed p hp o hpo)) (by simp)
  · obtain ⟨d, hd, hds, hdo⟩ := mem_heldRefs.mp hheld
    obtain ⟨hdq, hdr⟩ := hq.lines d hd hds
    have hcd : c = d := eq_of_nodup_filterMap h.lines.heldOnce (List.mem_filter.mpr ⟨hc, decide_eq_true hs⟩)
      (List.mem_filter.mpr ⟨hdq, decide_eq_true hds⟩) ho hdo
    exact hdr (hcd ▸ hreading)

theorem Tracked.letGo {s : State} {c : CaptureLine} (h : Tracked s) (hc : c ∈ s.price.queue) (hreading : c.stage = .reading) :
    Tracked (letGo c s) := by
  have hleft := h.leaveReading (x := { s.price with queue := markReleased s.price.queue }) rfl (leftReading_markReleased _)
  unfold Machine.letGo
  dsimp only
  split
  · rename_i o ho
    obtain ⟨hl, hfree⟩ := h.freed_of_leftReading (x := { s.price with queue := markReleased s.price.queue })
      (leftReading_markReleased _) hc hreading ho
    exact hleft.handLine hl hfree fun r hr ht => hleft.active_of_lineAt hl (by simp) hr ht
  · exact hleft

theorem Tracked.discardHeld {s : State} {c : CaptureLine} (h : Tracked s) (hc : c ∈ s.price.queue)
    (hreading : c.stage = .reading) : Tracked (discardHeld c s) := by
  have hleft := h.leaveReading (x := { s.price with queue := s.price.queue.filter (fun d => decide (d.stage ≠ .reading)) }) rfl
    (leftReading_filter _)
  unfold Machine.discardHeld
  dsimp only
  split
  · rename_i o ho
    exact hleft.recordRefusal (h.freed_of_leftReading (leftReading_filter _) hc hreading ho).2
  · exact hleft

/-- R115: the capture read of a held line is compared. -/
theorem Tracked.captured {old : Line} {s : State} (h : Tracked s) : Tracked (captured old s) := by
  have hidle : Tracked (s.setPrice { s.price with access := .idle }) := h.watchSide (watchSide_setPrice rfl (.refl _))
  unfold Machine.captured
  dsimp only
  split
  · rename_i c hc
    have hreading : c.stage = .reading := by simpa using List.find?_some hc
    have hmem : c ∈ s.price.queue := List.mem_of_find?_eq_some hc
    have hcompared := watchSide_comparePrice old c.data c.addr (s.setPrice { s.price with access := .idle })
    have hqueue : c ∈ (comparePrice old c.data c.addr (s.setPrice { s.price with access := .idle })).2.price.queue := by
      rw [hcompared.queue]
      exact hmem
    exact .ite ((hidle.watchSide hcompared).letGo hqueue hreading) ((hidle.watchSide hcompared).discardHeld hqueue hreading)
  · exact hidle

theorem Tracked.completeCapture {b : Bool} {s : State} (h : Tracked s) : Tracked (completeCapture b s) := by
  unfold Machine.completeCapture
  split
  · rename_i ha _
    exact (h.aside (aside_releaseSlot (port_of_grantedAccess ha))).captured
  · exact h

/-! ### A capture read is issued (R114) -/

theorem heldRefs_markReading (q : List CaptureLine) : heldRefs (markReading q) = heldRefs q := by
  induction q with
  | nil => rfl
  | cons c rest ih =>
    unfold markReading
    split
    · rename_i hw
      simp [heldRefs, hw, List.filterMap_cons]
    · simp only [heldRefs, List.filter_cons] at ih ⊢
      split
      · simp only [List.filterMap_cons, ih]
      · exact ih

theorem length_markReading (q : List CaptureLine) : (markReading q).length = q.length := by
  induction q with
  | nil => rfl
  | cons c rest ih =>
    unfold markReading
    split
    · rfl
    · exact congrArg Nat.succ ih

theorem mem_markReading {q : List CaptureLine} {c : CaptureLine} (hc : c ∈ markReading q) (hs : c.stage ≠ .released) :
    ∃ d ∈ q, d.stage ≠ .released ∧ d.owner = c.owner := by
  induction q with
  | nil => simp [markReading] at hc
  | cons x rest ih =>
    unfold markReading at hc
    split at hc
    · rename_i hw
      rcases List.mem_cons.mp hc with rfl | hc
      · exact ⟨x, List.mem_cons_self, by simp [hw], rfl⟩
      · exact ⟨c, List.mem_cons_of_mem _ hc, hs, rfl⟩
    · rcases List.mem_cons.mp hc with rfl | hc
      · exact ⟨c, List.mem_cons_self, hs, rfl⟩
      · obtain ⟨d, hd, hx⟩ := ih hc
        exact ⟨d, List.mem_cons_of_mem _ hd, hx⟩

theorem Tracked.captureReadIssue {s s' : State} (e : execCaptureReadIssue s = .next s') (h : Tracked s) : Tracked s' := by
  unfold execCaptureReadIssue at e
  split at e
  · refine SideKeeper.guarded e (sideKeeper_trackedAlone.issueAccess (h.setCaptures rfl (length_markReading _).le
      (fun c hc hs => mem_markReading hc hs) (by simp only [heldRefs_markReading]; exact .refl _))) h
  · obtain rfl := Host.Outcome.next.inj e
    exact h

/-! ### Grants (R15) -/

theorem countBounded_waitMore {x : Slot} (h : CountBounded x) : CountBounded x.waitMore := by
  cases x with
  | waiting a n => exact Nat.min_le_right _ _
  | empty => exact h
  | granted a => exact h

theorem Tracked.grantPassed {p : PassedLine} {rest : List PassedLine} {s : State} (h : Tracked s) (hport : s.mem.port = .idle)
    (hq : s.mem.queue = p :: rest) : Tracked (grantPassed p rest s) := by
  refine h.setMem ?_ ?_ fun src => ?_
  · rw [passedLines_of_idle hport, hq]
    exact .refl _
  · rw [hq]
    exact List.sublist_cons_self p rest
  · rw [PerSource.get_map]
    exact countBounded_waitMore (h.slots src)

/-! ### A passed line completes (R12) -/

/-- R12: the line at the port has completed; its line of a request is neither handed over nor held any more. -/
theorem Tracked.portDone {s : State} {p : PassedLine} (h : Tracked s) (hport : s.mem.port = .passed p) (dram : Memory) :
    Tracked (portIdle (s.setMem { s.mem with dram := dram })) ∧
      ∀ o, p.owner = some o → ¬Referenced (portIdle (s.setMem { s.mem with dram := dram })) o := by
  have hpassed : passedLines s.mem = p :: s.mem.queue := passedLines_of_passed hport
  have hleft : passedLines (portIdle (s.setMem { s.mem with dram := dram })).mem = s.mem.queue := passedLines_of_idle rfl
  refine ⟨h.setMem ?_ (.refl _) h.slots, fun o ho href => ?_⟩
  · rw [hpassed]
    exact (hleft ▸ List.sublist_cons_self p s.mem.queue)
  · have hline := h.lines.handed p (hpassed ▸ List.mem_cons_self) o ho
    rcases href with hhanded | hheld
    · unfold handedRefs at hhanded
      rw [hleft] at hhanded
      have honce := h.lines.handedOnce
      rw [hpassed, List.filterMap_cons_some ho, List.nodup_cons] at honce
      exact honce.1 hhanded
    · obtain ⟨c, hc, hs, hco⟩ := mem_heldRefs.mp hheld
      obtain ⟨o', ho', hl⟩ := h.lines.held c hc hs
      obtain rfl := Option.some.inj (hco.symm.trans ho')
      exact absurd (lineAt_unique h.txns hline hl) (by simp)

theorem heldRefs_sublist_of_unreleased {q : List CaptureLine} {f : CaptureLine → Bool} :
    (heldRefs (q.filter f)).Sublist (heldRefs q) := (List.filter_sublist.filter _).filterMap _

/-- Lines leave the capture queue. -/
theorem Tracked.filterCaptures {s : State} (h : Tracked s) (f : CaptureLine → Bool) :
    Tracked (s.setPrice { s.price with queue := s.price.queue.filter f }) :=
  h.setCaptures rfl (List.length_filter_le _ _) (fun c hc hs => ⟨c, List.mem_of_mem_filter hc, hs, rfl⟩)
    heldRefs_sublist_of_unreleased

theorem Tracked.completeWrite {p : PassedLine} {s : State} (h : Tracked s) (hport : s.mem.port = .passed p) :
    Tracked (completeWrite p s) := by
  obtain ⟨hdone, hfree⟩ := h.portDone hport (Memory.writeLine s.mem.dram p.addr p.mask p.data)
  have hgood : Tracked (recordGood p.owner 0 (portIdle
      (s.setMem { s.mem with dram := Memory.writeLine s.mem.dram p.addr p.mask p.data }))) := by
    unfold recordGood
    split
    · rename_i o ho
      exact hdone.setOutcome (hfree o ho) (by simp)
    · exact hdone
  have hcommitted : Tracked (commitCarried p.commit (recordGood p.owner 0 (portIdle
      (s.setMem { s.mem with dram := Memory.writeLine s.mem.dram p.addr p.mask p.data })))) := by
    unfold commitCarried
    split
    · exact sideKeeper_trackedAlone.commitEntry hgood
    · exact hgood
  refine .ite ?_ hcommitted
  unfold releasedDone
  dsimp only
  split
  · exact (hcommitted.filterCaptures _).watchSide (watchSide_removeEntry _ _ _)
  · exact hcommitted.filterCaptures _

theorem aside_observeRead (cls : InitClass) (role : Role) (addr index : Nat) (l : Line) (s : State) :
    Aside s (observeRead cls role addr index l s) := by
  unfold observeRead
  split
  · exact .of_watchSide (watchSide_observeLabelRead _ _)
  · exact (sideKeeper_asideFrom s).observeExport (.refl s)
  · exact .refl s

theorem Tracked.completeRead {p : PassedLine} {s : State} (h : Tracked s) (hport : s.mem.port = .passed p) :
    Tracked (completeRead p s) := by
  obtain ⟨hdone, hfree⟩ := h.portDone hport s.mem.dram
  unfold Machine.completeRead
  dsimp only
  split
  · exact hdone
  · rename_i o ho
    split
    · exact hdone
    · split
      · exact (hdone.aside (aside_observeRead _ _ _ _ _ _)).setOutcome
          (by rw [(aside_observeRead _ _ _ _ _ _).referenced]; exact hfree o ho) (by simp)
      · exact hdone

end Sys2Proof.Machine
end

section
/-! PROOFS. The tracking of lines under the loads, the resets and the power-fail hold (R16, R17, R189, R191), and under every
step: the invariant of R1, R2, R12, R14, R26, R48, R113, R123 and R158. -/

namespace Sys2Proof.Machine

open Sys2Proof Sys2Proof.Safety

/-! ### Requests that wait for the bootstrap page (R191) -/

/-- A started request, which is not a guest's. -/
def Underway (t : Fin 64) (s : State) : Prop := ∀ r ∈ s.link.requests, r.txn = t → r.progress ≠ .queued ∧ r.cls ≠ .guest

theorem Underway.of_requests {t : Fin 64} {s s' : State} (h : Underway t s) (e : s'.link.requests = s.link.requests) :
    Underway t s' := by
  unfold Underway
  rw [e]
  exact h

theorem Underway.ready {t : Fin 64} {s : State} (h : Underway t s) : Ready t s := fun r hr ht => by
  obtain ⟨hstarted, hguest⟩ := h r hr ht
  exact ⟨hstarted, fun hg => absurd hg hguest⟩

theorem Underway.of_refuses {t : Fin 64} {s s' : State} (h : Underway t s) (g : Refuses s s') : Underway t s' := by
  intro r' hr' ht
  obtain ⟨r, hr, hrr⟩ := g.entries r' hr'
  obtain ⟨htxn, hcls, hprogress, _⟩ := undecided_eq hrr
  rw [hprogress, hcls]
  exact h r hr (htxn.symm.trans ht)

theorem Underway.activate {t : Fin 64} {s : State} (h : Underway t s) (t' : Fin 64) : Underway t (activate t' s) :=
  forall_mem_updateRequest h fun r hr _ ht => ⟨by simp, (h r hr ht).2⟩

theorem Underway.handLine {t t' : Fin 64} {k : Nat} {c : Option EntryCommit} {b : Bool} {s : State} (h : Underway t s) :
    Underway t (handLine t' k c b s) := by
  rcases handLine_requests t' k c b s with e | e
  · exact h.of_requests e
  · exact (Underway.of_requests (s := updateLine t' k (fun l => { l with stage := .handed }) s)
      (forall_mem_updateRequest h fun r hr _ => h r hr) e)

/-- R7: while the lines of one such request take effect, it and the others stay so. -/
theorem Underway.runLines {t t' : Fin 64} (n : Nat) {s : State} (h : Underway t s) (h' : Underway t' s) :
    Underway t (runLines t' n s) := by
  induction n generalizing s with
  | zero => exact h
  | succ n ih =>
    unfold Machine.runLines
    split
    · exact h
    · rename_i r hr
      obtain ⟨hmem, ht⟩ := findRequest_mem hr
      have hguest : r.cls ≠ .guest := (h' r hmem ht).2
      split
      · rw [guestStage_of_not_guest hr hguest]
        exact h
      · split
        · exact h
        · exact ih ((h.activate t').of_refuses (refuses_recordRefusal _ _ _ _))
            ((h'.activate t').of_refuses (refuses_recordRefusal _ _ _ _))
        · split
          · exact h
          · exact ih (h.activate t').handLine (h'.activate t').handLine

theorem Tracked.runWaiters (ts : List (Fin 64)) {s : State} (h : Tracked s) (ht : ∀ t ∈ ts, Underway t s) :
    Tracked (ts.foldl (fun s t => runRequest t s) s) := by
  induction ts generalizing s with
  | nil => exact h
  | cons t ts ih =>
    have hfirst := ht t List.mem_cons_self
    exact ih (h.runLines 5 hfirst.ready) fun t' ht' => (ht t' (List.mem_cons_of_mem t ht')).runLines 5 hfirst

theorem underway_of_waiter {t : Fin 64} {s : State} (h : Tracked s) (ht : t ∈ bootstrapWaiters s) : Underway t s := by
  obtain ⟨_, hwaits⟩ := List.mem_filter.mp ht
  split at hwaits
  · rename_i hline
    exact (turn_of_turnLine h hline).entry
  · simp at hwaits

/-! ### Loads (R191, R192) -/

theorem Tracked.endBootstrap {o : LoadOrigin} {b : Bool} {f : Found} {s : State} (h : Tracked s) :
    Tracked (endBootstrap o b f s) := by
  have hloader : ∀ {u : State} (x : LoaderState), Tracked u → Tracked (u.setLoader x) :=
    fun _ hu => sideKeeper_trackedAlone.setLoader hu
  have hidle : Tracked (s.setLoader { s.loader with load := .idle }) := hloader _ h
  cases f with
  | absent => exact hloader _ hidle
  | bad n => exact hloader _ hidle
  | valid i n =>
    refine .ite (hloader _ hidle) (Tracked.runWaiters _ (hloader _ ((hidle.aside (aside_applyImage i false b _)).arise _)) ?_)
    refine fun t ht => (underway_of_waiter hidle ht).of_requests ?_
    have himage := (aside_applyImage i false b (s.setLoader { s.loader with load := .idle })).trans
      (.of_watchSide (watchSide_arise (.start .valid n) _))
    exact himage.requests

theorem Tracked.completeImageRead {b : Bool} {s : State} (h : Tracked s) : Tracked (completeImageRead b s) := by
  unfold Machine.completeImageRead
  split
  · rename_i ha _ _
    have hread : Tracked ((releaseSlot .configLoader s).setLoader
        { (releaseSlot .configLoader s).loader with access := .idle }) :=
      sideKeeper_trackedAlone.setLoader (h.aside (aside_releaseSlot (port_of_grantedAccess ha)))
    refine .ite hread.endBootstrap ?_
    unfold imageLine
    exact .ite hread.endBootstrap (.ite hread.endBootstrap
      (sideKeeper_trackedAlone.readNext (sideKeeper_trackedAlone.setLoader hread)))
  · exact h

theorem Tracked.eepromReadComplete {x : EepromRead} {s s' : State} (e : execEepromReadComplete x s = .next s')
    (h : Tracked s) : Tracked s' := by
  unfold execEepromReadComplete at e
  split at e <;> obtain rfl := Host.Outcome.next.inj e
  · exact .ite h.endBootstrap
      (sideKeeper_trackedAlone.endReload (fun _ _ hf => Keeper.windowsOk_of_judgeEeprom hf) h)
  · exact h

/-! ### Grants (R15) -/

theorem Tracked.grantInserted {src : Source} {a : Access} {s : State} (h : Tracked s) (hport : s.mem.port = .idle) :
    Tracked (grantInserted src a s) := by
  have hgranted : Tracked (s.setMem { s.mem with
      port := .inserted src, slots := s.mem.slots.put src (.granted a), lastGranted := src }) := by
    refine h.setMem ?_ (.refl _) (countBounded_put h.slots trivial)
    rw [passedLines_of_idle hport]
    exact .refl _
  exact .ite (sideKeeper_trackedAlone.completeBeyond hgranted.completeCapture hgranted.completeImageRead hgranted) hgranted

theorem Tracked.dramGrant {s : State} (h : Tracked s) (hport : s.mem.port = .idle) : Tracked (grant s) := by
  unfold grant
  split
  · exact h
  · exact h.grantInserted hport
  · rename_i hq _
    exact h.grantPassed hport hq
  · rename_i hq _
    exact .ite (h.grantInserted hport) (h.grantPassed hport hq)

/-! ### The link reset (R16) -/

theorem passedLines_orphaned (m : MemState) (ps : List PassedLine) :
    passedLines { m with port := m.port.orphaned, queue := ps.map PassedLine.orphaned } =
      (passedLines { m with queue := ps }).map PassedLine.orphaned := by
  unfold passedLines
  cases m.port <;> rfl

/-- The state of the lines after the requests are dropped: what is left was handed over and has no owner. -/
theorem linesTracked_of_dropped {s : State} (hrequests : s.link.requests = [])
    (hcounted : ((passedLines s.mem).filter (fun p => decide (p.kind = .write ∧ p.owner = none))).length ≤ 128)
    (howners : ∀ p ∈ passedLines s.mem, p.owner = none) (horphans : ∀ p ∈ s.mem.queue, p.owner = none → p.kind = .write)
    (hreleased : ∀ c ∈ s.price.queue, c.stage = .released) (hcaptures : s.price.queue.length ≤ 4)
    (hguest : s.guest.queue = []) : LinesTracked s where
  counted := by simpa [hrequests] using hcounted
  orphans := horphans
  handed := fun p hp o ho => by simp [howners p hp] at ho
  handedOnce := by
    rw [List.filterMap_eq_nil_iff.mpr howners]
    exact List.nodup_nil
  awaiting := by simp [hrequests]
  captures := by simp [hrequests]
  capturePlaces := by simpa [hrequests] using hcaptures
  deferralPlaces := by simp [hrequests, hguest]
  held := fun c hc hs => absurd (hreleased c hc) hs
  heldOnce := by
    rw [List.filter_eq_nil_iff.mpr fun c hc => by simp [hreleased c hc]]
    exact List.nodup_nil

/-- R16, R30, R121, R164: the requests, the held lines and the deferred requests are dropped. -/
def linesDropped (s : State) : State :=
  let s := dropRequests s
  let s := s.setGuard { s.guard with lock := match s.guard.lock with | .open => .locked | x => x }
  let s := s.setGuest { s.guest with queue := [] }
  s.setPrice { s.price with
    queue := (s.price.queue.filter (fun c => decide (c.stage = .released))).map (fun c => { c with owner := none }) }

theorem Tracked.linesDropped {s : State} (h : Tracked s) : Tracked (linesDropped s) where
  requests := Nat.zero_le _
  log := h.log
  reports := h.reports
  table := h.table
  slots := h.slots
  txns := List.nodup_nil
  items := h.items
  lines := by
    have hpassed : passedLines (Machine.linesDropped s).mem =
        (passedLines { s.mem with queue := s.mem.queue.filter (fun p => decide (p.kind = .write)) }).map
          PassedLine.orphaned := passedLines_orphaned s.mem _
    refine linesTracked_of_dropped rfl ?_ ?_ ?_ ?_ ?_ rfl
    · have hwrites := length_writes_le h.lines
      have hsub : (passedLines { s.mem with queue := s.mem.queue.filter (fun p => decide (p.kind = .write)) }).Sublist
          (passedLines s.mem) := by
        unfold passedLines
        dsimp only
        split
        · exact List.filter_sublist.cons_cons _
        · exact List.filter_sublist
      rw [hpassed, List.filter_map, List.length_map]
      refine ((hsub.filter _).length_le.trans (List.monotone_filter_right _ fun p hp => ?_).length_le).trans hwrites
      obtain ⟨hkind, _⟩ : p.orphaned.kind = .write ∧ p.orphaned.owner = none := of_decide_eq_true hp
      exact decide_eq_true hkind
    · rw [hpassed]
      intro p hp
      obtain ⟨q, _, rfl⟩ := List.mem_map.mp hp
      rfl
    · intro p hp _
      obtain ⟨q, hq, rfl⟩ := List.mem_map.mp hp
      exact of_decide_eq_true (List.mem_filter.mp hq).2
    · intro c hc
      obtain ⟨d, hd, rfl⟩ := List.mem_map.mp hc
      exact of_decide_eq_true (List.mem_filter.mp hd).2
    · have hcaptures := h.lines.capturePlaces
      have hle := List.length_filter_le (fun c : CaptureLine => decide (c.stage = .released)) s.price.queue
      change (List.map _ _).length ≤ 4
      rw [List.length_map]
      exact hle.trans (by omega)

theorem aside_setSlots {s : State} {x : MemState} (hport : x.port = s.mem.port) (hq : x.queue = s.mem.queue)
    (hs : (∀ src, CountBounded (s.mem.slots.get src)) → ∀ src, CountBounded (x.slots.get src)) : Aside s (s.setMem x) :=
  .of_mem (by unfold passedLines; rw [hport, hq]) hq hs

theorem Tracked.linkReset {s s' : State} (e : execLinkReset s = .next s') (h : Tracked s) : Tracked s' := by
  obtain rfl := Host.Outcome.next.inj e
  refine sideKeeper_trackedAlone.labelLinkReset ?_
  have hdropped := h.linesDropped
  unfold priceLinkReset
  dsimp only
  split
  · exact hdropped
  · exact sideKeeper_trackedAlone.setPrice (s := State.setMem _ _) rfl (.refl _)
      (hdropped.aside (aside_setSlots rfl rfl fun hs => countBounded_put hs trivial))
  · exact hdropped

/-! ### The power-fail hold (R17) -/

theorem Tracked.answerRetries (ts : List (Fin 64)) {s : State} (h : Tracked s)
    (hidle : ∀ t ∈ ts, ∀ r ∈ s.link.requests, r.txn = t → r.progress ≠ .active) :
    Tracked (ts.foldl (fun s t => Machine.answerRetry t s) s) := by
  induction ts generalizing s with
  | nil => exact h
  | cons t ts ih =>
    exact ih (h.answerRetry (hidle t List.mem_cons_self)) fun t' ht' r hr =>
      hidle t' (List.mem_cons_of_mem t ht') r (List.mem_of_mem_filter hr)

theorem Tracked.holdBegin {s s' : State} (e : execPowerFailHoldBegin s = .next s') (h : Tracked s) : Tracked s' := by
  unfold execPowerFailHoldBegin at e
  split at e <;> obtain rfl := Host.Outcome.next.inj e
  · exact h
  · have hanswered : Tracked ((unstarted s).foldl (fun s t => Machine.answerRetry t s) s) :=
      h.answerRetries _ fun t ht r hr hrt => by
        obtain ⟨q, hq, hqt⟩ := List.mem_map.mp ht
        obtain ⟨hmem, hidle⟩ := List.mem_filter.mp hq
        obtain rfl := request_unique h.txns hr hmem (hrt.trans hqt.symm)
        exact of_decide_eq_true hidle
    refine hanswered.aside (aside_setSlots rfl rfl fun hs src => ?_)
    simp only [holdMem, PerSource.get_map]
    have hslot := hs src
    cases hx : ((unstarted s).foldl (fun s t => Machine.answerRetry t s) s).mem.slots.get src with
    | empty => trivial
    | waiting a n => trivial
    | granted a => trivial

/-! ### The start-up (R189, R196) -/

theorem restoreEntry_item (e : WatchEntry) : (restoreEntry e).item = e.item := rfl

theorem tracked_restoredBase (arrivals : List (Fin 64)) {s : State} (h : Tracked s) : Tracked (restoredBase arrivals s) := by
  have hempty : ∀ u : State, u.link.requests = [] → u.guard.log = [] → u.reports.pending = [] → u.mem.port = .idle →
      u.mem.queue = [] → u.mem.slots = State.reset.mem.slots → u.price.queue = [] → u.guest.queue = [] →
      u.price.table.length ≤ 256 → ItemsDistinct u → Tracked u :=
    fun u hl hg hr hport hq hs hp hd ht hi =>
    { requests := by rw [hl]; exact Nat.zero_le _
      log := by rw [hg]; exact Nat.zero_le _
      reports := by rw [hr]; exact Nat.zero_le _
      table := ht
      slots := fun src => by rw [hs]; cases src <;> trivial
      txns := by unfold TxnsDistinct; rw [hl]; exact List.nodup_nil
      items := hi
      lines := linesTracked_of_empty hl hport hq hp hd }
  unfold restoredBase
  split
  · refine hempty _ rfl rfl rfl rfl rfl rfl rfl rfl ?_ ?_
    · exact (List.length_map _).le.trans h.table
    · exact (items_sublist_map s.price.table restoreEntry_item).nodup h.items
  · exact hempty _ rfl rfl rfl rfl rfl rfl rfl rfl (Nat.zero_le _) List.nodup_nil

theorem Tracked.startUp (x : EepromRead) (pfail : Bool) (arrivals : List (Fin 64)) {s : State} (h : Tracked s) :
    Tracked (startUp x pfail arrivals s) := by
  have hbase := tracked_restoredBase arrivals h
  have himage : ∀ f u, Tracked u → Tracked (startImage f u).2.2 := fun f u hu => by
    unfold startImage
    split
    · exact hu
    · exact hu
    · split
      · exact hu
      · exact hu.aside (aside_applyImage _ _ _ u)
  rw [startUp_eq (r := (startImage (judgeEeprom x) (restoredBase arrivals s)).1)
    (f := (startImage (judgeEeprom x) (restoredBase arrivals s)).2.1) rfl]
  have hstarted := (himage (judgeEeprom x) _ hbase).arise (.start (startImage (judgeEeprom x) (restoredBase arrivals s)).1
    (startImage (judgeEeprom x) (restoredBase arrivals s)).2.1)
  exact (sideKeeper_trackedAlone.endTest (.ite hstarted (hstarted.arise .retainLost))).aside (aside_setSlots rfl rfl id)

/-! ### Every step -/

theorem Tracked.pacingExpiry {s : State} (h : Tracked s) : Tracked (Machine.pacingCheck (s.setGuest
    { s.guest with timer := max s.guest.timer s.guest.inForce.pace })) :=
  (h.setGuest_of_le (x := { s.guest with timer := max s.guest.timer s.guest.inForce.pace }) le_rfl).pacingCheck

theorem Tracked.onPath {c : Instr} (hc : SideKeeper.OnPath c) {s s' : State} (e : exec c s = .next s') (h : Tracked s) :
    Tracked s' := by
  have hnext : ∀ {u : State}, Tracked u → (Host.Outcome.next u : Host.Outcome State Fault Refusal) = .next s' → Tracked s' :=
    fun hu he => Host.Outcome.next.inj he ▸ hu
  cases hc with
  | request r =>
    change execRequest r s = _ at e
    unfold execRequest at e
    split at e <;> obtain rfl := Host.Outcome.next.inj e
    · exact h.aside (aside_sendCompletion _ _)
    · rename_i hretry
      exact h.request (by simpa using hretry)
  | requestStart t => exact h.requestStart e
  | journalEntry t => exact h.journalEntry e
  | priceWriteCapture t => exact h.priceWriteCapture e
  | acknowledgement t => exact h.acknowledgement e
  | dramGrant =>
    change Host.Outcome.next (if s.mem.port = .idle ∧ s.mem.hold = false then grant s else s) = _ at e
    split at e
    · rename_i hidle
      exact hnext (h.dramGrant hidle.1) e
    · exact hnext h e
  | passedWriteComplete =>
    change execPassedWriteComplete s = _ at e
    unfold execPassedWriteComplete at e
    split at e
    · rename_i hport
      exact hnext (.ite (h.completeWrite hport) h) e
    · exact hnext h e
  | passedReadComplete =>
    change execPassedReadComplete s = _ at e
    unfold execPassedReadComplete at e
    split at e
    · rename_i hport
      exact hnext (.ite (h.completeRead hport) h) e
    · exact hnext h e
  | captureReadIssue => exact h.captureReadIssue e
  | captureReadComplete => exact hnext h.completeCapture e
  | periodBoundary =>
    exact hnext (Tracked.watchSide (watchSide_labelBoundary _) (sideKeeper_trackedAlone.setTime h).guestBoundary) e
  | pacingExpiry => exact hnext h.pacingExpiry e
  | imageReadComplete => exact hnext h.completeImageRead e
  | eepromReadComplete x => exact h.eepromReadComplete e
  | linkReset => exact h.linkReset e
  | powerFailHoldBegin => exact h.holdBegin e
  | startUp x p as => exact hnext (h.startUp x p as) e

theorem stores_tracked (b : Bool) : SideKeeper.Stores Tracked b :=
  fun _ {_ _ _ _} h => h.aside (.of_mem rfl rfl id)

theorem Tracked.idle {s : State} (h : Tracked s) : Tracked (idle s) :=
  sideKeeper_trackedAlone.idle (sideKeeper_trackedAlone.microsecond
    (h.setGuest_of_le (x := { s.guest with timer := min (s.guest.timer + 1) Config.pacingTop }) le_rfl).pacingCheck
    fun _ hu => hu.guestBoundary) h

theorem Tracked.step {s s' : State} (e : step s = .next s') (h : Tracked s) : Tracked s' := by
  unfold Machine.step at e
  split at e
  · obtain rfl := Host.Outcome.next.inj e
    exact h.idle
  · rename_i c rest _
    have hrest : Tracked (s.setPending rest) := sideKeeper_trackedAlone.setPending h
    exact sideKeeper_trackedAlone.exec (fun _ => stores_tracked false) (fun hc => Tracked.onPath hc e hrest)
      (fun _ _ _ _ hcontrol hboot => hrest.takeRecord hcontrol hboot) e hrest

/-- Settles O5: `Tracked`, the bounds without those that the tracking of lines implies, is kept by every operation beside the
request path, by the operations on one entry and on one line, and so by every row. -/
theorem everyStepKeepsBounds : Obligations.EveryStepKeepsBounds := by
  unfold Obligations.EveryStepKeepsBounds
  exact fun s s' h e => tracked_iff.mp (Tracked.step e (tracked_iff.mpr h))

end Sys2Proof.Machine
end
